-- ==== Sys2Proof/Word.lean ====
section
/-! DEFINITION. Sys2Proof/Word.lean: the word types of the TRM-7256 and nothing else. -/
namespace Sys2Proof

/-- One byte. -/
abbrev Byte := BitVec 8

/-- One register: 32 bits, little-endian (chapter 00, Names). -/
abbrev Word := BitVec 32

/-- One queue word or one word of a 64-bit register pair (R574, R13). -/
abbrev Word64 := BitVec 64

end Sys2Proof
end

