-- ==== Sys2Proof/Machine/Tbl.lean ====
section
/-! DEFINITION. Sys2Proof/Machine/Tbl.lean: sparse tables as plain data. A table is a list of (key, value) pairs
with keys strictly rising and no entry equal to what an unlisted key reads as, so that equal tables are equal
data. The value of an unlisted key is an argument of every operation. -/
namespace Sys2Proof.Machine

/-- A sparse table. -/
abbrev Tbl (α : Type) := List (Nat × α)

/-- The value under key k; `d` where the key is not listed. -/
def Tbl.get {α : Type} (t : Tbl α) (d : α) (k : Nat) : α :=
  match t with
  | [] => d
  | (k', v) :: r => if k = k' then v else Tbl.get r d k

/-- The table without key k. -/
def Tbl.del {α : Type} (t : Tbl α) (k : Nat) : Tbl α := t.filter fun e => e.1 != k

/-- The table with v listed under key k. -/
def Tbl.put {α : Type} (t : Tbl α) (k : Nat) (v : α) : Tbl α :=
  match t with
  | [] => [(k, v)]
  | (k', v') :: r => if k < k' then (k, v) :: (k', v') :: r else if k = k' then (k, v) :: r else (k', v') :: Tbl.put r k v

/-- The table with v under key k; listed only where v differs from `d`. -/
def Tbl.set {α : Type} [DecidableEq α] (t : Tbl α) (d : α) (k : Nat) (v : α) : Tbl α := if v = d then t.del k else t.put k v

/-- The table with the value under k changed by f. -/
def Tbl.upd {α : Type} [DecidableEq α] (t : Tbl α) (d : α) (k : Nat) (f : α → α) : Tbl α :=
  t.set d k (f (t.get d k))

/-- Every key of a table is above `lo`, and keys rise. -/
def Tbl.above {α : Type} (lo : Nat) : Tbl α → Bool
  | [] => true
  | (k, _) :: r => decide (lo < k) && Tbl.above k r

/-- The canonical form: keys strictly rising, no value equal to what its key reads as when unlisted. -/
def Tbl.wf {α : Type} [DecidableEq α] (d : Nat → α) (t : Tbl α) : Bool :=
  (match t with
   | [] => true
   | (k, _) :: r => Tbl.above k r) && t.all fun e => decide (e.2 ≠ d e.1)

/-- Apply f to every listed value, dropping those that become `d`. -/
def Tbl.mapVals {α : Type} [DecidableEq α] (t : Tbl α) (d : α) (f : Nat → α → α) : Tbl α :=
  t.filterMap fun (k, v) => if f k v = d then none else some (k, f k v)

/-- The listed pairs that satisfy p. -/
def Tbl.keep {α : Type} (t : Tbl α) (p : Nat → α → Bool) : Tbl α := t.filter fun (k, v) => p k v

end Sys2Proof.Machine
end

