-- ==== Sys2Proof/Machine/Types.lean ====
section
/-! DEFINITION. Sys2Proof/Machine/Types.lean: the plain data shared by every block: who makes an access, a message,
the clock, an error log, a hardware queue. -/
namespace Sys2Proof.Machine

/-- Who makes an access (R20, R591). `part`: the part itself; `dma`: the DMA engine of port A. -/
inductive Who where
  | core (n : Nat)
  | host
  | sepia
  | gauntlet
  | dma
  | part
  deriving DecidableEq, Repr

/-- How a message reached the part: the path of the node table (1 fabric, 2 T1S, 3 CAN, 4 mesh), its number,
and the address it came from (R331). -/
structure Via where
  path : Nat
  num : Nat
  bus : Nat
  ipv6 : Bool
  ip : Nat
  port : Nat
  deriving DecidableEq, Repr

/-- One Atkai message as received (R320): the header fields, the number of bytes received, whether the KMAC256 tag
verifies under the key that SRC, TYPE and KEY_GEN name (R322), and the payload. `rsvZero`: every reserved header
field is zero. -/
structure AtkMsg where
  version : Nat
  ty : Nat
  sub : Nat
  flags : Nat
  src : Nat
  dst : Nat
  seq : Nat
  len : Nat
  keyGen : Nat
  time : Nat
  rsvZero : Bool
  recvLen : Nat
  tagOk : Bool
  payload : List Byte
  via : Via
  deriving DecidableEq, Repr

/-- One Atkai message as sent (R320, R322): TIME is the site time at which it was built, SEQ the stream's counter
(R706), `tag` the tag under the key of the exchange. `path`, `num`, `bus`: the entry of the node table it went to
(R330); a broadcast names the medium. `ctr`: on CAN the message counter of its destination (R345). Assumption log: 10 (DESIGN CHOICE). -/
structure OutMsg where
  ty : Nat
  sub : Nat
  hipri : Bool
  src : Nat
  dst : Nat
  seq : Nat
  keyGen : Nat
  time : Nat
  path : Nat
  num : Nat
  bus : Nat
  payload : List Byte
  ctr : Nat
  tag : BitVec 128
  deriving DecidableEq, Repr

/-- Other things the block drives outward, in order: what a head, a bus, a port or a partner sees. `dev` names the
interface, `num` which one, `data` the words or bytes sent. Assumption log: 10 (DESIGN CHOICE). -/
structure OutEvt where
  dev : String
  num : Nat
  data : List Nat
  deriving DecidableEq, Repr

/-- The site-time counter (R26, R659): nanoseconds, the fraction of a nanosecond in units of 10^-9 ns, the rate
correction in parts per billion, and datapath cycles since reset. -/
structure Clk where
  now : Nat
  frac : Nat
  rate : Int
  cyc : Nat
  deriving DecidableEq, Repr

/-- One error record (R591); `time` is the site time at which it was written. -/
structure ErrRec where
  cls : Nat
  code : Nat
  init : Nat
  detail : Nat
  addr : Nat
  aux : Nat
  time : Nat
  deriving DecidableEq, Repr

/-- The error log of a block (R591 to R595): the records held, oldest first, the open classes as a bit mask (bit
class - 1), and the three counters. -/
structure ErrLog where
  recs : List ErrRec
  openCls : Nat
  second : Bool
  ovf : Bool
  ceCnt : Word
  ovfCnt : Word
  escCnt : Word
  deriving DecidableEq, Repr

/-- The error log after reset: empty (chapter 14, ERR_STAT reset 0). -/
def ErrLog.init : ErrLog := ⟨[], 0, false, false, 0, 0, 0⟩

/-- A packet in the fill bank: the reserved length slot (R578), whether its length word has been written and its
value, the body words in order, whether the LAST word has been written, and when the packet was opened. -/
structure QPkt where
  slot : Option Nat
  len : Option Nat
  body : List Word64
  done : Bool
  since : Nat
  deriving DecidableEq, Repr

/-- One hardware queue (R574 to R585, R709, R710): the fill bank as packets in the order written, the unread words
of the drain bank packet by packet in the order R576 presents them (`cur`: the rest of the packet being read), the rewind mark as what was unread at it, DISCARD, which bank fills, the flags of Qn_FLAGS, the two counters, and whether the packet being read has already had its PARITY record (R581). -/
structure Queue where
  fill : List QPkt
  cur : List Word64
  drain : List (List Word64)
  mark : Option (List (List Word64))
  discard : Bool
  bank1 : Bool
  markLost : Bool
  flushed : Bool
  abandon : Bool
  overrun : Bool
  ovrCnt : Word
  poisonCnt : Word
  curBad : Bool
  deriving DecidableEq, Repr

/-- A queue after reset: empty (Qn_STAT reset 0x4000_0000). -/
def Queue.init : Queue := ⟨[], [], [], none, false, false, false, false, false, false, 0, 0, false⟩

/-- The path by which a node is reached (R330). -/
structure NodeEnt where
  id : Nat
  path : Nat
  num : Nat
  learned : Bool
  ipv6 : Bool
  bus : Nat
  ip : Nat
  port : Nat
  deriving DecidableEq, Repr

/-- An unused entry of the node table. -/
def NodeEnt.init : NodeEnt := ⟨0, 0, 0, false, false, 0, 0, 0⟩

/-- The state of one received stream (R28, R324, R705). -/
structure Stream where
  seen : Bool
  seq : Nat
  time : Nat
  acceptedAt : Nat
  deriving DecidableEq, Repr

/-- A stream on which nothing has been accepted. -/
def Stream.init : Stream := ⟨false, 0, 0, 0⟩

/-- A key slot of a node (R323): the current generation, and the previous one with the time of its replacement. -/
structure KeyGen where
  held : Bool
  gen : Nat
  prev : Option Nat
  replacedAt : Nat
  deriving DecidableEq, Repr

/-- No key. -/
def KeyGen.init : KeyGen := ⟨false, 0, none, 0⟩

end Sys2Proof.Machine
end

