-- ==== Sys2Proof/Machine/TyCtle.lean ====
section
/-! DEFINITION. Sys2Proof/Machine/TyCtle.lean: the state of CTLE, its slots and profile generators (chapter 04), and of
SETPOINT receivers. -/
namespace Sys2Proof.Machine

/-- The nine shadowed words of a slot (R159), as evaluations use them. -/
structure Coef where
  kp : Int
  ki : Int
  kd : Int
  kf : Int
  outMin : Int
  outMax : Int
  iMin : Int
  iMax : Int
  deadband : Nat
  dsh : Nat
  deriving DecidableEq, Repr

/-- The Reset column of the slot table. -/
def Coef.init : Coef := ⟨0, 0, 0, 0, -2147483648, 2147483647, -2147483648, 2147483647, 0, 0⟩

/-- A change of the active set that waits for its 40 ns (R158, R159, R163): one word by its place in the record, or the
whole shadow set with a shadowed integrator. Assumption log: 48 (DEDUCED). -/
inductive CoefChange where
  | word (place : Nat) (v : Word)
  | all (c : Coef) (i : Option Int)
  deriving DecidableEq, Repr

/-- A measurement: its value, its time stamp (none: never stale by age), and whether its own status marks it stale. -/
structure Meas where
  val : Int
  at_ : Option Nat
  stale : Bool
  deriving DecidableEq, Repr

/-- One slot beyond its record's writable words. `i`: the integrator, units 2^-16; `iSh`: a shadowed integrator
(R162); `pvPrev`: none before the first evaluation after an enable; `held`: evaluations held in the present run of
staleness; `alarmed`: the present run of misses has its MISS record; `sat`: 0, 1 high, 2 low; `lastT`: start of the last evaluation; `done`: whether there has been one; `sentWin`:
the TX_MS window last sent in, plus one (R173). -/
structure Slot where
  act : Coef
  pend : List (Nat × CoefChange)
  i : Int
  iSh : Option Int
  dstate : Int
  pvPrev : Option Int
  out : Int
  err : Int
  pv : Int
  missRun : Nat
  alarmed : Bool
  fault : Bool
  held : Option Nat
  iHeld : Bool
  sat : Nat
  invLim : Bool
  evalCnt : Nat
  lastT : Nat
  done : Bool
  actVer : Nat
  sentWin : Nat
  deriving DecidableEq, Repr

def Slot.init : Slot :=
  ⟨Coef.init, [], 0, none, 0, none, 0, 0, 0, 0, false, false, none, false, 0, false, 0, 0, false, 0, 0⟩

/-- One segment of a planned motion: its length in units of 2^-96 s, and its jerk, units/s³. -/
structure Leg where
  dur : Nat
  jerk : Int
  deriving DecidableEq, Repr

/-- A profile generator (R165 to R172, R708). Position, velocity and acceleration at the plan's start `t0`, in units of
2^-96 of a unit, a unit per second and a unit per second squared; the plan as segments; the target it ends at. `x`: the
published position. `ovr`: GSTAT.OVERSHOOT. `reduce`: how long the reduction of R169 lasts. `drop`: the offset is to be
taken into x (R708). -/
structure Gen where
  t0 : Nat
  x0 : Int
  v0 : Int
  a0 : Int
  plan : List Leg
  goal : Int
  replan : Bool
  x : Int
  ovr : Bool
  reduce : Nat
  ofs : Int
  drop : Bool
  deriving DecidableEq, Repr

def Gen.init : Gen := ⟨0, 0, 0, 0, [], 0, false, 0, false, 0, 0, false⟩

/-- A channel of a SETPOINT receiver (R174 to R176): the newest accepted message, and when its power is down. -/
structure SetpRx where
  value : Int
  until_ : Nat
  fall : Nat
  zeroAt : Option Nat
  deriving DecidableEq, Repr

def SetpRx.init : SetpRx := ⟨0, 0, 1, some 0⟩

/-- CTLE. `lastFrame`: the last frame run, plus one; `lastTick`: the last tick whose step 4 ran, plus one. `rx`: SETPOINT
receivers' channels, by node and channel. -/
structure CtleSt where
  slot : Tbl Slot
  gen : Tbl Gen
  lastFrame : Nat
  lastTick : Nat
  rx : Tbl SetpRx
  deriving DecidableEq, Repr

def CtleSt.init : CtleSt := ⟨[], [], 0, 0, []⟩

/-- What goes wrong during an evaluation round, as the hardware senses it: evaluations that do not start in time (R155),
evaluations whose residue check fails (R140), slot and generator records with an uncorrectable memory error (R177). -/
structure CtlEv where
  miss : List Nat
  residue : List Nat
  memSlot : List Nat
  memGen : List Nat
  deriving DecidableEq, Repr

end Sys2Proof.Machine
end

