-- ==== Sys2Proof/Machine/TyBoot.lean ====
section
/-! DEFINITION. Sys2Proof/Machine/TyBoot.lean: boot, resets, the quiet state and the supplies (chapters 16 and 17). -/
namespace Sys2Proof.Machine

/-- The kinds of reset that SYS.RST_CAUSE tells apart, by its bits. -/
inductive RstCause where
  | porSupply | porCore | porSw | warmSw | warmWdt | warmPll | warmLc | warmTamper | quietWake | imageRej
  deriving DecidableEq, Repr

def RstCause.bit : RstCause → Nat
  | .porSupply => 0 | .porCore => 1 | .porSw => 2 | .warmSw => 3 | .warmWdt => 4 | .warmPll => 5 | .warmLc => 6
  | .warmTamper => 7 | .quietWake => 8 | .imageRej => 9

/-- The voltages that the supervisor watches, mV, and for how long PORST_N has been low, ns (R678). -/
structure Rails where
  vhv : Nat
  core : Nat
  vdd18 : Nat
  vdd1 : Nat
  vdd33 : Nat
  vdd2h : Nat
  vddq : Nat
  porstLow : Nat
  deriving DecidableEq, Repr

/-- A section of an image as its bytes lie (R650): its place in the image, its header, its payload, the first byte past it, and
whether the zero bytes of its tail are zero. -/
structure Sect where
  dir : Nat
  start : Nat
  head : List Byte
  body : List Byte
  stop : Nat
  tail : Bool
  deriving DecidableEq, Repr

/-- Why an image is rejected (R655): the code, the tag of the section where one is at fault, the byte offset in it where a byte
is. -/
structure Rej where
  code : Nat
  tag : Option Nat
  ofs : Option Nat
  deriving DecidableEq, Repr

/-- A record of an RLIST (R653): its offset in the section, its address, SAME, its words. -/
structure RRec where
  ofs : Nat
  addr : Nat
  same : Bool
  words : List Word
  deriving DecidableEq, Repr

/-- Boot and supplies. `held`: PD1 to PD8 are held in reset; `super`: the supervisor holds power-on reset, `clearAt`: when its
last condition cleared, on `rtc`. `rtc`: nanoseconds counted by PD0. `low`: the supervisor's comparators that have tripped, by
place. `base`, `len`: the flash extent of the image last started; `chosen`: the boot ROM has started an image that is not yet
loaded. `rescan`: when the scan of R647 is due, on `rtc`. `quiet`: the quiet state. `committed`: the site has made its first
commit since its start. `kick`: the last kick of the watchdog; `warned`: WDT_WARN has been set since. `vbat`: PD0 runs from VBAT.
`tick`: the last tick run or abandoned, plus one. `rtcL`: `rtc` and legal time when Sepia last stopped. `fw`: the payload of the
legal-core firmware section in Sepia's memory. `cut`: Sepia's next start follows a power cut.
Assumption log: `clearAt` 194 (DEDUCED). -/
structure BootSt where
  held : Bool
  super : Bool
  clearAt : Nat
  rtc : Nat
  low : List Nat
  base : Nat
  len : Nat
  chosen : Bool
  rescan : Option Nat
  quiet : Bool
  committed : Bool
  kick : Nat
  warned : Bool
  vbat : Bool
  tick : Nat
  rtcL : Option (Nat × Int)
  fw : List Byte
  cut : Bool
  deriving DecidableEq, Repr

def BootSt.init : BootSt := ⟨false, false, 0, 0, [], 0, 0, false, none, false, false, 0, false, false, 0, none, [], true⟩

/-- What goes wrong, and how long it takes, in one allocation tick: what the hardware senses in step 4; dispensers whose residue
check fails in step 3; a residue failure in step 5 and in step 6; an uncorrectable error found in the active model copy;
the cycles at which step 6 ends and at which step 7 ends. -/
structure TickEv where
  ctl : CtlEv
  residue : List Nat
  allocRes : Bool
  leaseRes : Bool
  allocUe : Bool
  commitAt : Nat
  cycles : Nat
  deriving DecidableEq, Repr

/-- What the trusted boot finds that the model does not compute: the tags of sections whose signature does not verify, and how far
the RTC has run from legal time, ns. Assumption log: 192 (DESIGN CHOICE). -/
structure BootEv where
  badSig : List Nat
  rtcErr : Int
  deriving DecidableEq, Repr

end Sys2Proof.Machine
end

