-- ==== Sys2Proof/Machine/TyHlm.lean ====
section
/-! DEFINITION. Sys2Proof/Machine/TyHlm.lean: what Helmet holds (chapter 11). Link, metering, pair and group keys stand in
`Io.keys`, under the keys of R322. -/
namespace Sys2Proof.Machine

/-- A slot of the key store: class code of R465, generated inside, and the number of its public key. -/
structure KeySlot where
  cls : Nat
  gen : Bool
  pub : Nat
  deriving DecidableEq, Repr

/-- The identity: the numbers of the Ed448 and the X448 public key, and the device certificate. Assumption log: 132 (DESIGN CHOICE). -/
structure Identity where
  ed : Nat
  x : Nat
  cert : List Byte
  deriving DecidableEq, Repr

/-- A request to the port of the secure SRAM: a word address, and the data of a write. -/
structure SramReq where
  addr : Nat
  write : Option Word64
  deriving DecidableEq, Repr

/-- What the crypto engine or the Helmet DMA, and Sepia, newly ask of the secure SRAM in one cycle (R488). -/
structure SramCycle where
  engine : Option SramReq
  sepia : Option SramReq
  deriving DecidableEq, Repr

/-- Helmet. Fuses: `lc` LC_COUNT, `returned`, `idKill`, `prog` and `revoked` one bit per owner slot, `owners` the hashes,
the rollback counters `svnT`, `svnU`, `svnC`. Key store: `ident`, `slots`, `kuCtr`, `wipeDone`. `mask`: the PD0 mask holds.
`pend`: tamper erasure waiting for power. `keysLost`: STAT.KEYS_LOST. `rngBad`: site time of the last failure of a health test,
while it lasts. `svnPend`: SVNs to commit with the site's first commit, by counter. `sram`: the secure SRAM, by word.
`lcNew`: a transition has completed since the last start. -/
structure HlmSt where
  lc : Nat
  returned : Bool
  idKill : Bool
  prog : Nat
  revoked : Nat
  owners : Tbl (List Byte)
  svnT : Nat
  svnU : Nat
  svnC : Nat
  ident : Option Identity
  slots : Tbl (Option KeySlot)
  kuCtr : Nat
  wipeDone : Bool
  mask : Bool
  pend : Bool
  keysLost : Bool
  rngBad : Option Nat
  svnPend : Tbl Nat
  sram : Tbl Word64
  lcNew : Bool
  deriving DecidableEq, Repr

/-- How a KEY_UPDATE reaches Helmet (R480): through the mailbox, or as an Atkai message. -/
inductive KuSrc where
  | mbx (who : Who)
  | atk (m : AtkMsg)
  deriving DecidableEq, Repr

/-- Every fuse unblown, the key store empty. Assumption log: 8 (DESIGN CHOICE). -/
def HlmSt.init : HlmSt :=
  ⟨0, false, false, 0, 0, [], 0, 0, 0, none, [], 0, true, true, false, false, none, [], [], false⟩

end Sys2Proof.Machine
end

