-- ==== Sys2Proof/Machine/TyMem.lean ====
section
/-! DEFINITION. Sys2Proof/Machine/TyMem.lean: the data of chapter 14 and 16: memories, scratchpad ports, flash, boot. -/
namespace Sys2Proof.Machine

/-- One access at a scratchpad port (R563, R569). `eng` 0 is port A with its initiator `who`; 2 to 9 is port B of the
engine with that owner code. `addr` is the byte offset in the scratchpad, `size` 1, 2, 4 or 8. `ecc` says what the
check code of the word shows when it is read: 0 no error, 1 a single-bit error, 2 an uncorrectable error (R586,
R587). -/
structure SpAcc where
  eng : Nat
  who : Who
  write : Bool
  addr : Nat
  size : Nat
  data : Nat
  ecc : Nat
  deriving DecidableEq, Repr

/-- A flash operation in progress (R642): operation code and address. -/
structure FlOp where
  op : Nat
  addr : Nat
  deriving DecidableEq, Repr

/-- The memories and what tests them. Memories are lists of (address, byte) in canonical form; an unlisted scratchpad
or DRAM byte reads 0, an unlisted flash byte reads 0xFF. `mitNext`: the region Mitten tests next. `mitAt`: the site
time from which Mitten may test it (R571). `scrubNext`: the 64-byte unit of the scrubber. `dramBad`: the 64-bit words
of DRAM that read as uncorrectable (R588). `extN`: the ball XSPI_EXT_N is low (R643). Assumption log: 7 (PRESUMED). -/
structure MemSt where
  spm : Tbl Byte
  dram : Tbl Byte
  dramBad : List Nat
  flash : Tbl Byte
  flOp : Option FlOp
  extN : Bool
  mitNext : Nat
  mitAt : Nat
  scrubNext : Nat
  deriving DecidableEq, Repr

def MemSt.init : MemSt := ⟨[], [], [], [], none, false, 0, 0, 0⟩

end Sys2Proof.Machine
end

