-- ==== Sys2Proof/Machine/TyAlloc.lean ====
section
/-! DEFINITION. Sys2Proof/Machine/TyAlloc.lean: the state of ALLOC (chapter 02). -/
namespace Sys2Proof.Machine

/-- The states of a cabinet's route, coded as in the ROUTE record (R76, R86). -/
inductive RState where
  | free | bound | draining | opening | closing | fault
  deriving DecidableEq, Repr

/-- The route of one cabinet (R74 to R79, R703, R704). `disp`: the dispenser it is bound to. `next`: the dispenser it
goes to after it opens. `deadline`: the timer of the present state. `cmdId`: ROUTE_ID of the last command. `query`:
the deadline of an unanswered QUERY. `shown`: a report has shown it open since (R77). `drainOk`: consecutive reports
at or below I_ZERO. `unavail`: consecutive passes unavailable. -/
structure Route where
  st : RState
  disp : Option Nat
  next : Option Nat
  deadline : Option Nat
  cmdId : Nat
  query : Option Nat
  shown : Bool
  drainOk : Nat
  unavail : Nat
  deriving DecidableEq, Repr

def Route.init : Route := ⟨.free, none, none, none, 0, none, false, 0, 0⟩

/-- A cabinet's latest CAB_STATUS (R70, R328). -/
structure CabIn where
  seen : Bool
  at_ : Nat
  st : Nat
  iMa : Int
  vMv : Nat
  pAc : Int
  tMax : Int
  timeHeld : Bool
  inForce : Bool
  applied : Nat
  measAt : Nat
  deriving DecidableEq, Repr

def CabIn.init : CabIn := ⟨false, 0, 0, 0, 0, 0, 0, false, false, 0, 0⟩

/-- The shedding state of a dispenser (R68): in SHED, its hold deadline, and whether R65 put it there. -/
structure Shed where
  shed : Bool
  hold : Nat
  supply : Bool
  deriving DecidableEq, Repr

def Shed.init : Shed := ⟨false, 0, false⟩

/-- A ROUTE record waiting for the next packet (R86): cabinet, dispenser, state, reason, ROUTE_ID. -/
structure RouteRec where
  cab : Nat
  disp : Option Nat
  st : RState
  reason : Nat
  id : Nat
  deriving DecidableEq, Repr

/-- ALLOC. Model copies are byte tables; an unlisted byte is 0. `pd`, `pc`, `ps`: the committed solution, W. `pi`: node
prices, Q16.16. `flow`: p_in of the last commit. `hi`, `lo`: the bounds of R701 in the last commit. `lastRec`: power
and flags of an element's last Q0 record (dispenser d at d, source s at 0x1000 + s, cabinet c at 0x2000 + c).
`swapAt`: the earliest tick start at which a validated swap takes effect. `lastTick`, `lastPass`: the last tick and
routing pass run, plus one. `placed`: R78 or R81 has been applied since reset.
`ue`: the active model copy holds an uncorrectable error (R90).
Assumption log: `routeId` 27 (DESIGN CHOICE). -/
structure AllocSt where
  model : Tbl Byte
  modelP : Tbl Byte
  swapAt : Option Nat
  cold : Bool
  pd : Tbl Int
  pc : Tbl Int
  ps : Tbl Int
  pi : Tbl Int
  flow : Tbl Int
  hi : Tbl Int
  lo : Tbl Int
  shed : Tbl Shed
  route : Tbl Route
  cab : Tbl CabIn
  unserved : Tbl Nat
  idle : Tbl Nat
  lastRec : Tbl (Int × Nat)
  recs : List RouteRec
  routeId : Nat
  routePtr : Nat
  lastTick : Nat
  lastPass : Nat
  placed : Bool
  ue : Bool
  deriving DecidableEq, Repr

def AllocSt.init : AllocSt :=
  ⟨[], [], none, false, [], [], [], [], [], [], [], [], [], [], [], [], [], [], 0, 0, 0, 0, false, false⟩

/-- What the tick's inputs say of one dispenser (R39, R40, R45): session and its start, the bounds from the vehicle,
the credits and the loop in watts, which inputs R39 treats as stale, the voltage of R45 in mV, and the least
current-valued bound of R93 in mA (none where no bound is a current). -/
structure DispIn where
  sess : Bool
  start : Nat
  hi : Int
  lo : Int
  staleS : Bool
  staleC : Bool
  staleL : Bool
  v : Nat
  iMax : Option Int
  deriving DecidableEq, Repr

def DispIn.init : DispIn := ⟨false, 0, 0, 0, false, false, false, 50000, none⟩

/-- What the tick's inputs say of one buffer source: the PNT limits, W, zero where stale (R39). -/
structure SrcIn where
  dis : Int
  chg : Int
  stale : Bool
  deriving DecidableEq, Repr

def SrcIn.init : SrcIn := ⟨0, 0, true⟩

end Sys2Proof.Machine
end

