-- ==== Sys2Proof/Machine/TyLease.lean ====
section
/-! DEFINITION. Sys2Proof/Machine/TyLease.lean: the state of LEASE and of the lease holders (chapter 03). -/
namespace Sys2Proof.Machine

/-- One emitted lease as Gauntlet and reconciliation need it (R41, R42, R113). -/
structure LEntry where
  start : Nat
  expiry : Nat
  p : Int
  i : Int
  fall : Nat
  deriving DecidableEq, Repr

/-- The run of a reconciliation condition (R114 to R116): consecutive reports with it, consecutive reports without
it, and whether its record has been written. -/
structure Run where
  on : Nat
  off : Nat
  written : Bool
  deriving DecidableEq, Repr

def Run.init : Run := ⟨0, 0, false⟩

/-- One lease chain. `hist`: the leases emitted, newest first, as far back as a ceiling can still depend on them.
`pend`: grants without an ACK yet, LEASE_ID and deadline (R109). `noack`: the present run of misses has produced a
NOACK record. `plainExp`: EXPIRY of the last lease without WIND; `quiet`: consecutive reports of R123.
Assumption log: `seq` 32 (DESIGN CHOICE). -/
structure Chain where
  has : Bool
  seq : Nat
  lid : Nat
  hist : List LEntry
  pend : List (Nat × Nat)
  miss : Nat
  noack : Bool
  result : Nat
  hstate : Nat
  ovr : Run
  sign : Run
  flow : Run
  plainExp : Nat
  quiet : Nat
  deriving DecidableEq, Repr

def Chain.init : Chain := ⟨false, 0, 0, [], [], 0, false, 0, 0, Run.init, Run.init, Run.init, 0, 0⟩

/-- A grant as a holder keeps it. -/
structure Grant where
  lid : Nat
  seq : Nat
  start : Nat
  expiry : Nat
  target : Nat
  node : Nat
  p : Int
  i : Int
  ramp : Nat
  fall : Nat
  flags : Nat
  epoch : Nat
  deriving DecidableEq, Repr

/-- The states of a lease holder (R104). -/
inductive HState where
  | noLease | inForce | rundown
  deriving DecidableEq, Repr

/-- A lease holder (R98 to R108): its lease in force, the accepted grants that wait for their START, the newest EPOCH
and SEQ accepted (none once forgotten), whether its site time is held, when RUNDOWN ends, since when no lease has
been in force.
Assumption log: `noneAt` 35 (DESIGN CHOICE). -/
structure Holder where
  st : HState
  cur : Option Grant
  wait : List Grant
  last : Option (Nat × Nat)
  timeHeld : Bool
  downAt : Nat
  noneAt : Nat
  deriving DecidableEq, Repr

def Holder.init : Holder := ⟨.noLease, none, [], none, true, 0, 0⟩

/-- LEASE. `count`: the unit's grant counter. `fresh`: the next renewal is the first of its epoch (TAKEOVER).
`epochSet`: R120 or R121 has been applied since reset. `holdUntil`: end of the hold-off of R121; `holdArm`: the
hold-off starts at the first commit.
Assumption log: `count` 32 (DESIGN CHOICE). -/
structure LeaseSt where
  chain : Tbl Chain
  count : Nat
  fresh : Bool
  epochSet : Bool
  holdArm : Bool
  holdUntil : Option Nat
  holders : Tbl Holder
  deriving DecidableEq, Repr

def LeaseSt.init : LeaseSt := ⟨[], 0, true, false, false, none, []⟩

end Sys2Proof.Machine
end

