-- ==== Sys2Proof/Machine/TyMtr.lean ====
section
/-! DEFINITION. Sys2Proof/Machine/TyMtr.lean: what Sepia's metering holds (chapter 10). -/
namespace Sys2Proof.Machine

/-- A profile entry (R432). -/
structure ProfEnt where
  imp : Nat
  exp : Nat
  iv : Nat
  tariff : Nat
  flags : Nat
  legalS : Nat
  dImp : Nat
  dExp : Nat
  deriving DecidableEq, Repr

/-- A reading of a head's counters (R438, R439): legal time in ns, local civil time in ms, the two counters. -/
structure Reading where
  l : Int
  civil : Int
  imp : Nat
  exp : Nat
  deriving DecidableEq, Repr

/-- A block: what Sepia keeps of an accepted METER_BLOCK (R404, R455). -/
structure MBlock where
  seq : Nat
  meas : Nat
  ctrId : Nat
  imp : Nat
  exp : Nat
  headErr : Bool
  deriving DecidableEq, Repr

/-- An open transaction (R438 to R440). `at_`: site time of the command; `start`: none until the opening reading;
`closeAt`: the close instant; `ending`: until when the closing reading is awaited; tariff vectors in mWh by tariff.
`mark`: the first block accepted since SESS has shown the dispenser in IDLE or ENDED, with the tariff vectors then. -/
structure Txn where
  seq : Nat
  at_ : Nat
  start : Option Reading
  auth : List Byte
  flags : Nat
  tarImp : Tbl Nat
  tarExp : Tbl Nat
  closeAt : Option Nat
  ending : Option Nat
  mark : Option (MBlock × Tbl Nat × Tbl Nat)
  deriving DecidableEq, Repr

/-- Token entry on a channel (R448): times of refused results, the lock's end, its length, when it was last set. -/
structure TokLock where
  bad : List Nat
  until_ : Nat
  len : Nat
  setAt : Nat
  deriving DecidableEq, Repr

def TokLock.init : TokLock := ⟨[], 0, 0, 0⟩

/-- Energy of a channel: totals and tariff registers, mWh; the totals when the open interval opened; deltas that belong to
the interval after it; the fractions of a meter point in units of 2^-32 W times 125 µs; the credit. -/
structure MEnergy where
  imp : Nat
  exp : Nat
  tarImp : Tbl Nat
  tarExp : Tbl Nat
  imp0 : Nat
  exp0 : Nat
  nextImp : Nat
  nextExp : Nat
  accImp : Nat
  accExp : Nat
  credit : Int
  deriving DecidableEq, Repr

def MEnergy.init : MEnergy := ⟨0, 0, [], [], 0, 0, 0, 0, 0, 0, 0⟩

/-- A channel (R398). `st`: CSTAT's STATE. `ref`: the last accepted block; `acceptedAt`: site time of its acceptance.
`bad`: a run of refusals is going on; `refused`: their count. `flags`: those of the open interval (R432). Demand maxima and
their intervals. `ring`: the profile ring, oldest first, of which the last `unarch` are not archived. `badPw`, `pw`:
consecutive residue failures, and the last power of a meter point. -/
structure MtrCh where
  st : Nat
  ref : Option MBlock
  acceptedAt : Nat
  bad : Bool
  refused : Nat
  e : MEnergy
  flags : Nat
  maxImp : Nat
  maxExp : Nat
  maxImpIv : Nat
  maxExpIv : Nat
  prepay : Bool
  txn : Option Txn
  ring : List ProfEnt
  unarch : Nat
  lock : TokLock
  badPw : Nat
  pw : Int
  deriving DecidableEq, Repr

def MtrCh.init : MtrCh :=
  ⟨0, none, 0, false, 0, MEnergy.init, 0, 0, 0, 0, 0, false, none, [], 0, TokLock.init, 0, 0⟩

/-- A log entry: L, event code, detail; `dig` numbers the digest of its chain. -/
structure LogEnt where
  l : Int
  code : Nat
  detail : List Byte
  dig : Nat
  deriving DecidableEq, Repr

/-- A page of the archive (R442): kind 1 PROFILE, 2 TXN, 3 LOG, 4 BILLING; the place in its region; the bytes. -/
structure Page where
  kind : Nat
  ch : Nat
  seq : Nat
  count : Nat
  writeL : Int
  place : Nat
  bytes : List Byte
  deriving DecidableEq, Repr

/-- A billing record (R429): a channel's image at the boundary with interval number `iv`. -/
structure BillRec where
  iv : Nat
  ch : Nat
  imp : Nat
  exp : Nat
  tarImp : Tbl Nat
  tarExp : Tbl Nat
  maxImp : Nat
  maxExp : Nat
  deriving DecidableEq, Repr

/-- A calibration window (R414): RUN, its ends, the element's energy at them. -/
structure CalRun where
  run : Nat
  t0 : Nat
  t1 : Nat
  e0 : Option Int
  e1 : Option Int
  deriving DecidableEq, Repr

/-- The legal clock (R415 to R422): D in ns; the slew in progress (site time at which it began and D then); the L last
written to MRAM; whether site time has been held since the start; the adjustments, with those of the last 24 h of L
(L, magnitude); TAI-UTC and whether PTP supplies it. -/
structure LClock where
  d : Int
  slew : Option Nat
  saved : Int
  held : Bool
  fault : Bool
  rtcLost : Bool
  adj : Int
  recent : List (Int × Nat)
  tai : Int
  fromPtp : Bool
  deriving DecidableEq, Repr

def LClock.init : LClock := ⟨0, none, 0, false, false, false, 0, [], 0, false⟩

/-- The open interval: its number, tariff, the L at which it opened, the L from which it runs in this powered period, and
the ns of L before it. -/
structure IvSt where
  on : Bool
  iv : Nat
  tariff : Nat
  openL : Int
  since : Int
  acc : Int
  deriving DecidableEq, Repr

def IvSt.init : IvSt := ⟨false, 0, 0, 0, 0, 0⟩

/-- The archive (R441 to R446): pages held, next PAGE_SEQ, next place of each region, FULL by region, FAULT, the page being
written, transaction records and billing records not yet archived, archived log entries, and since when the oldest of
them waits. -/
structure ArchSt where
  pages : List Page
  seq : Nat
  next : Tbl Nat
  full : Nat
  fault : Bool
  busy : Option Page
  txns : List (Nat × List Byte)
  bills : List BillRec
  logDone : Nat
  txnSince : Option Int
  logSince : Option Int
  billSince : Option Int
  deriving DecidableEq, Repr

def ArchSt.init : ArchSt := ⟨[], 0, [], 0, false, none, [], [], 0, none, none, none⟩

/-- Sepia's metering. `lp`: the legal-parameter section. `ch`: channels; `nv`: the MRAM copy of the meter points, which
integrate between commits. `active`, `pending`: the calendar slots, empty lists where empty. `sealCnt`: fuse-held.
`tids`: the token ring, ascending. `kept`: on STANDBY the newest block of each channel. `sync`: ledger deltas apply.
`elemE`: each element's active energy, units of 2^-32 W times 125 µs. `clear`: when a check value shown is cleared.
`hmi`: HMI records for heads, waiting for SESS. `halt`: PROFILE_HALT. `key`: the number of METER_KEY's public key, none
where no key is held; `unsigned`: transaction records that wait for one (R496): channel, TXN_SEQ, what comes before SIGNER
and after it. `sampleAt`: the last metrology sample.
Assumption log: `txnSeq` 125 (DESIGN CHOICE). -/
structure MtrSt where
  lp : Tbl Byte
  check : List Byte
  running : Bool
  ch : Tbl MtrCh
  nv : Tbl MtrCh
  clk : LClock
  iv : IvSt
  active : List Byte
  pending : List Byte
  calSeen : Bool
  txnSeq : Nat
  perm : List LogEnt
  roll : List LogEnt
  sealCnt : Nat
  arch : ArchSt
  tids : List Nat
  ledger : Nat
  sync : Bool
  kept : Tbl (Option MBlock)
  elemE : Tbl Int
  calRun : Tbl (Option CalRun)
  clear : Tbl Nat
  hmi : List (Nat × List Byte)
  halt : Bool
  key : Option Nat
  unsigned : List (Nat × Nat × List Byte × List Byte)
  sampleAt : Nat
  deriving DecidableEq, Repr

def MtrSt.init : MtrSt :=
  ⟨[], [], false, [], [], LClock.init, IvSt.init, [], [], false, 0, [], [], 0, ArchSt.init, [], 0, true, [], [], [], [], [],
   false, none, [], 0⟩

/-- A ledger delta (R455): a channel's new state, and the token ring where it changed. -/
structure LedgerDelta where
  seq : Nat
  ch : Nat
  st : MtrCh
  tids : Option (List Nat)
  deriving DecidableEq, Repr

end Sys2Proof.Machine
end

