-- ==== Sys2Proof/Machine/TySess.lean ====
section
/-! DEFINITION. Sys2Proof/Machine/TySess.lean: the state of SESS and XCR, and of the dispenser heads (chapter 07). -/
namespace Sys2Proof.Machine

/-- The session states of R293, coded as in R315. -/
inductive SState where
  | idle | plugged | link | setup | cableCheck | precharge | energy | paused | stopping | discharge | ended | fault
  deriving DecidableEq, Repr

def SState.code : SState → Nat
  | .idle => 0 | .plugged => 1 | .link => 2 | .setup => 3 | .cableCheck => 4 | .precharge => 5 | .energy => 6
  | .paused => 7 | .stopping => 8 | .discharge => 9 | .ended => 10 | .fault => 11

/-- What the vehicle has said: target current and voltage, maxima and minimum, magnitudes in mA, mV and W (none: it
gave none), the control mode, bidirectional service, and its latest target voltage in the pre-charge phase (R300). -/
structure EvVals where
  tgtMa : Int
  tgtMv : Nat
  maxMa : Nat
  maxMv : Option Nat
  maxW : Option Nat
  minW : Nat
  maxDisW : Nat
  dynamic : Bool
  bpt : Bool
  preMv : Nat
  deriving DecidableEq, Repr

def EvVals.init : EvVals := ⟨0, 0, 0, none, none, 0, 0, false, false, 0⟩

/-- The values that one decoded vehicle message carries; none where it does not carry the value. -/
structure EvUpd where
  tgtMa : Option Int
  tgtMv : Option Nat
  maxMa : Option Nat
  maxMv : Option Nat
  maxW : Option Nat
  minW : Option Nat
  maxDisW : Option Nat
  dynamic : Option Bool
  bpt : Option Bool
  deriving DecidableEq, Repr

def EvUpd.none : EvUpd :=
  ⟨Option.none, Option.none, Option.none, Option.none, Option.none, Option.none, Option.none, Option.none, Option.none⟩

/-- The deadlines of R294, site time, and that of the 100 ms of FAULT (R293). `seq` runs from each vehicle request,
`loop` from each charge-loop request; each counts only in the states R294 names. -/
structure STimers where
  link : Option Nat
  setup : Option Nat
  seq : Option Nat
  loop : Option Nat
  cable : Option Nat
  prechg : Option Nat
  stop : Option Nat
  disch : Option Nat
  fault : Option Nat
  deriving DecidableEq, Repr

def STimers.init : STimers := ⟨none, none, none, none, none, none, none, none, none⟩

/-- A slow-path request without an answer (R289, R290, R310): TXN, message code, event words, deadline. -/
structure SlowReq where
  txn : Nat
  code : Nat
  words : List Nat
  due : Nat
  deriving DecidableEq, Repr

/-- Counters of a session: reports that contradict the last CTL command (R298) and that command's CMD_ID, reports at
residual current (R293), reports over E_Y_LIM (R303). -/
structure SRuns where
  contra : Nat
  id : Nat
  resid : Nat
  y : Nat
  deriving DecidableEq, Repr

def SRuns.init : SRuns := ⟨0, 0, 0, 0⟩

/-- Transport counters of a session (R308, R309): bytes of TCP data received in order and acknowledged, TLS records
received and sent. -/
structure STcp where
  rx : Nat
  ack : Nat
  recIn : Nat
  recOut : Nat
  deriving DecidableEq, Repr

def STcp.init : STcp := ⟨0, 0, 0, 0⟩

/-- One dispenser's session. `since`: when the present state was entered. `pilot`, `lockRb`, `linkRb`: the latest PILOT report. `slac`: SLAC matched or the CAN
handshake seen. `duty`, `lock`: the last PILOT command. `isoOk`: the insulation test of CABLE_CHECK has passed.
`gate`: the word of DISP_WIN.GATE; `gateOk`: the last gate passed. `closed`: what the contactors must show, from the
last CLOSE or OPEN that the head has answered. `ctl`: CTL commands without a response, CMD_ID and OP. `openSent`,
`dischSent`, `released`: CTL OPEN, CTL DISCH_ON and LOCK 0 sent in the present STOPPING or FAULT. `endRx`: the session
end has been received. `fwStop`: R296 waits for the next request. `ctx`: TLS contexts held, newest first. `fastWin`: the
FAST_REPORT_MS window of the last FAST record, plus one.
Assumption log: `ctx` 81 (DESIGN CHOICE). -/
structure Sess where
  st : SState
  since : Nat
  proto : Nat
  cause : Nat
  start : Nat
  pilot : Nat
  lockRb : Nat
  linkRb : Bool
  slac : Bool
  duty : Nat
  lock : Nat
  energyEn : Bool
  floor : Bool
  isoOk : Bool
  gate : Nat
  gateOk : Bool
  closed : Option Bool
  ctl : List (Nat × Nat)
  openSent : Bool
  dischSent : Bool
  released : Bool
  endRx : Bool
  fwStop : Bool
  ctx : List Nat
  fastWin : Nat
  ev : EvVals
  tmr : STimers
  slow : List SlowReq
  run : SRuns
  tcp : STcp
  deriving DecidableEq, Repr

def Sess.init : Sess :=
  ⟨.idle, 0, 0, 0, 0, 0, 0, false, false, 1000, 0, false, false, false, 0, false, none, [], false, false, false, false,
   false, [], 0, EvVals.init, STimers.init, [], SRuns.init, STcp.init⟩

/-- A dispenser's latest HEAD_STATUS (R280); voltages in mV. -/
structure HeadIn where
  seen : Bool
  disch : Bool
  imd : Bool
  timeHeld : Bool
  headFault : Bool
  pos : Bool
  neg : Bool
  weld : Bool
  pilot : Nat
  lock : Nat
  meas : Nat
  iOut : Int
  vOut : Nat
  vCable : Nat
  vPpe : Int
  vNpe : Int
  p : Int
  iso : Nat
  applied : Nat
  at_ : Nat
  deriving DecidableEq, Repr

def HeadIn.init : HeadIn :=
  ⟨false, false, false, false, false, false, false, false, 0, 0, 0, 0, 0, 0, 0, 0, 0, 0, 0, 0⟩

/-- A first fragment waiting for its last (R272). -/
structure Frag where
  bytes : List Byte
  since : Nat
  deriving DecidableEq, Repr

/-- The record that SESS publishes in step 3 (R305): the three values, session and start, and when. -/
structure Pub where
  ma : Int
  w : Int
  lo : Int
  sess : Bool
  start : Nat
  at_ : Nat
  deriving DecidableEq, Repr

/-- XCR's certificate stores: the bytes staged and the address of the next, and the stores in use, by store number
(0 Ed448 chain, 1 P-521 chain, 2 + n anchor n). -/
structure XcrSt where
  stage : Tbl Byte
  addr : Nat
  stores : Tbl (List Byte)
  deriving DecidableEq, Repr

def XcrSt.init : XcrSt := ⟨[], 0, []⟩

/-- A frame that a head holds for TX_AT (R273): its channel, TX_AT, bytes. -/
structure HeadTx where
  ch : Nat
  txAt : Nat
  bytes : List Byte
  deriving DecidableEq, Repr

/-- A dispenser head as one dispenser sees it (R264 to R279): the contactors, the VOLT command in force, discharge,
insulation test, the pilot's DUTY, lock and lines, frames held for TX_AT, first fragments by channel and FRAME_ID, the
head's site time of the last VTUN message, since when the cable side has been at or below 60 000 mV, and whether R279
has acted. -/
structure HeadSt where
  closed : Bool
  volt : Option (Nat × Nat)
  disch : Bool
  iso : Bool
  duty : Nat
  lock : Nat
  lines : Nat
  tx : List HeadTx
  frag : Tbl (Option Frag)
  lastVtun : Nat
  lowSince : Option Nat
  lost : Bool
  deriving DecidableEq, Repr

def HeadSt.init : HeadSt := ⟨false, none, false, false, 1000, 0, 0, [], [], 0, none, false⟩

/-- SESS. `fid`: FRAME_ID by dispenser and channel (dispenser * 8 + channel). `txn`, `cmdId`: the next TXN and CMD_ID of
a dispenser.
Assumption log: `cmdId` 82 (DESIGN CHOICE), `fid` 82 (DESIGN CHOICE), `txn` 82 (DESIGN CHOICE). -/
structure SessSt where
  disp : Tbl Sess
  heads : Tbl HeadIn
  frags : Tbl (Option Frag)
  fid : Tbl Nat
  txn : Tbl Nat
  cmdId : Tbl Nat
  pub : Tbl (Option Pub)
  xcr : XcrSt
  head : Tbl HeadSt
  deriving DecidableEq, Repr

def SessSt.init : SessSt := ⟨[], [], [], [], [], [], [], XcrSt.init, []⟩

/-- What XCR sees of a TLS connection: a ClientHello of version 1.3 whose handshake completes, one of another version,
a handshake that fails or a fatal alert, each with the alert's code. -/
inductive TlsEv where
  | hello
  | oldVersion
  | failed (alert : Nat)
  | fatal (alert : Nat)
  deriving DecidableEq, Repr

/-- The repeating requests that have no row of their own: a charge loop, welding detection, a cyclic CAN frame. -/
inductive FastKind where
  | loop | welding | cyclic
  deriving DecidableEq, Repr

end Sys2Proof.Machine
end

