-- ==== Sys2Proof/Machine/TyThrm.lean ====
section
/-! DEFINITION. Sys2Proof/Machine/TyThrm.lean: the state of THRM: observers, their inputs, coolant circuits (chapter 05),
and of COOL_CMD receivers. -/
namespace Sys2Proof.Machine

/-- What a point offers to a reader (R196): value, site time, marked stale, marked with a hard-limit violation or
delivered with POISON. -/
structure PtIn where
  val : Int
  time : Nat
  stale : Bool
  bad : Bool
  deriving DecidableEq, Repr

/-- One input of an observer (R196): the cause it is lost for, since when none of the conditions has held, the last
plausible value (none since the reset). -/
structure ObsIn where
  lost : Option Nat
  good : Option Nat
  last : Option Int
  deriving DecidableEq, Repr

def ObsIn.init : ObsIn := ⟨none, none, none⟩

/-- OSTAT.STATE. -/
inductive OState where
  | normal | fallback | recovering | fault
  deriving DecidableEq, Repr

/-- An observer at run time. Temperatures are Q16.16 °C. `ins`: inputs by their code of R215. `invSince`, `resSince`:
since when the inversion and residual conditions have held in a row. `resFail`: failed steps in a row (R193). `timer`:
end of RECOVERING. `started`: R199 or R200 has been applied. `tripRun`: steps in a row at or above T_TRIP. -/
structure Obs where
  t1 : Int
  t2 : Int
  t3 : Int
  st : OState
  ins : Tbl ObsIn
  invSince : Option Nat
  resSince : Option Nat
  resFail : Nat
  resid : Int
  timer : Nat
  started : Bool
  iUsed : Int
  fUsed : Int
  rNow : Int
  cred1 : Nat
  cred10 : Nat
  cred60 : Nat
  low : Bool
  high : Bool
  tripRun : Nat
  tripEst : Bool
  tripMeas : Bool
  deriving DecidableEq, Repr

def Obs.init : Obs :=
  ⟨0, 0, 0, .normal, [], none, none, 0, 0, 0, false, 0, 0, 0, 0, 0, 0, false, false, 0, false, false⟩

/-- A coolant circuit (R203 to R207): forced, active, active only by run-on, the time of the last step that made it
active, the demands last delivered, the COOL_MS window a command was last sent in, plus one. -/
structure Circ where
  forced : Bool
  active : Bool
  runon : Bool
  lastOn : Option Nat
  pump : Nat
  valve : Nat
  sentWin : Nat
  deriving DecidableEq, Repr

def Circ.init : Circ := ⟨false, false, false, none, 0, 0, 0⟩

/-- A channel of a COOL_CMD receiver (R208 to R210). `loss`: the LOSS demands apply. -/
structure CoolRx where
  seen : Bool
  pump : Nat
  valve : Nat
  until_ : Nat
  lossPump : Nat
  lossValve : Nat
  loss : Bool
  deriving DecidableEq, Repr

def CoolRx.init : CoolRx := ⟨false, 0, 0, 0, 0, 0, false⟩

/-- THRM. `lastStep`: the last step run, plus one. `rx`: receivers' channels by node and channel. -/
structure ThrmSt where
  obs : Tbl Obs
  circ : Tbl Circ
  lastStep : Nat
  rx : Tbl CoolRx
  deriving DecidableEq, Repr

def ThrmSt.init : ThrmSt := ⟨[], [], 0, []⟩

end Sys2Proof.Machine
end

