-- ==== Sys2Proof/Machine/TyMir.lean ====
section
/-! DEFINITION. Sys2Proof/Machine/TyMir.lean: what MIR holds and what crosses the mirror link (chapter 13). -/
namespace Sys2Proof.Machine

/-- The mirrored state of a tick (R550, R180, R201, R309). `genRegs`: the words of the generators' windows. `tcp`: transport
counters and unanswered requests by dispenser. `pub`: the site time of THRM's last published step. -/
structure MirBody where
  alloc : AllocSt
  chain : Tbl Chain
  count : Nat
  epoch : Nat
  slot : Tbl Slot
  gen : Tbl Gen
  genRegs : Tbl Word
  obs : Tbl Obs
  circ : Tbl Circ
  pub : Nat
  tcp : Tbl (STcp × List SlowReq)
  deriving DecidableEq, Repr

/-- A received frame's header (R550), whether its tag verifies (R541), the pair states it shows (R558), and the offset measured
from its time stamps, partner's site time minus own, ns (R554). Assumption log: 156 (DEDUCED). -/
structure MirHdr where
  state : Nat
  cause : Nat
  tick : Nat
  seq : Nat
  epoch : Nat
  tagOk : Bool
  pairs : List Nat
  ofs : Int
  deriving DecidableEq, Repr

/-- What HELLO carries (R542): configuration measurement, MODEL_VER, READY. -/
structure Hello where
  meas : List Byte
  ver : Nat
  ready : Bool
  deriving DecidableEq, Repr

/-- A full image (R550): every TICK item, every session checkpoint, the ledger. -/
structure MirImage where
  body : MirBody
  sess : Tbl Sess
  ledger : Nat
  chs : Tbl MtrCh
  tids : List Nat
  deriving DecidableEq, Repr

/-- MIR. STATE, READY, MISMATCH, the lanes and the partner's lines stand in MIR.STAT. `started`: start-up is complete. `own`: the
own role line is low; `hb`: the heartbeat runs, `hbOut` its level; `holdAt`: the last refresh of the role hold. `hbAt`:
the partner's last edge; `hbLost`: when its heartbeat was counted lost; `pSince`: the last change of the partner's line.
`claim`: when a claim began. `pState`, `pCause`, `hello`: the partner's, as last shown; `pPairs`: its pairs, with the time
of the frame. `image`: a full image has been applied since SYNC began, `run`: TICK frames without a gap since; `rxSeq`: the
last TICK frame's SEQ. `pend`: a frame to apply at the next tick start. `buf`: the send buffer. `seq`: SEQ by KIND.
`wdt`: R538 has acted on an ACTIVE unit. `helloAt`: the last HELLO sent. `ckpt`: the 100 ms window of the last checkpoints,
plus one. -/
structure MirSt where
  started : Bool
  own : Bool
  hb : Bool
  hbOut : Bool
  holdAt : Nat
  hbAt : Nat
  hbLost : Nat
  pSince : Nat
  claim : Option Nat
  pState : Nat
  pCause : Nat
  hello : Option Hello
  helloState : Nat
  pPairs : Option (List Nat × Nat)
  image : Bool
  run : Nat
  rxSeq : Option Nat
  pend : Option (Nat × MirBody)
  buf : Option (Nat × MirBody)
  seq : Tbl Nat
  wdt : Bool
  helloAt : Nat
  ckpt : Nat
  deriving DecidableEq, Repr

def MirSt.init : MirSt :=
  ⟨false, false, false, false, 0, 0, 0, 0, none, 0, 0, none, 0, none, false, 0, none, none, none, [], false, 0, 0⟩

end Sys2Proof.Machine
end

