-- ==== Sys2Proof/Machine/TyNet.lean ====
section
/-! DEFINITION. Sys2Proof/Machine/TyNet.lean: the data of chapter 08: CAN controllers, the host ring, time on the
other media. -/
namespace Sys2Proof.Machine

/-- A CAN frame as received without error (R349): format 0 classic, 1 FD, 2 XL; `xtd` a 29-bit identifier; `af` the
acceptance field of an XL frame (R348); `time` the site time of its start of frame. -/
structure CanFrame where
  fmt : Nat
  xtd : Bool
  id : Nat
  rtr : Bool
  brs : Bool
  esi : Bool
  af : Nat
  time : Nat
  data : List Byte
  deriving DecidableEq, Repr

/-- A transmit entry (R354 to R357): ready or not, an accepted cancel waiting for the frame's end, attempts made and
the data bytes written. -/
structure CanTx where
  ready : Bool
  cancel : Bool
  attempts : Nat
  data : List Byte
  deriving DecidableEq, Repr

def CanTx.init : CanTx := ⟨false, false, 0, []⟩

/-- A partly received Atkai message (R345, R347): the next segment index, the message counter, the bytes so far and
the time of the first segment.
Assumption log: `since` 104 (DEDUCED). -/
structure CanSeg where
  next : Nat
  ctr : Nat
  bytes : List Byte
  since : Nat
  deriving DecidableEq, Repr

/-- One CAN controller: the full receive entries, the transmit entries, the high-priority buffer, the messages being
reassembled by identifier, the drops of the current run (R352), the read position in RX_DATA. -/
structure CanSt where
  rx : Tbl (Option CanFrame)
  tx : Tbl CanTx
  hp : Option CanFrame
  seg : Tbl (Option CanSeg)
  ovrRun : Nat
  rxPtr : Nat
  deriving DecidableEq, Repr

def CanSt.init : CanSt := ⟨[], [], none, [], 0, 0⟩

/-- Where a transmit entry stands when it is cancelled (R356): no start of frame sent, arbitration not yet decided,
arbitration won, or completed in the same cycle. -/
inductive CanPhase where
  | waiting | arbitrating | won | completed
  deriving DecidableEq, Repr

/-- How an attempt on the bus ends without an error: the frame is sent, or arbitration is lost. -/
inductive CanEnd where
  | sent | lost
  deriving DecidableEq, Repr

/-- What a frame received at an Ethernet port is (R333, R334, R366): answered in hardware (ARP, NDP, ICMP echo), an IP
fragment, longer than 1522 bytes, a PAUSE frame, a frame the hardware consumes (PTP, Atkai), anything else. -/
inductive EthKind where
  | answered | fragment | jumbo | pause | consumed | other
  deriving DecidableEq, Repr

/-- The previous TIME_SYNC on a medium (R339): its start and its SEQ, and when the next is due. -/
structure TsMedium where
  origin : Option (Nat × Nat)
  nextAt : Nat
  deriving DecidableEq, Repr

def TsMedium.init : TsMedium := ⟨none, 0⟩

/-- The time a field node takes from TIME_SYNC (R340, R341): its site time minus that of the part, whether it has one,
the last TIME_SYNC with LOCKED it accepted and its period. Assumption log: 96 (DESIGN CHOICE). -/
structure NodeTime where
  ofs : Option Int
  lockedAt : Option Nat
  periodMs : Nat
  held : Bool
  deriving DecidableEq, Repr

def NodeTime.init : NodeTime := ⟨none, none, 0, false⟩

/-- Networks: CAN controllers, TIME_SYNC media (0 to 7 CAN, 8 the mesh), field nodes' time, field nodes' streams (by
node, type and source), T1S segments that have stopped beaconing (R343), the words written to the host ring in order
and how many of the present packet are still to come, MSI-X interrupts raised, since when every enabled fabric port has been down, the
management port's link, the PCIe power state. -/
structure NetSt where
  can : Tbl CanSt
  ts : Tbl TsMedium
  nodeTime : Tbl NodeTime
  nodeStreams : Tbl Stream
  t1sQuiet : List Nat
  ring : List Word64
  ringLeft : Nat
  msix : Nat
  fabDownAt : Option Nat
  mgmtUp : Bool
  dState : Nat
  ptpSteps : Nat
  deriving DecidableEq, Repr

def NetSt.init : NetSt := ⟨[], [], [], [], [], [], 0, 0, none, false, 0, 0⟩

end Sys2Proof.Machine
end

