-- ==== Sys2Proof/Machine/TyPnt.lean ====
section
/-! DEFINITION. Sys2Proof/Machine/TyPnt.lean: the state of PNT: points, profiles, the key tables, rollup nodes
(chapter 06). -/
namespace Sys2Proof.Machine

/-- A point record (R218). `status`: the STATUS bits. `parent`: the node it is attached to. `lost`: its record has had an
uncorrectable error since its definition (R261). -/
structure PtRec where
  time : Nat
  value : Int
  seq : Nat
  key : Nat
  status : Nat
  profile : Nat
  parent : Option Nat
  lost : Bool
  deriving DecidableEq, Repr

/-- An undefined point. -/
def PtRec.init : PtRec := ⟨0, 0, 0, 0, 0, 0, none, false⟩

/-- A limit profile (R219). -/
structure Prof where
  hardLo : Int
  hardHi : Int
  softLo : Int
  softHi : Int
  rateMax : Nat
  hyst : Nat
  staleMs : Nat
  role : Nat
  report : Bool
  deriving DecidableEq, Repr

/-- A string profile (R247). -/
structure SProf where
  iDis : Nat
  iChg : Nat
  vDisEnd : Int
  vDisKnee : Int
  vChgKnee : Int
  vChgEnd : Int
  tLoEnd : Int
  tLoKnee : Int
  tHiKnee : Int
  tHiEnd : Int
  tcEnd : Int
  tcKnee : Int
  staleMs : Nat
  sag : Nat
  soft : Nat
  staleTol : Nat
  deriving DecidableEq, Repr

/-- A rollup node (R244). `rescan`: FLAGS.RESCAN. -/
structure RNode where
  vMin : Int
  vMax : Int
  tMin : Int
  tMax : Int
  iStr : Int
  vStr : Nat
  hardN : Nat
  softN : Nat
  staleN : Nat
  rescan : Bool
  closed : Bool
  hasClosed : Bool
  parent : Option Nat
  firstPt : Nat
  nPt : Nat
  nNode : Nat
  firstNode : Nat
  param : Nat
  pDis : Nat
  pChg : Nat
  lastTime : Nat
  deriving DecidableEq, Repr

/-- A node just defined: empty extremes (R244). -/
def RNode.init : RNode :=
  ⟨2147483647, -2147483648, 2147483647, -2147483648, 0, 0, 0, 0, 0, false, false, false, none, 0, 0, 0, 0, 0, 0, 0, 0⟩

/-- An entry of T0, T1 or the stash: GEN, index, fingerprint; in the stash also the key. -/
structure HEnt where
  gen : Bool
  idx : Nat
  fp : Nat
  deriving DecidableEq, Repr

/-- The stash (R230): the key, the index, GEN; oldest first. -/
structure SEnt where
  key : Nat
  idx : Nat
  gen : Bool
  deriving DecidableEq, Repr

/-- The unknown samples of a source node (R240): time of its last UNKNOWN record, samples since. -/
structure Unk where
  at_ : Option Nat
  n : Nat
  deriving DecidableEq, Repr

def Unk.init : Unk := ⟨none, 0⟩

/-- What a string's last Q5 records said (R258): discharge, charge, zero causes. -/
structure StrLast where
  dis : Nat
  chg : Nat
  causes : Nat
  deriving DecidableEq, Repr

def StrLast.init : StrLast := ⟨0, 0, 0⟩

/-- PNT. `slots`: T0 and T1, slot s of bucket b of table t at (t * 2^22 + b) * 8 + s. `salts`: the current pair;
`prev`: the pair of the previous generation while a rehash runs. `victim`: the rotating counter of R233. `rehashEnd`:
when the last rehash completed. `retry`: the last millisecond with a stash retry, plus one. `sweep`: the next index of
the sweeper; `sweepLoss`: it found a lost key in this sweep. `queue`: the rescan queue, oldest first. `lastPass`: the
last completed pass, plus one; `ready`: its results, source by source; `lateAt`: the last pass counted late, plus one.
`pubAt`: start of the pass last published. `left`: strings left over from the last Q5 packet.
Assumption log: `salts` 60 (DESIGN CHOICE). -/
structure PntSt where
  pts : Tbl PtRec
  prof : Tbl (Option Prof)
  sprof : Tbl (Option SProf)
  nodes : Tbl (Option RNode)
  slots : Tbl (Option HEnt)
  stash : List SEnt
  salts : Nat × Nat
  prev : Option (Nat × Nat)
  gen : Bool
  victim : Nat
  rehashEnd : Option Nat
  retry : Nat
  sweep : Nat
  sweepLoss : Bool
  queue : List Nat
  unk : Tbl Unk
  lastPass : Nat
  ready : Option (Tbl Nat × Tbl Nat)
  lateAt : Nat
  pubAt : Option Nat
  strLast : Tbl StrLast
  left : List Nat
  deriving DecidableEq, Repr

def PntSt.init : PntSt :=
  ⟨[], [], [], [], [], [], (0, 0), none, false, 0, none, 0, 0, false, [], [], 0, none, 0, none, [], []⟩

/-- Uncorrectable errors that the hardware senses while PNT works (R261): in the record visited, in buckets (numbered
t * 2^22 + b), in rollup nodes. -/
structure PntEcc where
  rec_ : Bool
  buckets : List Nat
  nodes : List Nat
  deriving DecidableEq, Repr

end Sys2Proof.Machine
end

