-- ==== Sys2Proof/Machine/TyPow.lean ====
section
/-! DEFINITION. Sys2Proof/Machine/TyPow.lean: what the power-and-analog die holds of the load switches and the two
regulators (chapter 15). -/
namespace Sys2Proof.Machine

/-- The states of a load-switch channel (R613). -/
inductive ChSt where
  | off | on | retryWait | latched
  deriving DecidableEq, Repr

def ChSt.code : ChSt → Nat
  | .off => 0 | .on => 1 | .retryWait => 2 | .latched => 3

/-- What an output does: open, on throughout, or on for `ns` from the period start `at256` (in 1/256 ns) (R602). -/
inductive ChOut where
  | low
  | steady
  | pulse (at256 ns : Nat)
  deriving DecidableEq, Repr

/-- A load-switch channel. `duty`: the duty in effect; `period`: the number of the PWM period last started; `onAt`, `offAt`:
when it entered ON, and when it last left it or its last latch cleared; `inrush`: INRUSH_END is still due; `tj`: the last junction temperature, 0.01 °C. -/
structure Chan where
  st : ChSt
  th : Bool
  oc : Bool
  warn : Bool
  openLoad : Bool
  underCur : Bool
  hold : Bool
  retry : Nat
  duty : Nat
  out : ChOut
  period : Nat
  onAt : Nat
  offAt : Nat
  inrush : Bool
  pauseEnd : Nat
  tj : Int
  deriving DecidableEq, Repr

def Chan.init : Chan := ⟨.off, false, false, false, false, false, false, 0, 0, .low, 0, 0, 0, false, 0, 0⟩

/-- What a channel measures (every 10 µs): on-time current in mA averaged over 10 ms and its peak, output voltage in 10 mV units,
junction temperature in 0.01 °C. -/
structure ChMeas where
  avg : Nat
  peak : Nat
  vout : Nat
  tj : Int
  deriving DecidableEq, Repr

/-- The states of a regulator (COT.STAT). -/
inductive RgSt where
  | off | softStart | regulating | slewing | softStop | fault
  deriving DecidableEq, Repr

def RgSt.code : RgSt → Nat
  | .off => 0 | .softStart => 1 | .regulating => 2 | .slewing => 3 | .softStop => 4 | .fault => 5

/-- The causes of R634. -/
inductive PhCause where
  | openPh | sense | stage
  deriving DecidableEq, Repr

def PhCause.code : PhCause → Nat
  | .openPh => 1 | .sense => 2 | .stage => 3

/-- What a controller sees of a phase at the end of a cycle: its current and the mean of the other active phases, mA, for how
many consecutive cycles each has been so, and the stage's fault flag. -/
structure PhaseObs where
  phase : Nat
  imon : Int
  mean : Int
  cycles : Nat
  flt : Bool
  deriving DecidableEq, Repr

/-- A regulator. VREF moves from `v0` nV at time `t0` toward `target` nV at `rate` mV per ms. `dropped`: the phases dropped, with
their causes; `cl`: STAT.CL; `uv`, `ov`: the condition that led to FAULT; `vout`: the output last measured, mV; `win`: the number
of the telemetry window last published. -/
structure Rail where
  st : RgSt
  v0 : Nat
  t0 : Nat
  rate : Nat
  target : Nat
  dropped : List (Nat × PhCause)
  cl : Bool
  uv : Bool
  ov : Bool
  vout : Nat
  win : Nat
  deriving DecidableEq, Repr

def Rail.init : Rail := ⟨.off, 0, 0, 0, 0, [], false, false, false, 0, 0⟩

/-- CORE at the release of power-on reset: it has started with the reset values of its registers (R631). -/
def Rail.core : Rail := { Rail.init with st := .regulating, v0 := 750000000, target := 750000000, vout := 750 }

/-- A condition of R638 as seen: output in mV and for how long in ns, a stage's TMON in 0.01 °C, the input voltage in mV and
for how long. -/
inductive RegCond where
  | ovr (mV ns : Nat)
  | under (mV ns : Nat)
  | phases
  | temp (t : Int)
  | vin (mV ns : Nat)
  deriving DecidableEq, Repr

/-- What a telemetry window ends with (R640): averages and the largest samples. -/
structure Telem where
  v : Nat
  i : Int
  p : Int
  t : Int
  vin : Nat
  vPk : Nat
  iPk : Int
  pPk : Int
  tPk : Int
  ph : List Int
  deriving DecidableEq, Repr

/-- The power-and-analog die. `held`: when the hold began, while one runs (R617); `down`: the general link is lost; `loaded`: the
I/O section has been loaded since power-on (R619). -/
structure PowSt where
  chan : Tbl Chan
  rail : Tbl Rail
  held : Option Nat
  down : Bool
  loaded : Bool
  deriving DecidableEq, Repr

/-- After power-on reset. -/
def PowSt.init : PowSt := ⟨[], [(1, Rail.core)], none, false, false⟩

end Sys2Proof.Machine
end

