-- ==== Sys2Proof/Machine/TySpn.lean ====
section
/-! DEFINITION. Sys2Proof/Machine/TySpn.lean: the data of the power-line mesh (chapter 09). -/
namespace Sys2Proof.Machine

/-- The frame control of a DATA frame as received (R376). -/
structure MeshFc where
  crcOk : Bool
  dst : Nat
  src : Nat
  tmi : Nat
  mpdu : Nat
  retx : Bool
  netId : Nat
  bcast : Bool
  deriving DecidableEq, Repr

/-- A physical block as received (R378). -/
structure MeshPb where
  idx : Nat
  crcOk : Bool
  last : Bool
  final : Nat
  hops : Nat
  bcast : Bool
  origin : Nat
  msgNum : Nat
  kind : Nat
  ts : Nat
  data : List Byte
  deriving DecidableEq, Repr

/-- A message on the mesh: its PB header fields, its bytes, the Atkai type (0xFF for mesh management) and its
channel-access class (R379). -/
structure MeshMsg where
  final : Nat
  hops : Nat
  bcast : Bool
  origin : Nat
  msgNum : Nat
  kind : Nat
  ts : Nat
  bytes : List Byte
  ty : Nat
  ca : Nat
  deriving DecidableEq, Repr

/-- A DATA frame being sent to a neighbour (R381): the PBs still to be acknowledged, and the attempts made. -/
structure MeshTx where
  nbr : Nat
  mpdu : Nat
  msg : MeshMsg
  left : List Nat
  attempts : Nat
  retx : Bool
  deriving DecidableEq, Repr

/-- A message being received from a neighbour under one MPDU_NUM: the PBs held. `fin`: it has been delivered. -/
structure MeshRx where
  pbs : List MeshPb
  fin : Bool
  deriving DecidableEq, Repr

/-- A tone map as both ends know it: TMI, rate (0 1/2, 1 2/3, 2 5/6), long guard, information bits per symbol, and at a
receiver the bits of each unmasked carrier. -/
structure ToneMap where
  tmi : Nat
  rate : Nat
  long : Bool
  bits : Nat
  car : List Nat
  deriving DecidableEq, Repr

/-- A neighbour (R383 to R386). `st`: 0 UNKNOWN, 1 ROBUST, 2 MAPPED, 3 LOST. `tx`: the map in use or stored for sending;
`rx`: the map its frames use; `rxNew`: one sent in a TM_UPDATE and not acknowledged; `rxOld`: the TMI still decoded and
until when. `noSack`: consecutive attempts without a SACK. `heard`: frames heard; `heardAt`: the last; `eighth`: when the
eighth was heard; `updAt`: the last TM_UPDATE to it; `badAt`: a SACK with TM_BAD was sent. `pbs`, `bad`: PBs and failed
PBs since then. `mpdu`: the next MPDU_NUM. `per`: PB error rate, 2^-16; `snr`: mean SNR, Q8.8 dB, both as measured. -/
structure Nbr where
  st : Nat
  tx : Option ToneMap
  rx : Option ToneMap
  rxNew : Option ToneMap
  rxOld : Option (Nat × Nat)
  noSack : Nat
  heard : Nat
  heardAt : Nat
  eighth : Option Nat
  updAt : Option Nat
  badAt : Option Nat
  pbs : Nat
  bad : Nat
  mpdu : Nat
  per : Nat
  snr : Nat
  deriving DecidableEq, Repr

def Nbr.init : Nbr := ⟨0, none, none, none, none, 0, 0, 0, none, none, none, 0, 0, 0, 0, 0⟩

/-- A path (R387): the nodes after the first, in order. -/
abbrev MeshPath := List Nat

/-- SPN. `rx`: by neighbour * 256 + MPDU_NUM. `taken`: how many of the messages sent have been looked at for the mesh.
`metric`: the reported M of link a to b, at a * 1024 + b. `joined`: Atkai node ID by mesh address. `paths`: by
(unit * 2 + direction) * 1024 + node, direction 0 from the unit. `hops`: next hop of mesh node a toward final b at
a * 1024 + b, and `relays`: nodes marked as relays. `flooded`: (ORIGIN, MSG_NUM) already sent on. `bcnWin`, `passWin`,
`repWin`: windows already served, plus one. `conflict`: R393 has stopped the beacons. `partner`: the mesh address of
the other unit; `actAddr`: that of the ACTIVE unit by the newest beacon. `beacons`: beacon number. -/
structure SpnSt where
  nbr : Tbl Nbr
  tx : List MeshTx
  rx : Tbl (Option MeshRx)
  taken : Nat
  msgNum : Nat
  metric : Tbl Nat
  joined : Tbl Nat
  paths : Tbl MeshPath
  hops : Tbl Nat
  relays : List Nat
  flooded : List (Nat × Nat)
  bcnWin : Nat
  passWin : Nat
  repWin : Nat
  conflict : Bool
  partner : Option Nat
  actAddr : Nat
  beacons : Nat
  deriving DecidableEq, Repr

def SpnSt.init : SpnSt := ⟨[], [], [], 0, 0, [], [], [], [], [], [], 0, 0, 0, false, none, 0, 0⟩

end Sys2Proof.Machine
end

