-- ==== Sys2Proof/Syntax.lean ====
section
/-! DEFINITION. Sys2Proof/Syntax.lean: the commands of the block, one constructor per row of the table of operations and events, in
the table's order. Operands: `who` makes an access, `a` is a register address, `v` the value written, `m` a message received, `h`
the header of a mirror frame; a number names a dispenser `d`, cabinet `c`, lease target `t`, slot `s`, generator `g`, observer
`o`, circuit or key place `k`, output pair `p`, input or load-switch channel `n`, queue `q`, bank `b`, regulator `r`. `node` and
`hnow` name a field node and its own site time. -/
namespace Sys2Proof
open Machine

/-- A command. -/
inductive Instr where
  /-- REGISTER_WRITE (R6): Software writes a register that has no row of its own, and the field types decide the effect. -/
  | registerWrite (who : Who) (a : Nat) (v : Word)
  /-- LO_READ_LATCH (R13): A read of NAME_LO latches the paired NAME_HI value for the next read. -/
  | loReadLatch (who : Who) (a : Nat)
  /-- UNMAPPED_ACCESS (R674): An access to no region, window or register is discarded or reads as zero, and is logged in SYS with code 0x01. -/
  | unmappedAccess (who : Who) (write : Bool) (a : Nat) (v : Word)
  /-- SAFETY_LANE_FRAME (R16): Gauntlet sends its periodic safety-lane frame carrying the output commands. -/
  | safetyLaneFrame
  /-- SAFETY_LANE_TIMEOUT (R17): After 100 µs without a valid safety-lane frame, the power-and-analog die opens every safety output pair. -/
  | safetyLaneTimeout
  /-- GENERAL_LINK_LOSS (R620): After 1 ms without a general-link frame, the die sets LINK_LOST and holds the load switches as on warm reset. -/
  | generalLinkLoss
  /-- GENERAL_LINK_RETURN (R621): When the general link returns, each channel stays at DEF_DUTY until its owner next delivers a duty. -/
  | generalLinkReturn
  /-- ALLOCATION_TICK (R31): At each 250 µs boundary the datapath runs steps 1 to 7 in order, and the trusted steps 8 and 9 follow. -/
  | allocationTick (ev : TickEv)
  /-- TICK_ABANDON (R33): Steps 1 to 6 unfinished at cycle 48 000 abandon the tick and keep the previous commit. -/
  | tickAbandon
  /-- RENEW_SUSPEND (R35): After eight consecutive abandoned ticks, lease renewal is suspended and RENEW_SUSP is set. -/
  | renewSuspend
  /-- MODEL_SWAP (R50): Setting MODEL_CTL.SWAP validates the pending model copy. -/
  | modelSwap (who : Who)
  /-- MODEL_SWAP_EFFECT (R51): A validated swap takes effect at step 5 of a later tick, resetting prices and copying the active model back. -/
  | modelSwapEffect
  /-- MODEL_DATA_ACCESS (R52): A MODEL_DATA access reads or writes the pending copy and advances MODEL_ADDR, and is refused while BUSY. -/
  | modelDataAccess (who : Who) (write : Bool) (v : Word)
  /-- PRICE_COLD_RESET (R62): Writing CTRL.COLD zeroes every node price at the next tick. -/
  | priceColdReset (who : Who)
  /-- SHED_HOLD_EXPIRY (R68): A shed dispenser's hold timer expires and it becomes eligible for readmission. -/
  | shedHoldExpiry (d : Nat)
  /-- ROUTING_PASS (R74): At each whole second ALLOC decides which cabinets are released and bound. -/
  | routingPass
  /-- ROUTE_REPORT (R84): A ROUTE_REPORT from the matrix advances, or contradicts, the cabinet's route state. -/
  | routeReport (m : AtkMsg)
  /-- CLOSE_TIMEOUT (R76): CLOSE_MS expires, the cabinet goes to FAULT and OPEN is sent. -/
  | closeTimeout (c : Nat)
  /-- DRAIN_TIMEOUT (R76): DRAIN_MS expires, the cabinet goes to FAULT and no OPEN is sent. -/
  | drainTimeout (c : Nat)
  /-- OPEN_TIMEOUT (R76): OPEN_MS expires and the cabinet goes to FAULT. -/
  | openTimeout (c : Nat)
  /-- QUERY_TIMEOUT (R79): 1 s without an OPEN or CLOSED report after a QUERY puts the cabinet in FAULT. -/
  | queryTimeout (c : Nat)
  /-- ROUTE_CLR (R76): Writing a FAULT cabinet to ROUTE_CLR frees it and sends QUERY. -/
  | routeClr (who : Who) (v : Word)
  /-- MATRIX_ID_WRITE (R82): A write to MATRIX_ID is taken only before the first commit or while ALLOC is disabled. -/
  | matrixIdWrite (who : Who) (v : Word)
  /-- CAB_STATUS (R328): A cabinet's periodic CAB_STATUS updates its availability, drain test and reconciliation. -/
  | cabStatus (m : AtkMsg)
  /-- LEASE_ACK (R109): LEASE receives a holder's acknowledgement of a grant. -/
  | leaseAck (m : AtkMsg)
  /-- ACK_TIMEOUT (R109): ACK_TMO_MS passes without an ACK for a grant, and one miss is counted. -/
  | ackTimeout (t : Nat)
  /-- HOLDOFF_END (R121): The 1 s hold-off after an epoch reset ends and granting may start. -/
  | holdoffEnd
  /-- WIND_DOWN_WRITE (R122): Writing WIND_DOWN zeroes the ceilings from the next renewal, and writing 0 clears QUIET. -/
  | windDownWrite (who : Who) (v : Word)
  /-- TBL_SEL_WRITE (R13): Writing LEASE.TBL_SEL latches that target's lease entry into the TBL registers. -/
  | tblSelWrite (who : Who) (v : Word)
  /-- HOLDER_GRANT_RECEIVE (R98): A lease holder checks a received grant and accepts or rejects it. -/
  | holderGrantReceive (node : Nat) (tgt : Nat) (hnow : Nat) (ma : Nat) (mv : Nat) (held : Bool) (m : AtkMsg)
  /-- HOLDER_LEASE_START (R100): An accepted grant reaches its START, and the holder applies it. -/
  | holderLeaseStart (node : Nat) (tgt : Nat) (hnow : Nat)
  /-- HOLDER_LEASE_EXPIRY (R103): The lease in force expires with no successor started, and the holder ramps to zero. -/
  | holderLeaseExpiry (node : Nat) (tgt : Nat) (hnow : Nat)
  /-- HOLDER_RUNDOWN_END (R104): FALL_MS elapses in RUNDOWN and the holder holds its current at zero. -/
  | holderRundownEnd (node : Nat) (tgt : Nat) (hnow : Nat)
  /-- HOLDER_TIME_LOSS (R105): A holder that loses site time treats its lease as expired. -/
  | holderTimeLoss (node : Nat) (tgt : Nat) (hnow : Nat)
  /-- HOLDER_FORGET (R106): After 1 s with no lease in force, the holder forgets the last EPOCH and SEQ. -/
  | holderForget (node : Nat) (tgt : Nat) (hnow : Nat)
  /-- CTLE_FRAME (R148): At each 50 µs frame start CTLE steps its generators and evaluates the due background slots. -/
  | ctleFrame (ev : CtlEv)
  /-- EVAL_MISS (R155): A due evaluation that does not start in its frame is skipped and counted. -/
  | evalMiss (s : Nat)
  /-- MISS_ALARM (R156): A slot's MISS_RUN reaching 4 writes a MISS record. -/
  | missAlarm (s : Nat)
  /-- SLOT_ENABLE (R134): Setting a slot's EN enables it unless a sink, schedule or phase check refuses. -/
  | slotEnable (who : Who) (s : Nat) (v : Word)
  /-- SLOT_DISABLE (R143): Clearing a slot's EN disables it and releases a FAULT. -/
  | slotDisable (who : Who) (s : Nat) (v : Word)
  /-- SHADOW_WRITE (R159): A write to a shadowed coefficient takes effect at once or into the shadow set, as FREEZE decides. -/
  | shadowWrite (who : Who) (s : Nat) (place : Nat) (v : Word)
  /-- FREEZE_SET (R162): Setting FREEZE makes shadowed writes stage only into the shadow set. -/
  | freezeSet (who : Who) (s : Nat) (v : Word)
  /-- FREEZE_COMMIT (R163): Clearing FREEZE copies the shadow set to the active set at once and writes COMMIT. -/
  | freezeCommit (who : Who) (s : Nat) (v : Word)
  /-- INTEGRATOR_WRITE (R164): A write to I_LO or I_HI sets or stages the integrator, or is refused. -/
  | integratorWrite (who : Who) (s : Nat) (hi : Bool) (v : Word)
  /-- GEN_ENABLE (R171): Enabling a generator starts it from X with v and a at zero. -/
  | genEnable (who : Who) (g : Nat) (v : Word)
  /-- GEN_TARGET_WRITE (R167): Software writes a generator's TARGET, and it takes effect at the next frame. -/
  | genTargetWrite (who : Who) (g : Nat) (v : Word)
  /-- GEN_LIMIT_WRITE (R169): A write of VMAX, AMAX or JMAX below the present motion writes GEN_LIMIT. -/
  | genLimitWrite (who : Who) (g : Nat) (which : Nat) (v : Word)
  /-- SETPOINT_RECEIVE (R174): A field node accepts a SETPOINT message and applies its VALUE. -/
  | setpointReceive (node : Nat) (hnow : Nat) (m : AtkMsg)
  /-- SETPOINT_EXPIRY (R176): At VALID_UNTIL the receiver brings its power to zero within FALL_MS. -/
  | setpointExpiry (node : Nat) (ch : Nat) (hnow : Nat)
  /-- THRM_STEP (R190): Every millisecond each enabled observer steps its thermal network. -/
  | thrmStep (residue : List Nat)
  /-- OBSERVER_FAULT (R193): Three consecutive failed steps place the observer in FAULT. -/
  | observerFault (o : Nat)
  /-- RECOVER_EXPIRY (R197): The RECOVERING timer expires and the observer returns to NORMAL. -/
  | recoverExpiry (o : Nat)
  /-- CIRC_RUNON_END (R203): RUNON_S passes after the last active step and the circuit stops being active. -/
  | circRunonEnd (k : Nat)
  /-- COOL_CMD_SEND (R207): Every COOL_MS a COOL_CMD is sent for each circuit with route COOL_CMD. -/
  | coolCmdSend (k : Nat)
  /-- COOL_CMD_RECEIVE (R208): A coolant node accepts a COOL_CMD and applies PUMP and VALVE. -/
  | coolCmdReceive (node : Nat) (hnow : Nat) (m : AtkMsg)
  /-- COOL_CMD_EXPIRY (R210): At VALID_UNTIL the receiver applies the LOSS demands. -/
  | coolCmdExpiry (node : Nat) (ch : Nat) (hnow : Nat)
  /-- CIRC_ENABLE (R206): Enabling a circuit is refused when its route collides on a load-switch channel. -/
  | circEnable (who : Who) (k : Nat) (v : Word)
  /-- POINT_BLOCK (R226): PNT ingests a POINT_BLOCK sample by sample. -/
  | pointBlock (fifo : Nat) (m : AtkMsg)
  /-- ADD_RANGE (R220): The PNT command that defines a range of points. -/
  | addRange (who : Who)
  /-- DEL_RANGE (R220): The PNT command that deletes a range of points. -/
  | delRange (who : Who)
  /-- LOOKUP (R232): The PNT command that finds a key's index. -/
  | lookup (who : Who)
  /-- SET_PROFILE (R220): The PNT command that assigns a limit profile to a range of points. -/
  | setProfile (who : Who)
  /-- DEF_NODES (R220): The PNT command that defines rollup nodes. -/
  | defNodes (who : Who)
  /-- DEL_NODES (R220): The PNT command that deletes rollup nodes. -/
  | delNodes (who : Who)
  /-- STASH_RETRY (R234): Every millisecond PNT retries placing the oldest stash entry in the tables. -/
  | stashRetry
  /-- REHASH_REQUEST (R235): Writing CTRL.REHASH starts a rehash. -/
  | rehashRequest (who : Who)
  /-- REHASH_END (R239): A rehash completes, and PRESS_PERSIST is set if the pressure remains. -/
  | rehashEnd
  /-- PRESS_CLR (R239): Writing PRESS_CLR clears PRESS_PERSIST and rearms rehash on occupancy. -/
  | pressClr (who : Who)
  /-- SWEEP_VISIT (R242): The sweeper visits a point and sets STALE when its age exceeds STALE_MS. -/
  | sweepVisit (ecc : PntEcc)
  /-- ROLLUP_PASS (R251): Every 10 ms a pass serves the rescans and computes the string, rack, bank and source limits. -/
  | rollupPass (residue : List Nat)
  /-- ROLL_LATE (R252): A pass unfinished by its deadline leaves step 1 without new limits. -/
  | rollLate
  /-- PROF_SEL_WRITE (R224): A PROF_SEL write loads a profile into PROF_WIN, or commits it after the checks. -/
  | profSelWrite (who : Who) (v : Word)
  /-- SPROF_SEL_WRITE (R224): An SPROF_SEL write loads or commits a string profile. -/
  | sprofSelWrite (who : Who) (v : Word)
  /-- RD_IDX_WRITE (R228): Writing RD_IDX latches a point's record into RD_DATA. -/
  | rdIdxWrite (who : Who) (v : Word)
  /-- NODE_SEL_WRITE (R244): Writing NODE_SEL latches a rollup node's record into NODE_WIN. -/
  | nodeSelWrite (who : Who) (v : Word)
  /-- VEHICLE_FRAME (R264): The head forwards a vehicle-side frame to the part in a VTUN message. -/
  | vehicleFrame (tcp : Nat) (m : AtkMsg)
  /-- VTUN_TO_HEAD (R273): The head receives a part frame and transmits it at once or schedules it for TX_AT. -/
  | vtunToHead (hnow : Nat) (p : List Byte)
  /-- HEAD_TX_AT (R273): The head transmits a scheduled part frame when its TX_AT arrives. -/
  | headTxAt (d : Nat) (hnow : Nat)
  /-- FRAGMENT_TIMEOUT (R272): A first fragment whose last fragment has not arrived in 2 ms is discarded and counted. -/
  | fragmentTimeout (d : Nat) (ch : Nat) (fid : Nat)
  /-- PILOT_REPORT (R276): SESS receives a head's PILOT report and drives the session on pilot changes. -/
  | pilotReport (m : AtkMsg)
  /-- PILOT_COMMAND (R276): The head applies a PILOT command: duty, lock and auxiliary lines. -/
  | pilotCommand (d : Nat) (hnow : Nat) (duty : Nat) (lock : Nat) (lines : Nat)
  /-- CTL_CLOSE (R265): The head closes its output contactors on CTL CLOSE. -/
  | ctlClose (d : Nat) (hnow : Nat) (id : Nat)
  /-- CTL_OPEN (R265): The head opens its output contactors on CTL OPEN. -/
  | ctlOpen (d : Nat) (hnow : Nat) (id : Nat)
  /-- CTL_VOLT (R278): The head regulates toward the target voltage within the command and lease limits. -/
  | ctlVolt (d : Nat) (hnow : Nat) (id : Nat) (mv : Nat) (ma : Nat)
  /-- CTL_DISCH_ON (R277): The head switches its discharge circuit on. -/
  | ctlDischOn (d : Nat) (hnow : Nat) (id : Nat)
  /-- CTL_DISCH_OFF (R277): The head switches its discharge circuit off. -/
  | ctlDischOff (d : Nat) (hnow : Nat) (id : Nat)
  /-- CTL_ISO_START (R277): The head starts its insulation test. -/
  | ctlIsoStart (d : Nat) (hnow : Nat) (id : Nat)
  /-- CTL_ISO_STOP (R277): The head stops its insulation test. -/
  | ctlIsoStop (d : Nat) (hnow : Nat) (id : Nat)
  /-- CTL_RESPONSE (R277): SESS receives a head's CTL response and readback. -/
  | ctlResponse (m : AtkMsg)
  /-- HEAD_CONTROL_LOSS (R279): After 2 s without a lease or VTUN, the head opens, discharges, sets the pilot steady and unlocks. -/
  | headControlLoss (d : Nat) (hnow : Nat) (low : Bool)
  /-- HEAD_STATUS (R280): A head's periodic HEAD_STATUS reaches SESS, THRM, CTLE, LEASE, ALLOC and Gauntlet. -/
  | headStatus (m : AtkMsg)
  /-- HEAD_STATUS_STALE (R297): A stale HEAD_STATUS from CABLE_CHECK to DISCHARGE faults the session with HEAD_LOST. -/
  | headStatusStale (d : Nat)
  /-- LINK_UP (R293): A SLAC match, a T1S link or the first CAN handshake frame moves PLUGGED to LINK. -/
  | linkUp (d : Nat)
  /-- SDP_REQUEST (R268): SESS answers or ignores an SDP request according to the enabled protocols. -/
  | sdpRequest (d : Nat) (tls : Bool)
  /-- SAP_REQUEST (R269): SESS selects the protocol in the supportedAppProtocol exchange. -/
  | sapRequest (d : Nat) (offers : List (Nat × Nat))
  /-- CLIENT_HELLO (R283): XCR starts a TLS 1.3 handshake on a ClientHello. -/
  | clientHello (d : Nat) (e : TlsEv)
  /-- SLOW_PATH_REQUEST (R289): A decoded slow-path request is placed in Q6 as RX_MSG. -/
  | slowPathRequest (d : Nat) (code : Nat) (words : List Nat) (u : EvUpd) (bad : Option Nat)
  /-- CABLE_CHECK_REQUEST (R293): A cable-check request with energy enabled and gate 1 passing starts CABLE_CHECK. -/
  | cableCheckRequest (d : Nat) (u : EvUpd)
  /-- PRECHARGE_REQUEST (R301): A pre-charge request moves to PRECHARGE or is answered with readiness per gate 2. -/
  | prechargeRequest (d : Nat) (tgt : Nat)
  /-- ENERGY_START_REQUEST (R302): An energy-start request enters ENERGY when gate 2 passes, and faults otherwise. -/
  | energyStartRequest (d : Nat)
  /-- FAST_PATH_REQUEST (R288): SESS answers a repeating charge-loop request from HEAD_STATUS and the lease. -/
  | fastPathRequest (d : Nat) (kind : FastKind) (u : EvUpd)
  /-- CHARGE_STANDBY (R293): A charge-progress Standby moves ENERGY to PAUSED with zero bounds. -/
  | chargeStandby (d : Nat)
  /-- STOP_REQUEST (R293): A vehicle stop request moves the session to STOPPING. -/
  | stopRequest (d : Nat)
  /-- SESSION_END_REQUEST (R293): SessionStop or the CAN end frame ends the session in DISCHARGE when gate 3 passes. -/
  | sessionEndRequest (d : Nat)
  /-- TX_MSG (R289): Firmware's Q7 answer is encoded and sent for its matching request. -/
  | txMsg (first : Nat) (words : List Nat) (encodes : Bool)
  /-- CMD_ENERGY_EN (R317): The Q7 command that enables energy transfer, with its FLOOR flag. -/
  | cmdEnergyEn (d : Nat) (low : Nat)
  /-- CMD_ENERGY_DIS (R317): The Q7 command that disables energy transfer. -/
  | cmdEnergyDis (d : Nat) (low : Nat)
  /-- CMD_STOP (R296): The Q7 command that stops a session. -/
  | cmdStop (d : Nat) (low : Nat)
  /-- CMD_RESET_FAULT (R293): The Q7 command that returns a FAULT session with its lock open to IDLE. -/
  | cmdResetFault (d : Nat) (low : Nat)
  /-- FW_TIMEOUT (R290): An unanswered slow-path request after FW_MS gets a failure response and faults the session. -/
  | fwTimeout (d : Nat) (txn : Nat)
  /-- SESSION_TIMEOUT (R294): A session timer (LINK_S to DISCH_MS) expires and its cause is recorded. -/
  | sessionTimeout (d : Nat) (n : Nat)
  /-- FAST_REPORT (R315): Once per FAST_REPORT_MS a FAST record is written for each session in ENERGY. -/
  | fastReport (d : Nat)
  /-- CERT_DATA_WRITE (R283): A CERT_DATA write stores four bytes of DER data and advances the address. -/
  | certDataWrite (who : Who) (v : Word)
  /-- CERT_COMMIT (R283): CERT_CTL.COMMIT parses the staged certificate store and takes it into use, or sets REJ. -/
  | certCommit (who : Who) (v : Word) (parses : Bool)
  /-- STREAM_FORGET (R705): A stream idle for 2 s is forgotten, and its next message is taken as the first. -/
  | streamForget (ty : Nat) (src : Nat) (node : Option (Nat × Nat))
  /-- KEY_GEN_EXPIRY (R323): 1 s after a key replacement, the previous generation is no longer accepted and is destroyed. -/
  | keyGenExpiry (slot : Nat)
  /-- APP_MESSAGE (R326): An accepted APP Atkai message is delivered to Q10 as ATK_RX. -/
  | appMessage (m : AtkMsg)
  /-- ATK_TX (R329): Firmware's Q11 Atkai packet is tagged and sent if APP, and rejected otherwise. -/
  | atkTx (ty : Nat) (sub : Nat) (dst : Nat) (p : List Byte)
  /-- ETH_TX (R366): Firmware's Q11 Ethernet frame is sent on the named port. -/
  | ethTx (port : Nat) (bs : List Byte)
  /-- ETH_FRAME_RECEIVE (R366): A received frame is answered in hardware or delivered to Q10 as ETH_RX. -/
  | ethFrameReceive (port : Nat) (kind : EthKind) (bs : List Byte)
  /-- PTP_MESSAGE (R336): The time unit processes a PTP message and steers site time by rate. -/
  | ptpMessage (ofs : Int) (port : Nat) (utc : Option Nat)
  /-- TIME_SYNC_SEND (R339): Each period the part sends TIME_SYNC on CAN or the mesh. -/
  | timeSyncSend (med : Nat) (lag : Nat)
  /-- TIME_SYNC (R340): A node sets its site time from ORIGIN and the previous message's start. -/
  | timeSync (node : Nat) (hnow : Nat) (elapsed : Option Nat) (m : AtkMsg)
  /-- TIME_HOLD_LOSS (R341): No locked TIME_SYNC for three periods ends the node's held time. -/
  | timeHoldLoss (node : Nat)
  /-- PLCA_BEACON_CONFLICT (R343): A coordinator segment that sees another beacon stops beaconing. -/
  | plcaBeaconConflict (seg : Nat)
  /-- FABRIC_LINK_CHANGE (R334): A fabric port's link goes up or down. -/
  | fabricLinkChange (port : Nat) (up : Bool) (lock : Bool)
  /-- FABRIC_LOST (R547): Every enabled fabric port down for 2 ms makes an ACTIVE unit give up. -/
  | fabricLost
  /-- FAB_NODE_SEL (R330): Writing FAB.NODE_SEL latches a node-table entry into NODE_WIN. -/
  | fabNodeSel (who : Who) (v : Word)
  /-- CAN_FRAME_RECEIVE (R349): A CAN controller filters a received frame and routes it by the filter's action. -/
  | canFrameReceive (c : Nat) (f : CanFrame) (tagOk : Bool)
  /-- CAN_SEGMENT_TIMEOUT (R347): SEG_TMO_MS without the LAST segment discards the partial message. -/
  | canSegmentTimeout (c : Nat) (id : Nat)
  /-- CAN_RX_ACK (R351): Writing RX_ACK frees a full receive entry, and is logged when the entry is not full. -/
  | canRxAck (who : Who) (c : Nat) (v : Word)
  /-- CAN_TX_READY (R354): Setting READY queues a transmit entry for arbitration. -/
  | canTxReady (who : Who) (c : Nat) (e : Nat)
  /-- CAN_TX_CANCEL (R356): Cancelling a transmit entry removes it or lets it complete, according to its state. -/
  | canTxCancel (who : Who) (c : Nat) (e : Nat) (busy : Option Nat) (ph : CanPhase)
  /-- CAN_TX_FLUSH (R356): FLUSH applies the cancel rule to every transmit entry. -/
  | canTxFlush (who : Who) (c : Nat) (busy : Option Nat) (ph : CanPhase)
  /-- CAN_TX_COMPLETE (R357): A transmit entry ends, is freed and writes CAN_TX with its result. -/
  | canTxComplete (c : Nat) (e : Option Nat) (res : CanEnd)
  /-- CAN_BUS_ERROR (R355): A failed attempt is repeated up to RETRY times, or the entry is abandoned. -/
  | canBusError (c : Nat) (e : Option Nat) (rx : Bool)
  /-- CAN_BUS_OFF_RECOVERY (R359): After 128 sequences of recessive bits the controller leaves bus-off and resumes. -/
  | canBusOffRecovery (c : Nat) (seqs : Nat)
  /-- HOST_OUT_WRITE (R364): A write to HOST.OUT_HI puts a word into the host ring, or is refused when the ring is full. -/
  | hostOutWrite (who : Who) (hi : Word)
  /-- MESH_DATA_FRAME (R380): A mesh DATA frame is received, acknowledged and delivered or forwarded. -/
  | meshDataFrame (fc : MeshFc) (pbs : List MeshPb) (drop : Nat) (tagOk : Bool)
  /-- MESH_SACK (R381): A SACK tells the sender which PBs to repeat, and TM_BAD drops the link to ROBUST. -/
  | meshSack (nbr : Nat) (mpdu : Nat) (got : Nat) (bad : Bool)
  /-- MESH_SACK_TIMEOUT (R379): No SACK preamble within RIFS plus 20 µs fails the attempt. -/
  | meshSackTimeout (nbr : Nat) (mpdu : Nat)
  /-- MESH_LD_OVC (R375): A line driver reaches its current limit and holds it to the frame's end. -/
  | meshLdOvc
  /-- TM_UPDATE (R386): A transmitter receives a TM_UPDATE, answers TM_ACK and uses the new map. -/
  | tmUpdate (nbr : Nat) (t : ToneMap) (tagOk : Bool)
  /-- TM_ACK (R385): A receiver gets TM_ACK and keeps decoding the previous TMI for 1 s. -/
  | tmAck (nbr : Nat) (tmi : Nat) (tagOk : Bool)
  /-- OLD_TMI_EXPIRY (R385): 1 s after TM_ACK the receiver stops decoding the previous TMI. -/
  | oldTmiExpiry (nbr : Nat)
  /-- TM_UPDATE_DUE (R383): A receiver's map timer expires and it sends a TM_UPDATE when one is due. -/
  | tmUpdateDue (nbr : Nat) (snr : List Int) (spread : Nat)
  /-- NBR_LOST (R386): 6 s without hearing a neighbour makes its link LOST. -/
  | nbrLost (nbr : Nat)
  /-- NBR_REPORT (R387): The coordinator receives a node's link metrics. -/
  | nbrReport (nbr : Nat) (l : List (Nat × Nat)) (tagOk : Bool)
  /-- MESH_ROUTE_PASS (R387): Every 2 s the coordinator recomputes paths and sends ROUTE_SET. -/
  | meshRoutePass
  /-- ROUTE_SET (R388): A mesh node takes new next hops from a ROUTE_SET. -/
  | routeSet (node : Nat) (hops : List (Nat × Nat)) (relay : Bool) (tagOk : Bool)
  /-- JOIN_REQ (R390): The coordinator admits or refuses a joining node and writes JOIN. -/
  | joinReq (addr : Nat) (id : Nat) (tagOk : Bool)
  /-- BEACON_SEND (R392): Every BCN_MS the coordinator sends a ROBUST beacon. -/
  | beaconSend
  /-- BEACON (R393): Another coordinator's beacon with the same NET_ID stops this unit's beacons. -/
  | beacon (netId : Nat) (act : Nat) (other : Nat) (tagOk : Bool)
  /-- FORCE_ROBUST (R386): Writing FORCE_ROBUST moves every MAPPED link to ROBUST. -/
  | forceRobust (who : Who)
  /-- TM_REFRESH (R383): Writing TM_REFRESH sends TM_UPDATE on every receive link whose map differs. -/
  | tmRefresh (who : Who) (maps : List (Nat × List Int × Nat))
  /-- METER_BLOCK (R403): Sepia accepts or refuses a metering head's block. -/
  | meterBlock (m : AtkMsg)
  /-- CHANNEL_ABSENT (R406): ABSENT_MS without an accepted block marks the channel ABSENT. -/
  | channelAbsent (c : Nat)
  /-- METROLOGY_SAMPLE (R408): Every 125 µs each meter point integrates its calibrated power. -/
  | metrologySample (raw : List (Int × Int)) (bad : List Nat)
  /-- METER_POINT_FAULT (R409): Eight residue failures in a row stop integration and put the channel in FAULT. -/
  | meterPointFault (p : Nat)
  /-- SEAL_OPEN (R411): SEAL_LOOP open for 10 ms sets OPEN, advances the fuse counter and logs. -/
  | sealOpen
  /-- SEAL_CLOSE (R411): SEAL_LOOP closed for 10 ms clears OPEN and logs. -/
  | sealClose
  /-- CAL_WRITE (R410): Sepia writes an element's calibration set while the seal is open, and the write is logged permanently. -/
  | calWrite (who : Who) (e : Nat) (w : Nat) (v : Word)
  /-- CAL_REF_ANNOUNCE (R414): A reference node announces a window, and the element's energy is latched at its ends. -/
  | calRefAnnounce (m : AtkMsg)
  /-- CAL_REF_RESULT (R414): A RESULT reports the element's error in ppm. -/
  | calRefResult (m : AtkMsg)
  /-- LEGAL_TIME_SAVE (R416): At least once per second Sepia writes L to MRAM. -/
  | legalTimeSave
  /-- LEGAL_TIME_HELD (R417): When site time is first held, legal time steps forward, slews back or faults. -/
  | legalTimeHeld
  /-- INTERVAL_CLOSE (R420): At a boundary plus GRACE_MS Sepia closes the interval and opens the next. -/
  | intervalClose
  /-- TXN_OPEN (R438): The mailbox command that opens a transaction on a channel. -/
  | txnOpen (who : Who)
  /-- TXN_CLOSE (R439): The mailbox command that closes a transaction. -/
  | txnClose (who : Who)
  /-- TXN_AUTO_CLOSE (R439): 2 s in IDLE or ENDED closes the open transaction. -/
  | txnAutoClose (c : Nat)
  /-- CAL_LOAD (R426): The mailbox command that loads a signed tariff calendar into PENDING. -/
  | calLoad (who : Who) (sigOk : Bool)
  /-- CAL_CANCEL (R459): The mailbox command that removes the pending calendar. -/
  | calCancel (who : Who)
  /-- CIVIL_ADJ (R419): The mailbox command that applies a bounded civil-time adjustment. -/
  | civilAdj (who : Who)
  /-- DISPLAY (R452): The mailbox command that writes a firmware field to a head's display. -/
  | display (who : Who)
  /-- PREPAY (R449): The mailbox command that turns prepayment on or off for a channel. -/
  | prepay (who : Who)
  /-- ARCH_READ (R459): The mailbox command that copies an archive page to MBX_DATA. -/
  | archRead (who : Who)
  /-- SUPPLY_EARLY_WARNING (R435): The early-warning commits every meter point within 200 µs. -/
  | supplyEarlyWarning (vhv : Nat) (pfailLow : Nat)
  /-- ARCHIVE_PAGE_DUE (R443): A full page, or 15 minutes after a page's first entry, starts an archive write. -/
  | archivePageDue (kind : Nat) (ch : Nat) (ok : Bool)
  /-- ARCHIVE_WRITE_DONE (R443): A reliable eMMC page write completes and RPMB is updated. -/
  | archiveWriteDone (ok : Bool)
  /-- TOKEN_ENTRY (R447): A keypad token is evaluated, and credit is added when it is accepted. -/
  | tokenEntry (m : AtkMsg) (tokOk : Bool)
  /-- TOKEN_UNLOCK (R448): A token-entry lock time expires. -/
  | tokenUnlock (c : Nat)
  /-- CHECK_REQUEST (R454): A check request sends the check value to the head. -/
  | checkRequest (m : AtkMsg)
  /-- CHECK_CLEAR (R454): 30 s after display the check value is cleared. -/
  | checkClear (disp : Nat)
  /-- LEDGER_DELTA (R455): The STANDBY unit applies an in-sequence ledger delta. -/
  | ledgerDelta (h : MirHdr) (x : LedgerDelta)
  /-- GET_ID (R498): The Helmet command that returns the identity public keys and certificate. -/
  | getId (who : Who)
  /-- ATTEST (R474): The Helmet command that signs an attestation statement. -/
  | attest (who : Who) (sram : List SramCycle)
  /-- RANDOM (R498): The Helmet command that returns random bytes. -/
  | random (who : Who) (sram : List SramCycle)
  /-- HLM_STATUS (R498): The Helmet command that returns status words. -/
  | hlmStatus (who : Who)
  /-- PROVISION (R468): A Belunian-signed provisioning command moves RAW to PROVISIONED. -/
  | provision (who : Who) (sigOk : Bool)
  /-- OWNER_FUSE (R471): The command that burns an owner key hash in PROVISIONED. -/
  | ownerFuse (who : Who)
  /-- RETURN (R468): A Belunian-signed RETURN moves RAW to RETURNED. -/
  | returnPart (who : Who) (sigOk : Bool)
  /-- KU_INSTALL (R481): A key update that unwraps and installs a key. -/
  | kuInstall (src : KuSrc) (sigOk : Bool) (wrapOk : Bool)
  /-- KU_DELETE (R482): A key update that deletes a key. -/
  | kuDelete (src : KuSrc) (sigOk : Bool) (wrapOk : Bool)
  /-- KU_GENERATE (R485): A key update that generates a key pair inside a slot. -/
  | kuGenerate (src : KuSrc) (sigOk : Bool) (wrapOk : Bool)
  /-- KU_LIFECYCLE (R468): An owner-signed life-cycle transition. -/
  | kuLifecycle (src : KuSrc) (sigOk : Bool) (wrapOk : Bool)
  /-- KU_OWNER_REVOKE (R472): A key update that revokes an owner slot. -/
  | kuOwnerRevoke (src : KuSrc) (sigOk : Bool) (wrapOk : Bool)
  /-- KU_TAMPER_ACK (R493): A key update that clears the tamper latches. -/
  | kuTamperAck (src : KuSrc) (sigOk : Bool) (wrapOk : Bool)
  /-- TAMPER_SENSED (R491): A tamper source is sensed and its reaction level is applied. -/
  | tamperSensed (src : Nat)
  /-- VBAT_LOSS (R467): Loss of VBAT clears the PD0 mask and every operational key. -/
  | vbatLoss
  /-- VBAT_SWITCHOVER (R681): PD0 moves between the main supply and VBAT at the VHV thresholds. -/
  | vbatSwitchover (vhv : Nat)
  /-- RNG_HEALTH_FAIL (R487): A failed RNG health test refuses requests that need randomness. -/
  | rngHealthFail
  /-- RNG_RECOVER (R487): 1 s of passing health tests restores the RNG. -/
  | rngRecover
  /-- INPUT_DEMAND (R504): A filtered safety input declares a demand. -/
  | inputDemand (n : Nat)
  /-- INPUT_GLITCH (R507): A short low reading counts a glitch, and the third within CHAT_MS is a CHATTER demand. -/
  | inputGlitch (n : Nat)
  /-- TEST_PULSE (R505): A test pulse ends and its input is checked for TP_FAIL and CROSS. -/
  | testPulse (n : Nat) (held : Bool) (crossed : List Nat)
  /-- DISC_TIMEOUT (R506): The partner input of a pair does not demand within DISC_MS. -/
  | discTimeout (n : Nat)
  /-- DARK_TEST (R511): Every 10 s each switch of an ON pair is briefly opened and read back. -/
  | darkTest (p : Nat) (ok : Bool) (ma : Nat)
  /-- LIGHT_TEST (R512): Every 10 s each switch of a LOCKED pair is briefly closed and read back. -/
  | lightTest (p : Nat) (follows : Bool) (ma : Nat)
  /-- PAIR_TESTS_PASS (R516): The CLOSING tests pass and the pair turns ON. -/
  | pairTestsPass (p : Nat)
  /-- COIL_OVERCURRENT (R514): Coil current over 2 A for 10 ms opens the pair with COIL_OC. -/
  | coilOvercurrent (p : Nat) (ma : Nat)
  /-- WELD_CHECK (R515): A pair open for FB_MS with feedback 0 sets WELD. -/
  | weldCheck (p : Nat)
  /-- GNT_HEAD_STALE (R520): A stale HEAD_STATUS for a dispenser whose pair is ON is a detected fault. -/
  | gntHeadStale (d : Nat)
  /-- SAFE_STOP_TIMEOUT (R516): T_STOP elapses and the stopping pair locks. -/
  | safeStopTimeout (p : Nat)
  /-- ESCALATION (R527): Gauntlet receives an escalation and applies ESC_REACT. -/
  | escalation
  /-- LOCKSTEP_FAIL (R528): A lock-step mismatch halts Gauntlet and stops its safety-lane frames. -/
  | lockstepFail
  /-- SAFE_ACK_RELEASE (R529): Release of a valid SAFE_ACK press opens the acknowledgement window. -/
  | safeAckRelease
  /-- ACK_STUCK (R529): A press longer than 5 s sets STUCK. -/
  | ackStuck
  /-- ACK_WINDOW_EXPIRY (R529): The acknowledgement window closes after ACK_WIN_S. -/
  | ackWindowExpiry
  /-- ACK_CMD (R530): The acknowledgement write evaluates the named pairs within an open window. -/
  | ackCmd (who : Who) (v : Word)
  /-- ROLE_HOLD_TIMEOUT (R538): 1 ms without a role-hold refresh releases the role line and stops the heartbeat. -/
  | roleHoldTimeout
  /-- HEARTBEAT_LOST (R539): 1 ms without an edge on MIR_HB_IN counts the partner's heartbeat lost. -/
  | heartbeatLost
  /-- MIRROR_LANE_CHANGE (R540): A mirror lane goes down or up, and the link continues on the remaining lane. -/
  | mirrorLaneChange (lane : Nat) (up : Bool)
  /-- TICK_FRAME_RECEIVE (R552): A STANDBY unit applies a TICK frame at the next tick start. -/
  | tickFrameReceive (h : MirHdr) (body : Option MirBody)
  /-- CHECKPOINT_FRAME (R550): A session checkpoint is received on the mirror link. -/
  | checkpointFrame (h : MirHdr) (d : Nat) (x : Sess)
  /-- IMAGE_FRAME (R543): A full image is applied in SYNC. -/
  | imageFrame (h : MirHdr) (img : MirImage)
  /-- IMAGE_REQ (R550): A partner in SYNC requests a full image. -/
  | imageReq (h : MirHdr)
  /-- HELLO_FRAME (R542): A partner's HELLO is compared for configuration and MODEL_VER. -/
  | helloFrame (h : MirHdr) (p : Hello)
  /-- HELLO_SEND (R550): Each unit sends HELLO at start-up and every second. -/
  | helloSend
  /-- MIR_STARTUP (R543): Start-up completes in INIT and the unit chooses to claim or enter SYNC. -/
  | mirStartup
  /-- PARTNER_RELEASED (R543): The partner's role line has been high 4 ms with its heartbeat lost, and the STANDBY unit claims. -/
  | partnerReleased
  /-- COLD_TAKEOVER (R543): COLD_S elapses in SYNC and the unit claims and starts as after a reset. -/
  | coldTakeover
  /-- ROLE_CLAIM_SAMPLE (R544): 200 µs after driving its role line, a claimant samples the partner's line. -/
  | roleClaimSample
  /-- GIVE_UP (R548): A give-up cause releases the role, stops the heartbeat and granting, and sends a final TICK. -/
  | giveUp
  /-- DUAL_ACTIVE (R547): Unit B sees the partner's role line low for 1 ms while ACTIVE and gives up. -/
  | dualActive
  /-- HANDOVER (R549): Writing CTRL.HANDOVER gives up the role when the partner is READY, and is logged otherwise. -/
  | handover (who : Who)
  /-- QUEUE_FILL (R580): A producer writes a word to a queue's fill bank. -/
  | queueFill (who : Who) (q : Nat) (w : Word64)
  /-- QUEUE_RESERVE (R578): A read of Qn_RSV reserves a length slot. -/
  | queueReserve (who : Who) (q : Nat)
  /-- QUEUE_LENGTH (R579): A Qn_LEN write fills a reserved length word. -/
  | queueLength (who : Who) (q : Nat) (v : Word)
  /-- QUEUE_DRAIN (R576): A read of Qn_DRAIN_LO removes the next word in priority order. -/
  | queueDrain (who : Who) (q : Nat) (bad : Bool)
  /-- PACKET_ABANDON (R578): A packet open for OPEN_MAX_US is abandoned. -/
  | packetAbandon (q : Nat)
  /-- QUEUE_FLUSH (R582): FLUSH empties both banks and invalidates the mark. -/
  | queueFlush (who : Who) (q : Nat)
  /-- QUEUE_MARK (R583): MARK records the rewind position at a FIRST word. -/
  | queueMark (who : Who) (q : Nat)
  /-- QUEUE_REWIND (R584): REWIND presents again every word read since the mark. -/
  | queueRewind (who : Who) (q : Nat)
  /-- BANK_OWNER_WRITE (R565): A new OWNER starts a bank handover and sets BUSY. -/
  | bankOwnerWrite (who : Who) (b : Nat) (v : Word)
  /-- BANK_HANDOVER_DONE (R565): The old owner's accesses complete and the bank passes to the new owner. -/
  | bankHandoverDone (b : Nat)
  /-- BANK_MODE_WRITE (R566): A MODE write is taken only while the banks concerned have no owner. -/
  | bankModeWrite (who : Who) (b : Nat) (v : Word)
  /-- SCRATCHPAD_ACCESS (R569): A port reads or writes the scratchpad. -/
  | scratchpadAccess (pa : Option SpAcc) (pb : Option SpAcc)
  /-- ERR_POP (R591): Writing ERR_POP removes the oldest error record. -/
  | errPop (who : Who) (a : Nat) (v : Word)
  /-- ERR_ACK (R595): Writing ERR_ACK closes the named escalating classes. -/
  | errAck (who : Who) (a : Nat) (v : Word)
  /-- MITTEN_REGION (R571): Mitten copies, March-tests and restores one 256-byte region. -/
  | mittenRegion (bad : Option Nat)
  /-- DRAM_SCRUB (R588): The scrubber reads and corrects or poisons a DRAM word. -/
  | dramScrub (ecc : Nat) (word : Nat)
  /-- PWM_PERIOD_START (R602): A channel's PWM period starts and the latest duty takes effect. -/
  | pwmPeriodStart (n : Nat)
  /-- DUTY_WRITE (R600): Software writes a channel's duty, which is ignored when an engine owns it. -/
  | dutyWrite (who : Who) (n : Nat) (v : Word)
  /-- LSW_OVERCURRENT (R605): An over-current trip switches the channel off and counts a retry or latches. -/
  | lswOvercurrent (n : Nat) (m : ChMeas)
  /-- INRUSH_END (R604): INRUSH_MS ends, and a current still at ILIM is a trip. -/
  | inrushEnd (n : Nat) (atLimit : Bool) (m : ChMeas)
  /-- RETRY_PAUSE_END (R605): The retry pause elapses and the channel turns on or off. -/
  | retryPauseEnd (n : Nat)
  /-- RETRY_COUNT_RESET (R606): 1 s in ON without a trip resets RETRY. -/
  | retryCountReset (n : Nat)
  /-- LSW_OVERTEMP (R607): TJ at 170 °C switches the channel off and sets TH_LATCH. -/
  | lswOvertemp (n : Nat) (m : ChMeas)
  /-- TH_WARN (R612): TJ crosses 150 °C or 140 °C and TH_WARN is set or cleared. -/
  | thWarn (n : Nat) (m : ChMeas)
  /-- OC_LATCH_CLEAR (R610): Writing 1 to OC_LATCH clears it and RETRY. -/
  | ocLatchClear (who : Who) (n : Nat)
  /-- TH_LATCH_CLEAR (R611): Writing 1 to TH_LATCH clears it when TJ is at or below 150 °C. -/
  | thLatchClear (who : Who) (n : Nat)
  /-- OPEN_LOAD (R614): The off-state output above threshold for 10 ms sets or clears OPEN_LOAD. -/
  | openLoad (n : Nat) (above : Bool) (since : Nat) (m : ChMeas)
  /-- UNDER_CURRENT (R615): The average on-current below UC_MA for 100 ms sets or clears UNDER_CUR. -/
  | underCurrent (n : Nat) (since : Nat) (m : ChMeas)
  /-- ALL_OFF (R613): Writing ALL_OFF holds every channel off. -/
  | allOff (who : Who) (v : Word)
  /-- HOLD_END (R618): HOLD_MS elapses and the channels take DEF_DUTY. -/
  | holdEnd
  /-- REG_ENABLE (R624): EN from 0 to 1 soft-starts a regulator from the measured output. -/
  | regEnable (who : Who) (r : Nat) (v : Word) (vout : Nat)
  /-- REG_DISABLE (R625): EN from 1 to 0 soft-stops or stops a regulator, and is refused for CORE. -/
  | regDisable (who : Who) (r : Nat) (v : Word)
  /-- SOFT_START_DONE (R624): VREF reaches VSET and the regulator enters REGULATING. -/
  | softStartDone (r : Nat)
  /-- VSET_WRITE (R626): A VSET write slews, redirects a ramp, or is stored for the next start. -/
  | vsetWrite (who : Who) (r : Nat) (v : Word)
  /-- SLEW_DONE (R626): VREF reaches the latest VSET and SLEW_DONE is set. -/
  | slewDone (r : Nat)
  /-- PHASE_DROP (R634): A phase that is open, has a bad sense, or has a faulted stage is dropped and the limit lowered. -/
  | phaseDrop (r : Nat) (l : List PhaseObs)
  /-- CURRENT_LIMIT (R637): Phases limiting for 16 cycles set CL, and 1 ms without limiting clears it. -/
  | currentLimit (r : Nat) (cycles : Nat) (quiet : Nat)
  /-- REG_FAULT (R638): Overvoltage, undervoltage, too few phases, overtemperature or low VIN drives AUX to FAULT or resets through CORE. -/
  | regFault (r : Nat) (c : RegCond)
  /-- REG_OT_WARN (R638): A stage's TMON at 125 °C sets OT_WARN. -/
  | regOtWarn (r : Nat) (t : Int)
  /-- TELEMETRY_WINDOW (R640): At each averaging window end the regulator publishes its averages. -/
  | telemetryWindow (r : Nat) (t : Telem)
  /-- SUPPLY_SUPERVISOR_RESET (R678): A rail below its threshold, or PORST_N low, holds the part in power-on reset. -/
  | supplySupervisorReset (v : Rails)
  /-- POWER_ON_RESET (R666): A power-on reset resets all domains but PD0 and starts the boot. -/
  | powerOnReset
  /-- WARM_RESET (R666): A warm reset resets PD1 to PD8 while the die holds its outputs. -/
  | warmReset (cause : RstCause)
  /-- SW_WARM_RESET (R666): Writing 0xD1E5_0001 to RST_CTL starts a warm reset. -/
  | swWarmReset (who : Who)
  /-- SW_POWER_ON_RESET (R666): Sepia writing 0xD1E5_0002 to RST_CTL starts a power-on reset. -/
  | swPowerOnReset (who : Who)
  /-- PLL_LOCK (R657): The main PLL locks and the boot ROM runs. -/
  | pllLock
  /-- PLL_LOCK_LOSS (R660): A loss of PLL lock holds PD1 to PD8 in warm reset until lock returns. -/
  | pllLockLoss
  /-- BOOT_ROM (R657): The boot ROM wipes, selects an image and verifies and starts the trusted firmware. -/
  | bootRom (sigOk : Bool)
  /-- BOOT_RESCAN (R647): After 10 s without a candidate, BOOT_BAD is emptied and the flash is scanned again. -/
  | bootRescan
  /-- TRUSTED_BOOT (R657): Sepia verifies and loads the sections and releases the application cores. -/
  | trustedBoot (ev : BootEv)
  /-- FLASH_READ (R642): The CFG.FL_CMD operation that reads 256 bytes of flash. -/
  | flashRead (who : Who)
  /-- FLASH_PROGRAM (R648): The CFG.FL_CMD operation that programs 256 bytes, refused on the running image. -/
  | flashProgram (who : Who)
  /-- FLASH_ERASE_4K (R648): The CFG.FL_CMD operation that erases 4 KiB, refused on the running image. -/
  | flashErase4k (who : Who)
  /-- FLASH_ERASE_64K (R648): The CFG.FL_CMD operation that erases 64 KiB, refused on the running image. -/
  | flashErase64k (who : Who)
  /-- FLASH_DONE (R642): A flash operation completes and FL_DONE is set. -/
  | flashDone (err : Bool)
  /-- XSPI_EXT_N (R643): XSPI_EXT_N low releases the xSPI balls for an external programmer. -/
  | xspiExtN (low : Bool)
  /-- QUIET_ENTER (R662): ENTER with no live lease and no session powers down to the quiet state. -/
  | quietEnter (who : Who)
  /-- QUIET_WAKE_RTC (R664): The RTC reaches AON.WAKE and the part leaves the quiet state. -/
  | quietWakeRtc
  /-- QUIET_WAKE_PIN (R664): WAKE_N low for 1 ms ends the quiet state. -/
  | quietWakePin (lowNs : Nat)
  /-- QUIET_WAKE_NOW (R664): Sepia writing WAKE_NOW ends the quiet state. -/
  | quietWakeNow (who : Who)
  /-- WDT_KICK (R666): Writing the kick value restarts the watchdog count. -/
  | wdtKick (who : Who) (v : Word)
  /-- WDT_WARN (R666): Half the watchdog timeout passes and WDT_WARN is set. -/
  | wdtWarn
  /-- WDT_EXPIRY (R666): The watchdog expires and resets the part warm. -/
  | wdtExpiry
  /-- RC_FIELD_READ (R10): A read of an RC field returns its value and clears it, keeping any event of the same cycle. -/
  | rcFieldRead (who : Who) (a : Nat) (ev : Nat)
  /-- DRAM_ACCESS (R253): A core or DMA access to DRAM is served, refused in a PNT-reserved range, or faulted on an uncorrectable word. -/
  | dramAccess (who : Who) (write : Bool) (o : Nat) (size : Nat) (data : Nat) (ecc : Nat)
  /-- SOFT_STOP_DONE (R625): VREF reaches 0 during a soft stop, the phases stop and the regulator is OFF. -/
  | softStopDone (r : Nat)
  /-- ATKAI_DISCARD (R324): A received Atkai message of a not-issued type, or of a kind only units send, is discarded and counted in FORMAT_CNT. -/
  | atkaiDiscard (m : AtkMsg)
  /-- MESH_SYNC_LOST (R392): A unit stops hearing the coordinator's beacons, STAT.SYNC goes to 0 and SYNC_LOST is set. -/
  | meshSyncLost
  /-- PLCA_CHG (R342): A T1S segment starts or stops seeing PLCA beacons, PLCA_OK changes and PLCA_CHG is set. -/
  | plcaChg (seg : Nat) (ok : Bool) (ed : Bool)
  /-- PCIE_LINK_CHANGE (R361): The PCIe link goes up or down, or changes D state, and HOST.EVT_STAT records it. -/
  | pcieLinkChange (up : Bool) (width : Nat) (speed : Nat) (dst : Nat)
  /-- MGMT_LINK_CHANGE (R365): The management port's link goes up or down and MGMT_LINK is set. -/
  | mgmtLinkChange (up : Bool)
  /-- SAFETY_INPUT_CLOSED (R509): A demanding safety input closes again, so its demand ends and the conditions for clearing its fault can be met. -/
  | safetyInputClosed (n : Nat)
  /-- SAFE_ACK_PRESS (R529): SAFE_ACK is pressed, PRESSED is set and the press timing of R529 starts. -/
  | safeAckPress
  /-- MIR_HB_IN_EDGE (R539): An edge on MIR_HB_IN restarts the 1 ms heartbeat timer and sets HB_OK when the heartbeat resumes. -/
  | mirHbInEdge
  /-- PARTNER_ROLE_LINE_CHANGE (R543): The partner's role line changes level, updating PARTNER_ROLE and starting or cancelling the 4 ms, 1 ms and COLD_S conditions. -/
  | partnerRoleLineChange (low : Bool)
  /-- LEGAL_SLEW_END (R417): The slew of legal time back toward site time ends when D reaches zero, and SLEWING clears. -/
  | legalSlewEnd
  /-- GRANDMASTER_LOSS (R553): The grandmaster's messages stop, and best master selection makes another clock, such as the other unit, the grandmaster. -/
  | grandmasterLoss (me : Bool)
  /-- NBR_REPORT_SEND (R387): Every 2 s a mesh node, including a unit that is not coordinator, sends its link metrics to the coordinator. -/
  | nbrReportSend (meas : List (Nat × Nat × Nat))
  deriving DecidableEq, Repr

end Sys2Proof
end

