-- ==== Sys2Proof/WellFormed.lean ====
section
/-! DEFINITION. Sys2Proof/WellFormed.lean: which commands name something that the part has: an initiator, a register address, a
dispenser, a channel and so on, by the numbers of chapter 00 and of the register tables. -/
namespace Sys2Proof
namespace Machine

/-- There are four application cores. -/
def Who.wf : Who → Bool
  | .core n => decide (n < 4)
  | .host | .sepia | .gauntlet | .dma | .part => true

/-- The fields of an Atkai header fit their widths (R320). -/
def AtkMsg.wf (m : AtkMsg) : Bool :=
  decide (m.ty < 256) && decide (m.sub < 256) && decide (m.flags < 256) && decide (m.src < 65536) && decide (m.dst < 65536)
    && decide (m.seq < 0x100000000) && decide (m.len < 65536) && decide (m.time < 0x10000000000000000)

def KuSrc.wf : KuSrc → Bool
  | .mbx who => who.wf
  | .atk m => m.wf

/-- An access of 1, 2, 4 or 8 bytes (R569). -/
def SpAcc.wf (x : SpAcc) : Bool := x.who.wf && [1, 2, 4, 8].contains x.size && decide (x.ecc < 3)

/-- Mesh addresses have ten bits (R376). -/
def MeshFc.wf (x : MeshFc) : Bool :=
  decide (x.dst < 1024) && decide (x.src < 1024) && decide (x.tmi < 16) && decide (x.mpdu < 256) && decide (x.netId < 16384)

/-- A CAN identifier has 11 or 29 bits (R344). -/
def CanFrame.wf (f : CanFrame) : Bool := decide (f.id < (if f.xtd then 0x20000000 else 0x800)) && decide (f.data.length ≤ 2048)

/-- TMI and rate of a tone map (R382). -/
def ToneMap.wf (t : ToneMap) : Bool := decide (t.tmi < 16) && decide (t.rate < 3)

end Machine
open Machine

/-- A register address: 40 bits, a multiple of four (R6). -/
def regAddr (a : Nat) : Bool := decide (a < 0x10000000000) && decide (a % 4 = 0)

/-- A command that the part can be given. -/
def Instr.wf : Instr → Bool
  | .registerWrite who a _ => who.wf && regAddr a
  | .loReadLatch who a => who.wf && regAddr a
  | .unmappedAccess who _ a _ => who.wf && decide (a < 0x10000000000)
  | .safetyLaneFrame => true
  | .safetyLaneTimeout => true
  | .generalLinkLoss => true
  | .generalLinkReturn => true
  | .allocationTick _ => true
  | .tickAbandon => true
  | .renewSuspend => true
  | .modelSwap who => who.wf
  | .modelSwapEffect => true
  | .modelDataAccess who _ _ => who.wf
  | .priceColdReset who => who.wf
  | .shedHoldExpiry d => decide (d < 256)
  | .routingPass => true
  | .routeReport m => m.wf
  | .closeTimeout c => decide (c < 768)
  | .drainTimeout c => decide (c < 768)
  | .openTimeout c => decide (c < 768)
  | .queryTimeout c => decide (c < 768)
  | .routeClr who _ => who.wf
  | .matrixIdWrite who _ => who.wf
  | .cabStatus m => m.wf
  | .leaseAck m => m.wf
  | .ackTimeout t => decide (t < 1024)
  | .holdoffEnd => true
  | .windDownWrite who _ => who.wf
  | .tblSelWrite who _ => who.wf
  | .holderGrantReceive node tgt _ _ _ _ m => decide (node < 65536) && decide (tgt < 1024) && m.wf
  | .holderLeaseStart node tgt _ => decide (node < 65536) && decide (tgt < 1024)
  | .holderLeaseExpiry node tgt _ => decide (node < 65536) && decide (tgt < 1024)
  | .holderRundownEnd node tgt _ => decide (node < 65536) && decide (tgt < 1024)
  | .holderTimeLoss node tgt _ => decide (node < 65536) && decide (tgt < 1024)
  | .holderForget node tgt _ => decide (node < 65536) && decide (tgt < 1024)
  | .ctleFrame _ => true
  | .evalMiss slot => decide (slot < 1024)
  | .missAlarm slot => decide (slot < 1024)
  | .slotEnable who slot _ => who.wf && decide (slot < 1024)
  | .slotDisable who slot _ => who.wf && decide (slot < 1024)
  | .shadowWrite who slot place _ => who.wf && decide (slot < 1024) && decide (place < 9)
  | .freezeSet who slot _ => who.wf && decide (slot < 1024)
  | .freezeCommit who slot _ => who.wf && decide (slot < 1024)
  | .integratorWrite who slot _ _ => who.wf && decide (slot < 1024)
  | .genEnable who g _ => who.wf && decide (g < 320)
  | .genTargetWrite who g _ => who.wf && decide (g < 320)
  | .genLimitWrite who g which _ => who.wf && decide (g < 320) && decide (which < 3)
  | .setpointReceive node _ m => decide (node < 65536) && m.wf
  | .setpointExpiry node ch _ => decide (node < 65536) && decide (ch < 256)
  | .thrmStep _ => true
  | .observerFault o => decide (o < 512)
  | .recoverExpiry o => decide (o < 512)
  | .circRunonEnd k => decide (k < 64)
  | .coolCmdSend k => decide (k < 64)
  | .coolCmdReceive node _ m => decide (node < 65536) && m.wf
  | .coolCmdExpiry node ch _ => decide (node < 65536) && decide (ch < 256)
  | .circEnable who k _ => who.wf && decide (k < 64)
  | .pointBlock _ m => m.wf
  | .addRange who => who.wf
  | .delRange who => who.wf
  | .lookup who => who.wf
  | .setProfile who => who.wf
  | .defNodes who => who.wf
  | .delNodes who => who.wf
  | .stashRetry => true
  | .rehashRequest who => who.wf
  | .rehashEnd => true
  | .pressClr who => who.wf
  | .sweepVisit _ => true
  | .rollupPass _ => true
  | .rollLate => true
  | .profSelWrite who _ => who.wf
  | .sprofSelWrite who _ => who.wf
  | .rdIdxWrite who _ => who.wf
  | .nodeSelWrite who _ => who.wf
  | .vehicleFrame _ m => m.wf
  | .vtunToHead _ _ => true
  | .headTxAt d _ => decide (d < 256)
  | .fragmentTimeout d ch fid => decide (d < 256) && decide (ch < 256) && decide (fid < 65536)
  | .pilotReport m => m.wf
  | .pilotCommand d _ duty lock _ => decide (d < 256) && decide (duty < 101) && decide (lock < 2)
  | .ctlClose d _ id => decide (d < 256) && decide (id < 65536)
  | .ctlOpen d _ id => decide (d < 256) && decide (id < 65536)
  | .ctlVolt d _ id _ _ => decide (d < 256) && decide (id < 65536)
  | .ctlDischOn d _ id => decide (d < 256) && decide (id < 65536)
  | .ctlDischOff d _ id => decide (d < 256) && decide (id < 65536)
  | .ctlIsoStart d _ id => decide (d < 256) && decide (id < 65536)
  | .ctlIsoStop d _ id => decide (d < 256) && decide (id < 65536)
  | .ctlResponse m => m.wf
  | .headControlLoss d _ _ => decide (d < 256)
  | .headStatus m => m.wf
  | .headStatusStale d => decide (d < 256)
  | .linkUp d => decide (d < 256)
  | .sdpRequest d _ => decide (d < 256)
  | .sapRequest d _ => decide (d < 256)
  | .clientHello d _ => decide (d < 256)
  | .slowPathRequest d code _ _ _ => decide (d < 256) && decide (code < 256)
  | .cableCheckRequest d _ => decide (d < 256)
  | .prechargeRequest d tgt => decide (d < 256) && decide (tgt < 1024)
  | .energyStartRequest d => decide (d < 256)
  | .fastPathRequest d _ _ => decide (d < 256)
  | .chargeStandby d => decide (d < 256)
  | .stopRequest d => decide (d < 256)
  | .sessionEndRequest d => decide (d < 256)
  | .txMsg _ _ _ => true
  | .cmdEnergyEn d _ => decide (d < 256)
  | .cmdEnergyDis d _ => decide (d < 256)
  | .cmdStop d _ => decide (d < 256)
  | .cmdResetFault d _ => decide (d < 256)
  | .fwTimeout d _ => decide (d < 256)
  | .sessionTimeout d _ => decide (d < 256)
  | .fastReport d => decide (d < 256)
  | .certDataWrite who _ => who.wf
  | .certCommit who _ _ => who.wf
  | .streamForget ty src _ => decide (ty < 256) && decide (src < 65536)
  | .keyGenExpiry slot => decide (slot < 131072)
  | .appMessage m => m.wf
  | .atkTx ty sub dst _ => decide (ty < 256) && decide (sub < 256) && decide (dst < 65536)
  | .ethTx port _ => decide (port < 13)
  | .ethFrameReceive port _ _ => decide (port < 13)
  | .ptpMessage _ port _ => decide (port < 4)
  | .timeSyncSend med _ => decide (med < 9)
  | .timeSync node _ _ m => decide (node < 65536) && m.wf
  | .timeHoldLoss node => decide (node < 65536)
  | .plcaBeaconConflict seg => decide (seg < 8)
  | .fabricLinkChange port _ _ => decide (port < 4)
  | .fabricLost => true
  | .fabNodeSel who _ => who.wf
  | .canFrameReceive c f _ => decide (c < 8) && f.wf
  | .canSegmentTimeout c id => decide (c < 8) && decide (id < 536870912)
  | .canRxAck who c _ => who.wf && decide (c < 8)
  | .canTxReady who c e => who.wf && decide (c < 8) && decide (e < 32)
  | .canTxCancel who c e _ _ => who.wf && decide (c < 8) && decide (e < 32)
  | .canTxFlush who c _ _ => who.wf && decide (c < 8)
  | .canTxComplete c _ _ => decide (c < 8)
  | .canBusError c _ _ => decide (c < 8)
  | .canBusOffRecovery c _ => decide (c < 8)
  | .hostOutWrite who _ => who.wf
  | .meshDataFrame fc _ _ _ => fc.wf
  | .meshSack nbr mpdu _ _ => decide (nbr < 1024) && decide (mpdu < 256)
  | .meshSackTimeout nbr mpdu => decide (nbr < 1024) && decide (mpdu < 256)
  | .meshLdOvc => true
  | .tmUpdate nbr t _ => decide (nbr < 1024) && t.wf
  | .tmAck nbr _ _ => decide (nbr < 1024)
  | .oldTmiExpiry nbr => decide (nbr < 1024)
  | .tmUpdateDue nbr _ _ => decide (nbr < 1024)
  | .nbrLost nbr => decide (nbr < 1024)
  | .nbrReport nbr _ _ => decide (nbr < 1024)
  | .meshRoutePass => true
  | .routeSet node _ _ _ => decide (node < 65536)
  | .joinReq addr id _ => decide (addr < 1024) && decide (id < 65536)
  | .beaconSend => true
  | .beacon netId act other _ => decide (netId < 16384) && decide (act < 1024) && decide (other < 1024)
  | .forceRobust who => who.wf
  | .tmRefresh who _ => who.wf
  | .meterBlock m => m.wf
  | .channelAbsent c => decide (c < 264)
  | .metrologySample _ _ => true
  | .meterPointFault p => decide (p < 8)
  | .sealOpen => true
  | .sealClose => true
  | .calWrite who e w _ => who.wf && decide (e < 8) && decide (w < 5)
  | .calRefAnnounce m => m.wf
  | .calRefResult m => m.wf
  | .legalTimeSave => true
  | .legalTimeHeld => true
  | .intervalClose => true
  | .txnOpen who => who.wf
  | .txnClose who => who.wf
  | .txnAutoClose c => decide (c < 256)
  | .calLoad who _ => who.wf
  | .calCancel who => who.wf
  | .civilAdj who => who.wf
  | .display who => who.wf
  | .prepay who => who.wf
  | .archRead who => who.wf
  | .supplyEarlyWarning _ _ => true
  | .archivePageDue kind ch _ => decide (kind < 4) && decide (ch < 264)
  | .archiveWriteDone _ => true
  | .tokenEntry m _ => m.wf
  | .tokenUnlock c => decide (c < 256)
  | .checkRequest m => m.wf
  | .checkClear disp => decide (disp < 256)
  | .ledgerDelta _ _ => true
  | .getId who => who.wf
  | .attest who _ => who.wf
  | .random who _ => who.wf
  | .hlmStatus who => who.wf
  | .provision who _ => who.wf
  | .ownerFuse who => who.wf
  | .returnPart who _ => who.wf
  | .kuInstall src _ _ => src.wf
  | .kuDelete src _ _ => src.wf
  | .kuGenerate src _ _ => src.wf
  | .kuLifecycle src _ _ => src.wf
  | .kuOwnerRevoke src _ _ => src.wf
  | .kuTamperAck src _ _ => src.wf
  | .tamperSensed src => decide (src < 10)
  | .vbatLoss => true
  | .vbatSwitchover _ => true
  | .rngHealthFail => true
  | .rngRecover => true
  | .inputDemand n => decide (n < 32)
  | .inputGlitch n => decide (n < 32)
  | .testPulse n _ _ => decide (n < 32)
  | .discTimeout n => decide (n < 32)
  | .darkTest p _ _ => decide (p < 32)
  | .lightTest p _ _ => decide (p < 32)
  | .pairTestsPass p => decide (p < 32)
  | .coilOvercurrent p _ => decide (p < 32)
  | .weldCheck p => decide (p < 32)
  | .gntHeadStale d => decide (d < 256)
  | .safeStopTimeout p => decide (p < 32)
  | .escalation => true
  | .lockstepFail => true
  | .safeAckRelease => true
  | .ackStuck => true
  | .ackWindowExpiry => true
  | .ackCmd who _ => who.wf
  | .roleHoldTimeout => true
  | .heartbeatLost => true
  | .mirrorLaneChange lane _ => decide (lane < 2)
  | .tickFrameReceive _ _ => true
  | .checkpointFrame _ d _ => decide (d < 256)
  | .imageFrame _ _ => true
  | .imageReq _ => true
  | .helloFrame _ _ => true
  | .helloSend => true
  | .mirStartup => true
  | .partnerReleased => true
  | .coldTakeover => true
  | .roleClaimSample => true
  | .giveUp => true
  | .dualActive => true
  | .handover who => who.wf
  | .queueFill who q _ => who.wf && decide (q < 16)
  | .queueReserve who q => who.wf && decide (q < 16)
  | .queueLength who q _ => who.wf && decide (q < 16)
  | .queueDrain who q _ => who.wf && decide (q < 16)
  | .packetAbandon q => decide (q < 16)
  | .queueFlush who q => who.wf && decide (q < 16)
  | .queueMark who q => who.wf && decide (q < 16)
  | .queueRewind who q => who.wf && decide (q < 16)
  | .bankOwnerWrite who b _ => who.wf && decide (b < 32)
  | .bankHandoverDone b => decide (b < 32)
  | .bankModeWrite who b _ => who.wf && decide (b < 32)
  | .scratchpadAccess pa pb => pa.all SpAcc.wf && pb.all SpAcc.wf
  | .errPop who a _ => who.wf && regAddr a
  | .errAck who a _ => who.wf && regAddr a
  | .mittenRegion _ => true
  | .dramScrub ecc word => decide (ecc < 3) && decide (word < 8)
  | .pwmPeriodStart n => decide (n < 24)
  | .dutyWrite who n _ => who.wf && decide (n < 24)
  | .lswOvercurrent n _ => decide (n < 24)
  | .inrushEnd n _ _ => decide (n < 24)
  | .retryPauseEnd n => decide (n < 24)
  | .retryCountReset n => decide (n < 24)
  | .lswOvertemp n _ => decide (n < 24)
  | .thWarn n _ => decide (n < 24)
  | .ocLatchClear who n => who.wf && decide (n < 24)
  | .thLatchClear who n => who.wf && decide (n < 24)
  | .openLoad n _ _ _ => decide (n < 24)
  | .underCurrent n _ _ => decide (n < 24)
  | .allOff who _ => who.wf
  | .holdEnd => true
  | .regEnable who r _ _ => who.wf && decide (r < 2)
  | .regDisable who r _ => who.wf && decide (r < 2)
  | .softStartDone r => decide (r < 2)
  | .vsetWrite who r _ => who.wf && decide (r < 2)
  | .slewDone r => decide (r < 2)
  | .phaseDrop r _ => decide (r < 2)
  | .currentLimit r _ _ => decide (r < 2)
  | .regFault r _ => decide (r < 2)
  | .regOtWarn r _ => decide (r < 2)
  | .telemetryWindow r _ => decide (r < 2)
  | .supplySupervisorReset _ => true
  | .powerOnReset => true
  | .warmReset _ => true
  | .swWarmReset who => who.wf
  | .swPowerOnReset who => who.wf
  | .pllLock => true
  | .pllLockLoss => true
  | .bootRom _ => true
  | .bootRescan => true
  | .trustedBoot _ => true
  | .flashRead who => who.wf
  | .flashProgram who => who.wf
  | .flashErase4k who => who.wf
  | .flashErase64k who => who.wf
  | .flashDone _ => true
  | .xspiExtN _ => true
  | .quietEnter who => who.wf
  | .quietWakeRtc => true
  | .quietWakePin _ => true
  | .quietWakeNow who => who.wf
  | .wdtKick who _ => who.wf
  | .wdtWarn => true
  | .wdtExpiry => true
  | .rcFieldRead who a _ => who.wf && regAddr a
  | .dramAccess who _ o size _ ecc => who.wf && decide (o < 2147483648) && [1, 2, 4, 8].contains size && decide (ecc < 3)
  | .softStopDone r => decide (r < 2)
  | .atkaiDiscard m => m.wf
  | .meshSyncLost => true
  | .plcaChg seg _ _ => decide (seg < 8)
  | .pcieLinkChange _ _ _ dst => decide (dst < 65536)
  | .mgmtLinkChange _ => true
  | .safetyInputClosed n => decide (n < 32)
  | .safeAckPress => true
  | .mirHbInEdge => true
  | .partnerRoleLineChange _ => true
  | .legalSlewEnd => true
  | .grandmasterLoss _ => true
  | .nbrReportSend _ => true

end Sys2Proof
end

