-- ==== Sys2Proof/Config.lean ====
section
/-! DEFINITION. Sys2Proof/Config.lean: the values the spec leaves open. Each is an opaque constant: nothing in
Lean can evaluate it, so a statement about it holds for every value. The argument of a free value is the model's
own counter `State.free`, read and advanced by the step that uses it, or the operands it depends on. -/
namespace Sys2Proof

/-- The 16-byte KMAC256 tag of a sent message (R322): the key is never in the model. Assumption log: 5 (DESIGN CHOICE). -/
opaque Config.tag : Nat → BitVec 128

/-- A random number of the Helmet RNG (R486, R487). Assumption log: 5 (DESIGN CHOICE). -/
opaque Config.random : Nat → Byte

/-- An Ed448 signature made by the part (R474): byte i of signature n. Assumption log: 5 (DESIGN CHOICE). -/
opaque Config.signature : Nat → Nat → Byte

/-- A SHAKE256 or SHA-256 digest over bytes the model does not hold: byte i of digest n. Assumption log: 5 (DESIGN CHOICE). -/
opaque Config.digest : Nat → Nat → Byte

/-- SHAKE256 of a byte string: byte i of the output. Assumption log: 11 (DESIGN CHOICE). -/
opaque Config.shake : List Byte → Nat → Byte

/-- Byte i of public key n. Assumption log: 11 (DESIGN CHOICE). -/
opaque Config.pubKey : Nat → Nat → Byte

/-- A value the spec does not state, as a number.
Assumption log: 5 (DESIGN CHOICE), 18 (DEDUCED), 58 (DESIGN CHOICE), 85 (DESIGN CHOICE), 87 (DESIGN CHOICE), 93 (DESIGN CHOICE), 95 (DESIGN CHOICE), 113 (DESIGN CHOICE), 171 (DESIGN CHOICE), 175 (DESIGN CHOICE), 182 (DESIGN CHOICE), 183 (DESIGN CHOICE). -/
opaque Config.freeNat : Nat → Nat

/-- A value the spec does not state, as a signed number. Assumption log: 5 (DESIGN CHOICE), 38 (DESIGN CHOICE), 83 (DESIGN CHOICE). -/
opaque Config.freeInt : Nat → Int

/-- Where the spec computes a quotient and does not say how it rounds an inexact one: whether a / b is taken above
its floor. A function of the operands. Assumption log: 6 (DESIGN CHOICE). -/
opaque Config.roundUp : Int → Int → Bool

/-- A field node's replay window, ms, before the bound of R705 (at most 1000 ms) is applied. Assumption log: 92 (DESIGN CHOICE). -/
opaque Config.nodeReplayMs : Nat → Nat

/-- What a local metrology channel's non-legal copy shows (R130): by sample time and PV_SRC selector. Assumption log: 49 (DESIGN CHOICE). -/
opaque Config.meterCopy : Nat → Nat → Int

/-- How the measurements of several configuration sections make the one that HLM.MEAS holds (R478): byte i for the payloads in
directory order. Assumption log: 185 (DESIGN CHOICE). -/
opaque Config.confMeasure : List (List Byte) → Nat → Byte

/-- The device certificate within a PROVISION command, whose format the spec does not give (R468). Assumption log: 138 (DESIGN CHOICE). -/
opaque Config.certOf : List Byte → List Byte

/-- A bit the spec does not state. Assumption log: 5 (DESIGN CHOICE), 204 (DESIGN CHOICE). -/
opaque Config.freeBool : Nat → Bool

end Sys2Proof
end

