-- ==== Sys2Proof/Machine/Bits.lean ====
section
/-! DEFINITION. Sys2Proof/Machine/Bits.lean: bit fields, byte order, saturation and serial-number arithmetic
(R5, R14, R28, R321). -/
namespace Sys2Proof.Machine

/-- Bits hi to lo of a number. -/
def bitsN (n hi lo : Nat) : Nat := n / 2 ^ lo % 2 ^ (hi - lo + 1)

/-- Bits hi to lo of a register. -/
def bits (w : Word) (hi lo : Nat) : Nat := bitsN w.toNat hi lo

/-- One bit of a register. -/
def bit (w : Word) (i : Nat) : Bool := bits w i i == 1

/-- The register with bits hi to lo replaced by `v`, truncated to the field. -/
def setBits (w : Word) (hi lo v : Nat) : Word :=
  BitVec.ofNat 32 (w.toNat - bits w hi lo * 2 ^ lo + v % 2 ^ (hi - lo + 1) * 2 ^ lo)

/-- A Boolean as a bit. -/
def b2n (b : Bool) : Nat := if b then 1 else 0

/-- A number as a register, modulo 2^32. -/
def w32 (n : Nat) : Word := BitVec.ofNat 32 n

/-- A signed number saturated to 32 bits. -/
def sat32 (i : Int) : Int := max (-2147483648) (min 2147483647 i)

/-- A signed number saturated to 64 bits. -/
def sat64 (i : Int) : Int := max (-9223372036854775808) (min 9223372036854775807 i)

/-- A signed number as a register, two's complement. -/
def wS (i : Int) : Word := BitVec.ofInt 32 i

/-- A number saturated to an unsigned field of n bits. -/
def satU (n v : Nat) : Nat := min v (2 ^ n - 1)

/-- Two's complement of n bits, read as a signed number. -/
def sxt (n v : Nat) : Int := if v % 2 ^ n < 2 ^ (n - 1) then (v % 2 ^ n : Nat) else (v % 2 ^ n : Nat) - (2 ^ n : Nat)

/-- A signed number as an unsigned field of n bits. -/
def unS (n : Nat) (i : Int) : Nat := (i % (2 ^ n : Nat)).toNat

/-- A register as a signed number. -/
def sW (w : Word) : Int := w.toInt

/-- A saturating 32-bit counter, one count further. -/
def incSat (w : Word) : Word := if w.toNat < 0xFFFFFFFF then w + 1 else w

/-- The comparison of sequence numbers of chapter 01: `a` is newer than `b`. -/
def newer (a b : Nat) : Bool :=
  let d := (a + 2 ^ 32 - b % 2 ^ 32) % 2 ^ 32
  d != 0 && d ≤ 0x7FFFFFFF

/-- Byte `o` of a payload, zero past its end. -/
def byteAt (p : List Byte) (o : Nat) : Nat :=
  match p[o]? with
  | some b => b.toNat
  | none => 0

/-- n bytes from offset o, little-endian (R321). -/
def leN (p : List Byte) (o : Nat) : Nat → Nat
  | 0 => 0
  | n + 1 => byteAt p o + 256 * leN p (o + 1) n

def u8 (p : List Byte) (o : Nat) : Nat := byteAt p o
def u16 (p : List Byte) (o : Nat) : Nat := leN p o 2
def u32 (p : List Byte) (o : Nat) : Nat := leN p o 4
def u64 (p : List Byte) (o : Nat) : Nat := leN p o 8
def s16 (p : List Byte) (o : Nat) : Int := sxt 16 (u16 p o)
def s32 (p : List Byte) (o : Nat) : Int := sxt 32 (u32 p o)
def s64 (p : List Byte) (o : Nat) : Int := sxt 64 (u64 p o)

/-- The n low bytes of a number, little-endian. -/
def le (n v : Nat) : List Byte :=
  match n with
  | 0 => []
  | k + 1 => BitVec.ofNat 8 v :: le k (v / 256)

/-- n bytes of a signed number, little-endian two's complement. -/
def leS (n : Nat) (v : Int) : List Byte := le n (unS (8 * n) v)

/-- n zero bytes. -/
def zeros (n : Nat) : List Byte := List.replicate n 0

/-- Division of a signed number by a positive one, rounded toward minus infinity. -/
def fdiv (a : Int) (b : Nat) : Int := Int.fdiv a b

/-- Division rounded toward zero. -/
def tdiv (a b : Int) : Int := Int.tdiv a b

/-- A quotient whose rounding the spec leaves open: the exact quotient, or one of the two integers beside it
(`Config.roundUp`). Assumption log: 6 (DESIGN CHOICE), 123 (DESIGN CHOICE). -/
def odiv (a : Int) (b : Nat) : Int := if a % (b : Int) = 0 then a / (b : Int) else
  a / (b : Int) + (if Config.roundUp a b then 1 else 0)

/-- The quotient rounded to nearest, ties away from zero on the positive side (a tie goes upward). -/
def ndiv (a : Int) (b : Nat) : Int := Int.fdiv (2 * a + b) (2 * b)

/-- Arithmetic shift right by n, rounding to nearest, ties upward. -/
def rshiftRound (a : Int) (n : Nat) : Int := Int.fdiv (2 * a + (2 ^ n : Nat)) (2 * (2 ^ n : Nat))

/-- The quotient rounded to nearest where the spec does not say which way a tie goes (`Config.roundUp`). Assumption log: 50 (DEDUCED). -/
def rdiv (a : Int) (b : Nat) : Int :=
  if 2 * (a % (b : Int)) = (b : Int) then a / (b : Int) + (if Config.roundUp a b then 1 else 0) else ndiv a b

/-- Bits k-1 to 0 of a square root of n above r. -/
def isqrtFrom (n : Nat) : Nat → Nat → Nat
  | 0, r => r
  | k + 1, r => if (r + 2 ^ k) * (r + 2 ^ k) ≤ n then isqrtFrom n k (r + 2 ^ k) else isqrtFrom n k r

/-- The integer square root of a number below 2^320. -/
def isqrt (n : Nat) : Nat := isqrtFrom n 160 0

/-- Millisecond, microsecond and second in nanoseconds. -/
def ms : Nat := 1000000
def us : Nat := 1000
def sec : Nat := 1000000000

/-- One allocation tick, ns (chapter 01). -/
def tickNs : Nat := 250000

end Sys2Proof.Machine
end

