-- ==== Sys2Proof/Machine/Queue.lean ====
section
/-! DEFINITION. Sys2Proof/Machine/Queue.lean: the mechanics of one hardware queue (R574 to R585, R709, R710) and of
one error log (R591 to R596). -/
namespace Sys2Proof.Machine

/-- A queue word (R574): VALID set, the given FIRST, LAST, PRIORITY and PAYLOAD. -/
def qWord (first last : Bool) (prio payload : Nat) : Word64 :=
  BitVec.ofNat 64 (2 ^ 63 + b2n first * 2 ^ 61 + b2n last * 2 ^ 60 + prio % 16 * 2 ^ 56 + payload % 2 ^ 56)

def qFirst (w : Word64) : Bool := bitsN w.toNat 61 61 == 1
def qLast (w : Word64) : Bool := bitsN w.toNat 60 60 == 1
def qPrio (w : Word64) : Nat := bitsN w.toNat 59 56
def qPayload (w : Word64) : Nat := bitsN w.toNat 55 0

/-- The length word of R579. -/
def qLenWord (prio n : Nat) : Word64 := qWord true false prio (2 ^ 48 + n % 2048)

/-- Words a packet holds in the fill bank, its length slot counted. -/
def QPkt.words (p : QPkt) : Nat := p.body.length + (if p.slot.isSome then 1 else 0)

/-- A packet is complete when its LAST word and, where it has one, its length word are written (R578). -/
def QPkt.complete (p : QPkt) : Bool := p.done && (p.slot.isNone || p.len.isSome)

/-- The priority of a packet: the PRIORITY of its first body word, which its length word carries too (R576, R579). Assumption log: 167 (DEDUCED). -/
def QPkt.prio (p : QPkt) : Nat :=
  match p.body with
  | w :: _ => qPrio w
  | [] => 0

/-- The words a complete packet delivers. -/
def QPkt.out (p : QPkt) : List Word64 :=
  match p.len with
  | some n => qLenWord p.prio n :: p.body
  | none => p.body

/-- Words in the fill bank (Qn_STAT.FILL_WORDS). -/
def Queue.fillWords (q : Queue) : Nat := (q.fill.map QPkt.words).foldl (· + ·) 0

/-- Unread words in the drain bank (Qn_STAT.DRAIN_WORDS). -/
def Queue.drainWords (q : Queue) : Nat := q.cur.length + (q.drain.map List.length).foldl (· + ·) 0

/-- Free words in the fill bank of 2048 (Qn_FREE). -/
def Queue.room (q : Queue) : Nat := 2048 - q.fillWords

/-- Qn_STAT.EMPTY: the drain bank holds no unread word. -/
def Queue.empty (q : Queue) : Bool := q.cur.isEmpty && q.drain.isEmpty

/-- Qn_STAT.OPEN: some packet is open (R578). -/
def Queue.isOpen (q : Queue) : Bool := q.fill.any fun p => !p.complete

/-- Insert a packet after every packet of at least its priority: packets of equal priority keep their order. -/
def insertPrio (p : QPkt) : List QPkt → List QPkt
  | [] => [p]
  | x :: r => if p.prio ≤ x.prio then x :: insertPrio p r else p :: x :: r

/-- The order of R576. Assumption log: 167 (DEDUCED). -/
def sortPrio (l : List QPkt) : List QPkt := l.foldl (fun acc p => insertPrio p acc) []

/-- The condition of R575 for a swap. -/
def Queue.canSwap (q : Queue) : Bool := q.empty && !q.fill.isEmpty && !q.isOpen

/-- R575 and R585: swap the banks when the condition holds; the mark is lost with the bank that held it. -/
def Queue.swap (q : Queue) : Queue :=
  if q.canSwap then
    { q with
      fill := [], cur := [], drain := (sortPrio q.fill).map QPkt.out, bank1 := !q.bank1, mark := none,
      markLost := q.markLost || q.mark.isSome }
  else q

/-- Start a new packet with its first body word. -/
def Queue.start (q : Queue) (w : Word64) (now : Nat) : Queue :=
  { q with fill := q.fill ++ [⟨none, none, [w], qLast w, now⟩] }

/-- R709: abandon the packet whose LAST word has not been written, if there is one. Assumption log: 166 (DEDUCED). -/
def Queue.abandonOpen (q : Queue) : Queue :=
  if q.fill.any fun p => !p.done then { q with fill := q.fill.filter fun p => p.done, abandon := true } else q

/-- Append a word to the packet whose LAST word has not been written. -/
def Queue.extend (q : Queue) (w : Word64) : Queue :=
  { q with fill := q.fill.map fun p => if p.done then p else { p with body := p.body ++ [w], done := qLast w } }

/-- R580: a write ignored because the fill bank is full. The packet being written is freed, or the open packets
where none is being written, and DISCARD begins. Assumption log: 168 (DEDUCED). -/
def Queue.overrunWrite (q : Queue) : Queue :=
  let q1 := { q with overrun := true, ovrCnt := incSat q.ovrCnt }
  if q.fill.any fun p => !p.done then { q1 with fill := q.fill.filter (fun p => p.done), discard := true }
  else if q.isOpen then { q1 with fill := q.fill.filter (fun p => p.complete), discard := true }
  else q1

/-- A producer writes a word outside DISCARD. The Boolean says that R710 records it. Assumption log: 168 (DEDUCED). -/
def Queue.accept (q : Queue) (w : Word64) (now : Nat) : Queue × Bool :=
  if q.room = 0 then (q.overrunWrite, false)
  else if qFirst w then (q.abandonOpen.start w now, false)
  else if q.fill.any fun p => !p.done then (q.extend w, false)
  else (q, true)

/-- A producer writes a word (R575, R580, R709, R710). -/
def Queue.put (q : Queue) (w : Word64) (now : Nat) : Queue × Bool :=
  if q.discard then
    if qFirst w then
      let r := { q with discard := false }.accept w now
      (r.1.swap, r.2)
    else if qLast w then ({ q with discard := false }.swap, false)
    else (q, false)
  else
    let r := q.accept w now
    (r.1.swap, r.2)

/-- The slot that a reservation takes: the next word of the fill bank, past the slots still held. Assumption log: 166 (DEDUCED). -/
def Queue.nextSlot (q : Queue) : Nat :=
  let n := q.fillWords
  let held := q.fill.filterMap fun p => p.slot
  ((List.range (held.length + 1)).find? fun k => !held.contains ((n + k) % 2048)).elim (n % 2048) fun k => (n + k) % 2048

/-- R578: a read of Qn_RSV. The answer is the value read: OK in bit 31, SLOT below. Assumption log: 166 (DEDUCED). -/
def Queue.reserve (q : Queue) (now : Nat) : Queue × Nat :=
  if q.room = 0 then (q, 0)
  else
    let q1 := { q.abandonOpen with discard := false }
    let sl := q1.nextSlot
    ({ q1 with fill := q1.fill ++ [⟨some sl, none, [], false, now⟩] }, 2 ^ 31 + sl)

/-- R579: a write of Qn_LEN fills the length word of the packet whose reserved slot it names. -/
def Queue.length (q : Queue) (sl n : Nat) : Queue :=
  { q with fill := q.fill.map (fun (p : QPkt) =>
      if p.slot = some sl ∧ p.len = none then { p with len := some (n % 2048) } else p) }.swap

/-- R578: the packets that have been open for `maxUs` microseconds are abandoned; DISCARD begins where a LAST word
was still to come. -/
def Queue.expire (q : Queue) (now maxUs : Nat) : Queue :=
  let late := fun (p : QPkt) => !p.complete && decide (p.since + maxUs * us ≤ now)
  if q.fill.any late then
    { q with
      fill := q.fill.filter (fun p => !late p), abandon := true,
      discard := q.discard || q.fill.any fun p => late p && !p.done }.swap
  else q

/-- R576, R577: the next word of the drain side, or zero. -/
def Queue.next (q : Queue) : Queue × Option Word64 :=
  match q.cur, q.drain with
  | w :: r, _ => ({ q with cur := r }.swap, some w)
  | [], (w :: r) :: d => ({ q with cur := r, drain := d, curBad := false }.swap, some w)
  | [], [] :: d => ({ q with drain := d }.swap, none)
  | [], [] => (q, none)

/-- R582. Assumption log: 168 (DEDUCED). -/
def Queue.flush (q : Queue) : Queue :=
  { q with fill := [], cur := [], drain := [], mark := none, flushed := true, discard := q.discard || q.isOpen }

/-- R583: the mark can be set where the next word is a FIRST word in the drain bank. -/
def Queue.canMark (q : Queue) : Bool := q.cur.isEmpty && !q.drain.isEmpty

/-- A producer that writes whole packets: nothing is written where the fill bank cannot take the packet. -/
def Queue.putAll (q : Queue) (ws : List Word64) (now : Nat) : Option Queue :=
  if q.room < ws.length then none else some (ws.foldl (fun q w => (q.put w now).1) q)

/-- Qn_FLAGS. -/
def Queue.flags (q : Queue) : Nat := b2n q.overrun + 2 * b2n q.abandon + 4 * b2n q.flushed + 8 * b2n q.markLost

/-- Qn_STAT. -/
def Queue.stat (q : Queue) : Nat :=
  b2n (q.room == 0) * 2 ^ 31 + b2n q.empty * 2 ^ 30 + b2n q.isOpen * 2 ^ 29 + b2n q.mark.isSome * 2 ^ 28
    + b2n q.discard * 2 ^ 27 + b2n q.bank1 * 2 ^ 26 + q.drainWords % 4096 * 2 ^ 12 + q.fillWords % 4096

/-- The escalating classes of R592. -/
def escalating (cls : Nat) : Bool := cls == 3 || cls == 4 || cls == 5 || cls == 6 || cls == 8

/-- Whether class `cls` is open. -/
def ErrLog.isOpen (l : ErrLog) (cls : Nat) : Bool := bitsN l.openCls (cls - 1) (cls - 1) == 1

/-- Write a record, or drop it when eight are held (R594). -/
def ErrLog.push (l : ErrLog) (e : ErrRec) : ErrLog :=
  if l.recs.length < 8 then { l with recs := l.recs ++ [e] }
  else { l with ovf := true, ovfCnt := incSat l.ovfCnt }

/-- R593 to R595: record an error. The Boolean says that the error escalates. -/
def ErrLog.record (l : ErrLog) (e : ErrRec) : ErrLog × Bool :=
  if e.cls = 2 then
    let l1 := { l with ceCnt := incSat l.ceCnt }
    (if l.recs.any fun r => r.cls == 2 then l1 else l1.push e, false)
  else if escalating e.cls then
    if l.isOpen e.cls then ({ l with second := true, escCnt := incSat l.escCnt }.push e, true)
    else ({ l with openCls := l.openCls + 2 ^ (e.cls - 1) }.push e, false)
  else (l.push e, false)

/-- R595: the classes named in the mask are closed. -/
def ErrLog.ack (l : ErrLog) (mask : Nat) : ErrLog := { l with openCls := Nat.land l.openCls (255 - mask % 256) }

/-- ERR_POP: the oldest record is removed. -/
def ErrLog.pop (l : ErrLog) : ErrLog := { l with recs := l.recs.drop 1 }

/-- ERR_STAT. -/
def ErrLog.stat (l : ErrLog) : Nat := b2n l.second * 2 ^ 31 + b2n l.ovf * 2 ^ 30 + l.openCls * 2 ^ 16 + l.recs.length

/-- The four words of a record (R591). -/
def ErrRec.word (e : ErrRec) (i : Nat) : Nat :=
  match i with
  | 0 => e.cls % 16 * 2 ^ 28 + e.code % 256 * 2 ^ 16 + e.init % 256 * 2 ^ 8 + e.detail % 256
  | 1 => e.addr % 2 ^ 32
  | 2 => e.aux % 2 ^ 24 * 2 ^ 8 + e.addr / 2 ^ 32 % 256
  | _ => e.time / 2 ^ 10 % 2 ^ 32

end Sys2Proof.Machine
end

