-- ==== Sys2Proof/Machine/RegAddr.lean ====
section
/-! DEFINITION. Sys2Proof/Machine/RegAddr.lean: the addresses of the registers of R673 and of the chapters'
register tables, under the spec's names. A register shown in a selection window (CTLE.SLOT_WIN and the like) has
one instance for every value of the selection register: instance i is kept under the key
address + (i + 1) * 2^40. -/
namespace Sys2Proof.Machine
/-- The key of instance `i` of a windowed register. -/
abbrev bankKey (a i : Nat) : Nat := a + (i + 1) * 0x10000000000

-- SYS
abbrev Reg.SYS.CHIP_ID : Nat := 0x40000000
abbrev Reg.SYS.SITE_TIME_LO : Nat := 0x40000008
abbrev Reg.SYS.SITE_TIME_HI : Nat := 0x4000000C
abbrev Reg.SYS.RST_CAUSE : Nat := 0x40000010
abbrev Reg.SYS.RST_CTL : Nat := 0x40000014
abbrev Reg.SYS.WDT_CTL : Nat := 0x40000018
abbrev Reg.SYS.WDT_KICK : Nat := 0x4000001C
abbrev Reg.SYS.CLK_STAT : Nat := 0x40000020
abbrev Reg.SYS.PD_STAT : Nat := 0x40000024
abbrev Reg.SYS.BOOT_STAT : Nat := 0x40000028
abbrev Reg.SYS.TICK_STAT : Nat := 0x40000100
abbrev Reg.SYS.TICK_ABANDON_CNT : Nat := 0x40000104
abbrev Reg.SYS.TICK_MAX_CYCLES : Nat := 0x40000108
abbrev Reg.SYS.EVT_STAT : Nat := 0x40000080
abbrev Reg.SYS.EVT_EN : Nat := 0x40000084
abbrev Reg.SYS.ERR_STAT : Nat := 0x40000090
abbrev Reg.SYS.ERR_REC (i : Nat) : Nat := 0x40000094 + i * 4
abbrev Reg.SYS.ERR_POP : Nat := 0x400000A4
abbrev Reg.SYS.ERR_ACK : Nat := 0x400000A8
abbrev Reg.SYS.ERR_CE_CNT : Nat := 0x400000AC
abbrev Reg.SYS.ERR_OVF_CNT : Nat := 0x400000B0
abbrev Reg.SYS.ERR_ESC_CNT : Nat := 0x400000B4
-- CFG
abbrev Reg.CFG.IMG_SEQ : Nat := 0x40010000
abbrev Reg.CFG.REJ : Nat := 0x40010004
abbrev Reg.CFG.REJ_OFS : Nat := 0x40010008
abbrev Reg.CFG.APP_BASE : Nat := 0x4001000C
abbrev Reg.CFG.APP_NUM : Nat := 0x40010010
abbrev Reg.CFG.FL_ADDR : Nat := 0x40010020
abbrev Reg.CFG.FL_CMD : Nat := 0x40010024
abbrev Reg.CFG.FL_STAT : Nat := 0x40010028
abbrev Reg.CFG.FL_DATA (i : Nat) : Nat := 0x40010100 + i * 4
abbrev Reg.CFG.EVT_STAT : Nat := 0x40010080
abbrev Reg.CFG.EVT_EN : Nat := 0x40010084
abbrev Reg.CFG.ERR_STAT : Nat := 0x40010090
abbrev Reg.CFG.ERR_REC (i : Nat) : Nat := 0x40010094 + i * 4
abbrev Reg.CFG.ERR_POP : Nat := 0x400100A4
abbrev Reg.CFG.ERR_ACK : Nat := 0x400100A8
abbrev Reg.CFG.ERR_CE_CNT : Nat := 0x400100AC
abbrev Reg.CFG.ERR_OVF_CNT : Nat := 0x400100B0
abbrev Reg.CFG.ERR_ESC_CNT : Nat := 0x400100B4
-- QUE
abbrev Reg.QUE.Q15_OUT_RD : Nat := 0x40020500
abbrev Reg.QUE.Q_FILL_LO (i : Nat) : Nat := 0x40020100 + i * 0x40
abbrev Reg.QUE.Q_FILL_HI (i : Nat) : Nat := 0x40020104 + i * 0x40
abbrev Reg.QUE.Q_FREE (i : Nat) : Nat := 0x40020108 + i * 0x40
abbrev Reg.QUE.Q_RSV (i : Nat) : Nat := 0x4002010C + i * 0x40
abbrev Reg.QUE.Q_LEN (i : Nat) : Nat := 0x40020110 + i * 0x40
abbrev Reg.QUE.Q_DRAIN_LO (i : Nat) : Nat := 0x40020114 + i * 0x40
abbrev Reg.QUE.Q_DRAIN_HI (i : Nat) : Nat := 0x40020118 + i * 0x40
abbrev Reg.QUE.Q_STAT (i : Nat) : Nat := 0x4002011C + i * 0x40
abbrev Reg.QUE.Q_CTL (i : Nat) : Nat := 0x40020120 + i * 0x40
abbrev Reg.QUE.Q_FLAGS (i : Nat) : Nat := 0x40020124 + i * 0x40
abbrev Reg.QUE.Q_CFG (i : Nat) : Nat := 0x40020128 + i * 0x40
abbrev Reg.QUE.Q_OVR_CNT (i : Nat) : Nat := 0x4002012C + i * 0x40
abbrev Reg.QUE.Q_POISON_CNT (i : Nat) : Nat := 0x40020130 + i * 0x40
abbrev Reg.QUE.EVT_STAT : Nat := 0x40020080
abbrev Reg.QUE.EVT_EN : Nat := 0x40020084
abbrev Reg.QUE.ERR_STAT : Nat := 0x40020090
abbrev Reg.QUE.ERR_REC (i : Nat) : Nat := 0x40020094 + i * 4
abbrev Reg.QUE.ERR_POP : Nat := 0x400200A4
abbrev Reg.QUE.ERR_ACK : Nat := 0x400200A8
abbrev Reg.QUE.ERR_CE_CNT : Nat := 0x400200AC
abbrev Reg.QUE.ERR_OVF_CNT : Nat := 0x400200B0
abbrev Reg.QUE.ERR_ESC_CNT : Nat := 0x400200B4
-- SPM
abbrev Reg.SPM.MIT_CFG : Nat := 0x40030000
abbrev Reg.SPM.MIT_STAT : Nat := 0x40030004
abbrev Reg.SPM.MIT_PASS_CNT : Nat := 0x40030008
abbrev Reg.SPM.CONFLICT_ADDR : Nat := 0x4003000C
abbrev Reg.SPM.CONFLICT_CNT : Nat := 0x40030010
abbrev Reg.SPM.BANK_CFG (i : Nat) : Nat := 0x40030100 + i * 4
abbrev Reg.SPM.BANK_STAT (i : Nat) : Nat := 0x40030200 + i * 4
abbrev Reg.SPM.EVT_STAT : Nat := 0x40030080
abbrev Reg.SPM.EVT_EN : Nat := 0x40030084
abbrev Reg.SPM.ERR_STAT : Nat := 0x40030090
abbrev Reg.SPM.ERR_REC (i : Nat) : Nat := 0x40030094 + i * 4
abbrev Reg.SPM.ERR_POP : Nat := 0x400300A4
abbrev Reg.SPM.ERR_ACK : Nat := 0x400300A8
abbrev Reg.SPM.ERR_CE_CNT : Nat := 0x400300AC
abbrev Reg.SPM.ERR_OVF_CNT : Nat := 0x400300B0
abbrev Reg.SPM.ERR_ESC_CNT : Nat := 0x400300B4
-- DRC
abbrev Reg.DRC.SCRUB_CFG : Nat := 0x40040000
abbrev Reg.DRC.CE_CNT : Nat := 0x40040004
abbrev Reg.DRC.UE_CNT : Nat := 0x40040008
abbrev Reg.DRC.SCRUB_PTR : Nat := 0x4004000C
abbrev Reg.DRC.EVT_STAT : Nat := 0x40040080
abbrev Reg.DRC.EVT_EN : Nat := 0x40040084
abbrev Reg.DRC.ERR_STAT : Nat := 0x40040090
abbrev Reg.DRC.ERR_REC (i : Nat) : Nat := 0x40040094 + i * 4
abbrev Reg.DRC.ERR_POP : Nat := 0x400400A4
abbrev Reg.DRC.ERR_ACK : Nat := 0x400400A8
abbrev Reg.DRC.ERR_CE_CNT : Nat := 0x400400AC
abbrev Reg.DRC.ERR_OVF_CNT : Nat := 0x400400B0
abbrev Reg.DRC.ERR_ESC_CNT : Nat := 0x400400B4
-- ALLOC
abbrev Reg.ALLOC.CTRL : Nat := 0x40100000
abbrev Reg.ALLOC.SOLVE_CFG : Nat := 0x40100004
abbrev Reg.ALLOC.STAT : Nat := 0x40100008
abbrev Reg.ALLOC.REPAIR_MAX : Nat := 0x4010000C
abbrev Reg.ALLOC.SHED_CFG : Nat := 0x40100010
abbrev Reg.ALLOC.ROUTE_CFG : Nat := 0x40100014
abbrev Reg.ALLOC.ROUTE_TMO : Nat := 0x40100018
abbrev Reg.ALLOC.ROUTE_NODE : Nat := 0x4010001C
abbrev Reg.ALLOC.ROUTE_PTR : Nat := 0x40100020
abbrev Reg.ALLOC.ROUTE_CLR : Nat := 0x40100024
abbrev Reg.ALLOC.MODEL_CTL : Nat := 0x40100030
abbrev Reg.ALLOC.MODEL_VER : Nat := 0x40100034
abbrev Reg.ALLOC.MODEL_ADDR : Nat := 0x40100038
abbrev Reg.ALLOC.MODEL_DATA : Nat := 0x4010003C
abbrev Reg.ALLOC.Q0_CFG : Nat := 0x40100040
abbrev Reg.ALLOC.Q0_DROP : Nat := 0x40100044
abbrev Reg.ALLOC.SHED_EVT_CNT : Nat := 0x40100048
abbrev Reg.ALLOC.SHED_MAP (i : Nat) : Nat := 0x40100100 + i * 4
abbrev Reg.ALLOC.UNROUTED_MAP (i : Nat) : Nat := 0x40100120 + i * 4
abbrev Reg.ALLOC.RES_DISP (i : Nat) : Nat := 0x40102000 + i * 4
abbrev Reg.ALLOC.RES_CAB (i : Nat) : Nat := 0x40102400 + i * 4
abbrev Reg.ALLOC.RES_SRC (i : Nat) : Nat := 0x40103000 + i * 4
abbrev Reg.ALLOC.NODE_FLOW (i : Nat) : Nat := 0x40103100 + i * 4
abbrev Reg.ALLOC.NODE_PRICE (i : Nat) : Nat := 0x40103900 + i * 4
abbrev Reg.ALLOC.ROUTE_MAP (i : Nat) : Nat := 0x40104400 + i * 4
abbrev Reg.ALLOC.SRC_IMP_LIM (i : Nat) : Nat := 0x40105000 + i * 4
abbrev Reg.ALLOC.SRC_EXP_LIM (i : Nat) : Nat := 0x40105100 + i * 4
abbrev Reg.ALLOC.EVT_STAT : Nat := 0x40100080
abbrev Reg.ALLOC.EVT_EN : Nat := 0x40100084
abbrev Reg.ALLOC.ERR_STAT : Nat := 0x40100090
abbrev Reg.ALLOC.ERR_REC (i : Nat) : Nat := 0x40100094 + i * 4
abbrev Reg.ALLOC.ERR_POP : Nat := 0x401000A4
abbrev Reg.ALLOC.ERR_ACK : Nat := 0x401000A8
abbrev Reg.ALLOC.ERR_CE_CNT : Nat := 0x401000AC
abbrev Reg.ALLOC.ERR_OVF_CNT : Nat := 0x401000B0
abbrev Reg.ALLOC.ERR_ESC_CNT : Nat := 0x401000B4
-- LEASE
abbrev Reg.LEASE.CTRL : Nat := 0x40110000
abbrev Reg.LEASE.CFG : Nat := 0x40110004
abbrev Reg.LEASE.STAT : Nat := 0x40110008
abbrev Reg.LEASE.EPOCH : Nat := 0x4011000C
abbrev Reg.LEASE.RECON_CFG : Nat := 0x40110010
abbrev Reg.LEASE.RESID : Nat := 0x40110014
abbrev Reg.LEASE.GRANT_CNT : Nat := 0x40110018
abbrev Reg.LEASE.MISS_CNT : Nat := 0x4011001C
abbrev Reg.LEASE.OVER_CNT : Nat := 0x40110020
abbrev Reg.LEASE.Q1_DROP : Nat := 0x40110024
abbrev Reg.LEASE.LID : Nat := 0x40110028
abbrev Reg.LEASE.TBL_SEL : Nat := 0x40110040
abbrev Reg.LEASE.TBL_LID : Nat := 0x40110044
abbrev Reg.LEASE.TBL_SEQ : Nat := 0x40110048
abbrev Reg.LEASE.TBL_START_LO : Nat := 0x4011004C
abbrev Reg.LEASE.TBL_START_HI : Nat := 0x40110050
abbrev Reg.LEASE.TBL_EXP_LO : Nat := 0x40110054
abbrev Reg.LEASE.TBL_EXP_HI : Nat := 0x40110058
abbrev Reg.LEASE.TBL_P : Nat := 0x4011005C
abbrev Reg.LEASE.TBL_I : Nat := 0x40110060
abbrev Reg.LEASE.TBL_ACK : Nat := 0x40110064
abbrev Reg.LEASE.TGT (i : Nat) : Nat := 0x40111000 + i * 4
abbrev Reg.LEASE.EVT_STAT : Nat := 0x40110080
abbrev Reg.LEASE.EVT_EN : Nat := 0x40110084
abbrev Reg.LEASE.ERR_STAT : Nat := 0x40110090
abbrev Reg.LEASE.ERR_REC (i : Nat) : Nat := 0x40110094 + i * 4
abbrev Reg.LEASE.ERR_POP : Nat := 0x401100A4
abbrev Reg.LEASE.ERR_ACK : Nat := 0x401100A8
abbrev Reg.LEASE.ERR_CE_CNT : Nat := 0x401100AC
abbrev Reg.LEASE.ERR_OVF_CNT : Nat := 0x401100B0
abbrev Reg.LEASE.ERR_ESC_CNT : Nat := 0x401100B4
-- CTLE
abbrev Reg.CTLE.CTRL : Nat := 0x40120000
abbrev Reg.CTLE.STAT : Nat := 0x40120004
abbrev Reg.CTLE.LOAD : Nat := 0x40120008
abbrev Reg.CTLE.SLOT_SEL : Nat := 0x40120040
abbrev Reg.CTLE.GEN_SEL : Nat := 0x40120044
abbrev Reg.CTLE.Q2_DROP : Nat := 0x40120048
abbrev Reg.CTLE.MISS_CNT : Nat := 0x4012004C
abbrev Reg.CTLE.FAULT_MAP (i : Nat) : Nat := 0x40120300 + i * 4
abbrev Reg.CTLE.CTL (w : Nat) : Nat := bankKey (0x40120100) w
abbrev Reg.CTLE.PV_SRC (w : Nat) : Nat := bankKey (0x40120104) w
abbrev Reg.CTLE.SP_SRC (w : Nat) : Nat := bankKey (0x40120108) w
abbrev Reg.CTLE.SINK (w : Nat) : Nat := bankKey (0x4012010C) w
abbrev Reg.CTLE.SP (w : Nat) : Nat := bankKey (0x40120110) w
abbrev Reg.CTLE.STALE (w : Nat) : Nat := bankKey (0x40120114) w
abbrev Reg.CTLE.SAFE (w : Nat) : Nat := bankKey (0x40120118) w
abbrev Reg.CTLE.KP (w : Nat) : Nat := bankKey (0x40120120) w
abbrev Reg.CTLE.KI (w : Nat) : Nat := bankKey (0x40120124) w
abbrev Reg.CTLE.KD (w : Nat) : Nat := bankKey (0x40120128) w
abbrev Reg.CTLE.KF (w : Nat) : Nat := bankKey (0x4012012C) w
abbrev Reg.CTLE.OUT_MIN (w : Nat) : Nat := bankKey (0x40120130) w
abbrev Reg.CTLE.OUT_MAX (w : Nat) : Nat := bankKey (0x40120134) w
abbrev Reg.CTLE.I_MIN (w : Nat) : Nat := bankKey (0x40120138) w
abbrev Reg.CTLE.I_MAX (w : Nat) : Nat := bankKey (0x4012013C) w
abbrev Reg.CTLE.DCFG (w : Nat) : Nat := bankKey (0x40120140) w
abbrev Reg.CTLE.OUT (w : Nat) : Nat := bankKey (0x40120150) w
abbrev Reg.CTLE.ERR (w : Nat) : Nat := bankKey (0x40120154) w
abbrev Reg.CTLE.I_LO (w : Nat) : Nat := bankKey (0x40120158) w
abbrev Reg.CTLE.I_HI (w : Nat) : Nat := bankKey (0x4012015C) w
abbrev Reg.CTLE.DSTATE (w : Nat) : Nat := bankKey (0x40120160) w
abbrev Reg.CTLE.PV (w : Nat) : Nat := bankKey (0x40120164) w
abbrev Reg.CTLE.SLOT_STAT (w : Nat) : Nat := bankKey (0x40120168) w
abbrev Reg.CTLE.EVAL_CNT (w : Nat) : Nat := bankKey (0x4012016C) w
abbrev Reg.CTLE.LAST_T_LO (w : Nat) : Nat := bankKey (0x40120170) w
abbrev Reg.CTLE.LAST_T_HI (w : Nat) : Nat := bankKey (0x40120174) w
abbrev Reg.CTLE.ACT_VER (w : Nat) : Nat := bankKey (0x40120178) w
abbrev Reg.CTLE.GCTL (w : Nat) : Nat := bankKey (0x40120200) w
abbrev Reg.CTLE.TARGET (w : Nat) : Nat := bankKey (0x40120204) w
abbrev Reg.CTLE.VMAX (w : Nat) : Nat := bankKey (0x40120208) w
abbrev Reg.CTLE.AMAX (w : Nat) : Nat := bankKey (0x4012020C) w
abbrev Reg.CTLE.JMAX (w : Nat) : Nat := bankKey (0x40120210) w
abbrev Reg.CTLE.X (w : Nat) : Nat := bankKey (0x40120214) w
abbrev Reg.CTLE.V (w : Nat) : Nat := bankKey (0x40120218) w
abbrev Reg.CTLE.A (w : Nat) : Nat := bankKey (0x4012021C) w
abbrev Reg.CTLE.GSTAT (w : Nat) : Nat := bankKey (0x40120220) w
abbrev Reg.CTLE.T_ARR_LO (w : Nat) : Nat := bankKey (0x40120224) w
abbrev Reg.CTLE.T_ARR_HI (w : Nat) : Nat := bankKey (0x40120228) w
abbrev Reg.CTLE.OFS (w : Nat) : Nat := bankKey (0x4012022C) w
abbrev Reg.CTLE.EVT_STAT : Nat := 0x40120080
abbrev Reg.CTLE.EVT_EN : Nat := 0x40120084
abbrev Reg.CTLE.ERR_STAT : Nat := 0x40120090
abbrev Reg.CTLE.ERR_REC (i : Nat) : Nat := 0x40120094 + i * 4
abbrev Reg.CTLE.ERR_POP : Nat := 0x401200A4
abbrev Reg.CTLE.ERR_ACK : Nat := 0x401200A8
abbrev Reg.CTLE.ERR_CE_CNT : Nat := 0x401200AC
abbrev Reg.CTLE.ERR_OVF_CNT : Nat := 0x401200B0
abbrev Reg.CTLE.ERR_ESC_CNT : Nat := 0x401200B4
-- THRM
abbrev Reg.THRM.STAT : Nat := 0x40130000
abbrev Reg.THRM.PUB_TIME_LO : Nat := 0x40130004
abbrev Reg.THRM.PUB_TIME_HI : Nat := 0x40130008
abbrev Reg.THRM.PLAUS0 : Nat := 0x40130010
abbrev Reg.THRM.PLAUS1 : Nat := 0x40130014
abbrev Reg.THRM.PLAUS2 : Nat := 0x40130018
abbrev Reg.THRM.OBS_SEL : Nat := 0x40130040
abbrev Reg.THRM.CIRC_SEL : Nat := 0x40130044
abbrev Reg.THRM.Q3_DROP : Nat := 0x40130048
abbrev Reg.THRM.RESIDUE_CNT : Nat := 0x4013004C
abbrev Reg.THRM.HS (i : Nat) : Nat := 0x40131000 + i * 4
abbrev Reg.THRM.CRED1 (i : Nat) : Nat := 0x40132000 + i * 4
abbrev Reg.THRM.CRED10 (i : Nat) : Nat := 0x40132800 + i * 4
abbrev Reg.THRM.CRED60 (i : Nat) : Nat := 0x40133000 + i * 4
abbrev Reg.THRM.CIRC_DEM (i : Nat) : Nat := 0x40133800 + i * 4
abbrev Reg.THRM.OBS_CFG (i w : Nat) : Nat := bankKey (0x40130100 + i * 4) w
abbrev Reg.THRM.T1 (w : Nat) : Nat := bankKey (0x401301C0) w
abbrev Reg.THRM.T2 (w : Nat) : Nat := bankKey (0x401301C4) w
abbrev Reg.THRM.T3 (w : Nat) : Nat := bankKey (0x401301C8) w
abbrev Reg.THRM.I_USED (w : Nat) : Nat := bankKey (0x401301CC) w
abbrev Reg.THRM.F_USED (w : Nat) : Nat := bankKey (0x401301D0) w
abbrev Reg.THRM.R_NOW (w : Nat) : Nat := bankKey (0x401301D4) w
abbrev Reg.THRM.CRED1_W (w : Nat) : Nat := bankKey (0x401301D8) w
abbrev Reg.THRM.CRED10_W (w : Nat) : Nat := bankKey (0x401301DC) w
abbrev Reg.THRM.CRED60_W (w : Nat) : Nat := bankKey (0x401301E0) w
abbrev Reg.THRM.RESID (w : Nat) : Nat := bankKey (0x401301E4) w
abbrev Reg.THRM.OSTAT (w : Nat) : Nat := bankKey (0x401301E8) w
abbrev Reg.THRM.R_CRED (w : Nat) : Nat := bankKey (0x401301EC) w
abbrev Reg.THRM.TIMER (w : Nat) : Nat := bankKey (0x401301F0) w
abbrev Reg.THRM.CCTL (w : Nat) : Nat := bankKey (0x40130200) w
abbrev Reg.THRM.CNODE (w : Nat) : Nat := bankKey (0x40130204) w
abbrev Reg.THRM.PUMP_LIM (w : Nat) : Nat := bankKey (0x40130208) w
abbrev Reg.THRM.VALVE_LIM (w : Nat) : Nat := bankKey (0x4013020C) w
abbrev Reg.THRM.LOSS (w : Nat) : Nat := bankKey (0x40130210) w
abbrev Reg.THRM.ON (w : Nat) : Nat := bankKey (0x40130214) w
abbrev Reg.THRM.I_COOL_ON (w : Nat) : Nat := bankKey (0x40130218) w
abbrev Reg.THRM.PUMP_DEM (w : Nat) : Nat := bankKey (0x40130220) w
abbrev Reg.THRM.VALVE_DEM (w : Nat) : Nat := bankKey (0x40130224) w
abbrev Reg.THRM.CSTAT (w : Nat) : Nat := bankKey (0x40130228) w
abbrev Reg.THRM.EVT_STAT : Nat := 0x40130080
abbrev Reg.THRM.EVT_EN : Nat := 0x40130084
abbrev Reg.THRM.ERR_STAT : Nat := 0x40130090
abbrev Reg.THRM.ERR_REC (i : Nat) : Nat := 0x40130094 + i * 4
abbrev Reg.THRM.ERR_POP : Nat := 0x401300A4
abbrev Reg.THRM.ERR_ACK : Nat := 0x401300A8
abbrev Reg.THRM.ERR_CE_CNT : Nat := 0x401300AC
abbrev Reg.THRM.ERR_OVF_CNT : Nat := 0x401300B0
abbrev Reg.THRM.ERR_ESC_CNT : Nat := 0x401300B4
-- PNT
abbrev Reg.PNT.CTRL : Nat := 0x40140000
abbrev Reg.PNT.CFG : Nat := 0x40140004
abbrev Reg.PNT.STAT : Nat := 0x40140008
abbrev Reg.PNT.DEF_CNT : Nat := 0x4014000C
abbrev Reg.PNT.STASH_OCC : Nat := 0x40140010
abbrev Reg.PNT.STASH_HWM : Nat := 0x40140014
abbrev Reg.PNT.MIG_PTR : Nat := 0x40140018
abbrev Reg.PNT.SWEEP_CFG : Nat := 0x4014001C
abbrev Reg.PNT.Q5_CFG : Nat := 0x40140020
abbrev Reg.PNT.ROLL_TIME_LO : Nat := 0x40140024
abbrev Reg.PNT.ROLL_TIME_HI : Nat := 0x40140028
abbrev Reg.PNT.INGEST_CNT : Nat := 0x40140030
abbrev Reg.PNT.REJ_SEQ_CNT : Nat := 0x40140034
abbrev Reg.PNT.REJ_TIME_CNT : Nat := 0x40140038
abbrev Reg.PNT.REJ_NODE_CNT : Nat := 0x4014003C
abbrev Reg.PNT.UNKNOWN_CNT : Nat := 0x40140040
abbrev Reg.PNT.BLK_DROP_CNT : Nat := 0x40140044
abbrev Reg.PNT.STASH_INS_CNT : Nat := 0x40140048
abbrev Reg.PNT.REHASH_CNT : Nat := 0x4014004C
abbrev Reg.PNT.RESCAN_OVF_CNT : Nat := 0x40140050
abbrev Reg.PNT.ECC_LOST_CNT : Nat := 0x40140054
abbrev Reg.PNT.ROLL_LATE_CNT : Nat := 0x40140058
abbrev Reg.PNT.Q4_DROP : Nat := 0x4014005C
abbrev Reg.PNT.Q5_DROP : Nat := 0x40140060
abbrev Reg.PNT.CMD_KEY_LO : Nat := 0x40140100
abbrev Reg.PNT.CMD_KEY_HI : Nat := 0x40140104
abbrev Reg.PNT.CMD_ARG (i : Nat) : Nat := 0x40140108 + i * 4
abbrev Reg.PNT.CMD : Nat := 0x40140118
abbrev Reg.PNT.CMD_STAT : Nat := 0x4014011C
abbrev Reg.PNT.CMD_RES : Nat := 0x40140120
abbrev Reg.PNT.RD_IDX : Nat := 0x40140140
abbrev Reg.PNT.RD_STAT : Nat := 0x40140144
abbrev Reg.PNT.RD_DATA (i : Nat) : Nat := 0x40140160 + i * 4
abbrev Reg.PNT.PROF_SEL : Nat := 0x40140180
abbrev Reg.PNT.PROF_WIN (i : Nat) : Nat := 0x401401A0 + i * 4
abbrev Reg.PNT.SPROF_SEL : Nat := 0x401401C0
abbrev Reg.PNT.SPROF_WIN (i : Nat) : Nat := 0x401401E0 + i * 4
abbrev Reg.PNT.NODE_SEL : Nat := 0x40140240
abbrev Reg.PNT.NODE_WIN (i : Nat) : Nat := 0x40140260 + i * 4
abbrev Reg.PNT.SRC_DIS (i : Nat) : Nat := 0x40141000 + i * 4
abbrev Reg.PNT.SRC_CHG (i : Nat) : Nat := 0x40141100 + i * 4
abbrev Reg.PNT.EVT_STAT : Nat := 0x40140080
abbrev Reg.PNT.EVT_EN : Nat := 0x40140084
abbrev Reg.PNT.ERR_STAT : Nat := 0x40140090
abbrev Reg.PNT.ERR_REC (i : Nat) : Nat := 0x40140094 + i * 4
abbrev Reg.PNT.ERR_POP : Nat := 0x401400A4
abbrev Reg.PNT.ERR_ACK : Nat := 0x401400A8
abbrev Reg.PNT.ERR_CE_CNT : Nat := 0x401400AC
abbrev Reg.PNT.ERR_OVF_CNT : Nat := 0x401400B0
abbrev Reg.PNT.ERR_ESC_CNT : Nat := 0x401400B4
-- SESS
abbrev Reg.SESS.CTRL : Nat := 0x40200000
abbrev Reg.SESS.CFG : Nat := 0x40200004
abbrev Reg.SESS.STAT : Nat := 0x40200008
abbrev Reg.SESS.MAC_BASE_LO : Nat := 0x4020000C
abbrev Reg.SESS.MAC_BASE_HI : Nat := 0x40200010
abbrev Reg.SESS.RX_MSG_CNT : Nat := 0x40200020
abbrev Reg.SESS.DECODE_ERR_CNT : Nat := 0x40200024
abbrev Reg.SESS.VTUN_REJ_CNT : Nat := 0x40200028
abbrev Reg.SESS.FRAG_DROP_CNT : Nat := 0x4020002C
abbrev Reg.SESS.Q6_DROP : Nat := 0x40200030
abbrev Reg.SESS.Q7_REJ_CNT : Nat := 0x40200034
abbrev Reg.SESS.DISP_SEL : Nat := 0x40200040
abbrev Reg.SESS.PUB_CEIL_MA (i : Nat) : Nat := 0x40201000 + i * 4
abbrev Reg.SESS.PUB_CEIL_W (i : Nat) : Nat := 0x40201400 + i * 4
abbrev Reg.SESS.PUB_LO_W (i : Nat) : Nat := 0x40201800 + i * 4
abbrev Reg.SESS.DCTL (w : Nat) : Nat := bankKey (0x40200100) w
abbrev Reg.SESS.C_OUT (w : Nat) : Nat := bankKey (0x40200104) w
abbrev Reg.SESS.C_CABLE (w : Nat) : Nat := bankKey (0x40200108) w
abbrev Reg.SESS.C_EV_MAX (w : Nat) : Nat := bankKey (0x4020010C) w
abbrev Reg.SESS.C_Y (w : Nat) : Nat := bankKey (0x40200110) w
abbrev Reg.SESS.E_LIM (w : Nat) : Nat := bankKey (0x40200114) w
abbrev Reg.SESS.E_HOLD (w : Nat) : Nat := bankKey (0x40200118) w
abbrev Reg.SESS.V_SAFE (w : Nat) : Nat := bankKey (0x4020011C) w
abbrev Reg.SESS.PRECHG_MA (w : Nat) : Nat := bankKey (0x40200120) w
abbrev Reg.SESS.V_MAX (w : Nat) : Nat := bankKey (0x40200124) w
abbrev Reg.SESS.TMO0 (w : Nat) : Nat := bankKey (0x40200128) w
abbrev Reg.SESS.TMO1 (w : Nat) : Nat := bankKey (0x4020012C) w
abbrev Reg.SESS.TMO2 (w : Nat) : Nat := bankKey (0x40200130) w
abbrev Reg.SESS.SSTAT (w : Nat) : Nat := bankKey (0x40200140) w
abbrev Reg.SESS.EV_TGT_MA (w : Nat) : Nat := bankKey (0x40200144) w
abbrev Reg.SESS.EV_TGT_MV (w : Nat) : Nat := bankKey (0x40200148) w
abbrev Reg.SESS.EV_MAX_MA (w : Nat) : Nat := bankKey (0x4020014C) w
abbrev Reg.SESS.EV_MAX_W (w : Nat) : Nat := bankKey (0x40200150) w
abbrev Reg.SESS.EV_MAX_DIS_W (w : Nat) : Nat := bankKey (0x40200154) w
abbrev Reg.SESS.GATE (w : Nat) : Nat := bankKey (0x40200158) w
abbrev Reg.SESS.START_LO (w : Nat) : Nat := bankKey (0x4020015C) w
abbrev Reg.SESS.START_HI (w : Nat) : Nat := bankKey (0x40200160) w
abbrev Reg.SESS.TLS_CTX (w : Nat) : Nat := bankKey (0x40200164) w
abbrev Reg.SESS.EVT_STAT : Nat := 0x40200080
abbrev Reg.SESS.EVT_EN : Nat := 0x40200084
abbrev Reg.SESS.ERR_STAT : Nat := 0x40200090
abbrev Reg.SESS.ERR_REC (i : Nat) : Nat := 0x40200094 + i * 4
abbrev Reg.SESS.ERR_POP : Nat := 0x402000A4
abbrev Reg.SESS.ERR_ACK : Nat := 0x402000A8
abbrev Reg.SESS.ERR_CE_CNT : Nat := 0x402000AC
abbrev Reg.SESS.ERR_OVF_CNT : Nat := 0x402000B0
abbrev Reg.SESS.ERR_ESC_CNT : Nat := 0x402000B4
-- XCR
abbrev Reg.XCR.CTRL : Nat := 0x40210000
abbrev Reg.XCR.STAT : Nat := 0x40210004
abbrev Reg.XCR.KEY_REF : Nat := 0x40210008
abbrev Reg.XCR.CERT_SEL : Nat := 0x40210040
abbrev Reg.XCR.CERT_DATA : Nat := 0x40210044
abbrev Reg.XCR.CERT_CTL : Nat := 0x40210048
abbrev Reg.XCR.HS_CNT : Nat := 0x40210060
abbrev Reg.XCR.HS_FAIL_CNT : Nat := 0x40210064
abbrev Reg.XCR.ALERT_CNT : Nat := 0x40210068
abbrev Reg.XCR.CTX_FULL_CNT : Nat := 0x4021006C
abbrev Reg.XCR.EVT_STAT : Nat := 0x40210080
abbrev Reg.XCR.EVT_EN : Nat := 0x40210084
abbrev Reg.XCR.ERR_STAT : Nat := 0x40210090
abbrev Reg.XCR.ERR_REC (i : Nat) : Nat := 0x40210094 + i * 4
abbrev Reg.XCR.ERR_POP : Nat := 0x402100A4
abbrev Reg.XCR.ERR_ACK : Nat := 0x402100A8
abbrev Reg.XCR.ERR_CE_CNT : Nat := 0x402100AC
abbrev Reg.XCR.ERR_OVF_CNT : Nat := 0x402100B0
abbrev Reg.XCR.ERR_ESC_CNT : Nat := 0x402100B4
-- FAB
abbrev Reg.FAB.CTRL : Nat := 0x40300000
abbrev Reg.FAB.ATK_CFG : Nat := 0x40300004
abbrev Reg.FAB.PTP_CFG : Nat := 0x40300008
abbrev Reg.FAB.PTP_STAT : Nat := 0x4030000C
abbrev Reg.FAB.PTP_RATE : Nat := 0x40300010
abbrev Reg.FAB.PORT_STAT (i : Nat) : Nat := 0x40300020 + i * 4
abbrev Reg.FAB.PORT_VLAN (i : Nat) : Nat := 0x40300030 + i * 4
abbrev Reg.FAB.MCAST4 : Nat := 0x40300040
abbrev Reg.FAB.MCAST6 (i : Nat) : Nat := 0x40300044 + i * 4
abbrev Reg.FAB.NODE_SEL : Nat := 0x40300060
abbrev Reg.FAB.NODE_WIN (i : Nat) : Nat := 0x40300064 + i * 4
abbrev Reg.FAB.RX_MSG_CNT : Nat := 0x40300100
abbrev Reg.FAB.TX_MSG_CNT : Nat := 0x40300104
abbrev Reg.FAB.FORMAT_CNT : Nat := 0x40300108
abbrev Reg.FAB.DST_DROP_CNT : Nat := 0x4030010C
abbrev Reg.FAB.NOKEY_CNT : Nat := 0x40300110
abbrev Reg.FAB.TAG_FAIL_CNT : Nat := 0x40300114
abbrev Reg.FAB.TIME_REJ_CNT : Nat := 0x40300118
abbrev Reg.FAB.SEQ_REJ_CNT : Nat := 0x4030011C
abbrev Reg.FAB.TX_NOPATH_CNT : Nat := 0x40300120
abbrev Reg.FAB.Q10_DROP : Nat := 0x40300124
abbrev Reg.FAB.Q11_REJ_CNT : Nat := 0x40300128
abbrev Reg.FAB.EVT_STAT : Nat := 0x40300080
abbrev Reg.FAB.EVT_EN : Nat := 0x40300084
abbrev Reg.FAB.ERR_STAT : Nat := 0x40300090
abbrev Reg.FAB.ERR_REC (i : Nat) : Nat := 0x40300094 + i * 4
abbrev Reg.FAB.ERR_POP : Nat := 0x403000A4
abbrev Reg.FAB.ERR_ACK : Nat := 0x403000A8
abbrev Reg.FAB.ERR_CE_CNT : Nat := 0x403000AC
abbrev Reg.FAB.ERR_OVF_CNT : Nat := 0x403000B0
abbrev Reg.FAB.ERR_ESC_CNT : Nat := 0x403000B4
-- CAN
abbrev Reg.CAN.CTRL (n : Nat) : Nat := 0x40310000 + n * 0x1000
abbrev Reg.CAN.NBT (n : Nat) : Nat := 0x40310004 + n * 0x1000
abbrev Reg.CAN.DBT (n : Nat) : Nat := 0x40310008 + n * 0x1000
abbrev Reg.CAN.XBT (n : Nat) : Nat := 0x4031000C + n * 0x1000
abbrev Reg.CAN.XL_CFG (n : Nat) : Nat := 0x40310010 + n * 0x1000
abbrev Reg.CAN.ATK_CFG (n : Nat) : Nat := 0x40310014 + n * 0x1000
abbrev Reg.CAN.STAT (n : Nat) : Nat := 0x40310018 + n * 0x1000
abbrev Reg.CAN.TS_MS (n : Nat) : Nat := 0x4031001C + n * 0x1000
abbrev Reg.CAN.FLT_SEL (n : Nat) : Nat := 0x40310020 + n * 0x1000
abbrev Reg.CAN.TX_CNT (n : Nat) : Nat := 0x40310100 + n * 0x1000
abbrev Reg.CAN.RX_CNT (n : Nat) : Nat := 0x40310104 + n * 0x1000
abbrev Reg.CAN.ERR_FRAME_CNT (n : Nat) : Nat := 0x40310108 + n * 0x1000
abbrev Reg.CAN.HP_LOST_CNT (n : Nat) : Nat := 0x4031010C + n * 0x1000
abbrev Reg.CAN.RX_OVR_CNT (n : Nat) : Nat := 0x40310110 + n * 0x1000
abbrev Reg.CAN.FLT_MISS_CNT (n : Nat) : Nat := 0x40310114 + n * 0x1000
abbrev Reg.CAN.ATK_SEG_DROP_CNT (n : Nat) : Nat := 0x40310118 + n * 0x1000
abbrev Reg.CAN.Q12_DROP (n : Nat) : Nat := 0x4031011C + n * 0x1000
abbrev Reg.CAN.TXQ_CTL (n : Nat) : Nat := 0x40310200 + n * 0x1000
abbrev Reg.CAN.RX_SEL (n : Nat) : Nat := 0x40310300 + n * 0x1000
abbrev Reg.CAN.RX_ID (n : Nat) : Nat := 0x40310304 + n * 0x1000
abbrev Reg.CAN.RX_CTL (n : Nat) : Nat := 0x40310308 + n * 0x1000
abbrev Reg.CAN.RX_TIME_LO (n : Nat) : Nat := 0x4031030C + n * 0x1000
abbrev Reg.CAN.RX_TIME_HI (n : Nat) : Nat := 0x40310310 + n * 0x1000
abbrev Reg.CAN.RX_DATA (n : Nat) : Nat := 0x40310314 + n * 0x1000
abbrev Reg.CAN.RX_ACK (n : Nat) : Nat := 0x40310318 + n * 0x1000
abbrev Reg.CAN.RX_FULL_MAP (n i : Nat) : Nat := 0x40310320 + n * 0x1000 + i * 4
abbrev Reg.CAN.HP_ID (n : Nat) : Nat := 0x40310400 + n * 0x1000
abbrev Reg.CAN.HP_CTL (n : Nat) : Nat := 0x40310404 + n * 0x1000
abbrev Reg.CAN.HP_DATA (n i : Nat) : Nat := 0x40310440 + n * 0x1000 + i * 4
abbrev Reg.CAN.FLT_CFG (n w : Nat) : Nat := bankKey (0x40310024 + n * 0x1000) w
abbrev Reg.CAN.FLT_ID (n w : Nat) : Nat := bankKey (0x40310028 + n * 0x1000) w
abbrev Reg.CAN.FLT_MASK (n w : Nat) : Nat := bankKey (0x4031002C + n * 0x1000) w
abbrev Reg.CAN.TX_ID (n w : Nat) : Nat := bankKey (0x40310204 + n * 0x1000) w
abbrev Reg.CAN.TX_CTL (n w : Nat) : Nat := bankKey (0x40310208 + n * 0x1000) w
abbrev Reg.CAN.TX_DATA (n w : Nat) : Nat := bankKey (0x4031020C + n * 0x1000) w
abbrev Reg.CAN.EVT_STAT (n : Nat) : Nat := 0x40310080 + n * 0x1000
abbrev Reg.CAN.EVT_EN (n : Nat) : Nat := 0x40310084 + n * 0x1000
abbrev Reg.CAN.ERR_STAT (n : Nat) : Nat := 0x40310090 + n * 0x1000
abbrev Reg.CAN.ERR_REC (n i : Nat) : Nat := 0x40310094 + n * 0x1000 + i * 4
abbrev Reg.CAN.ERR_POP (n : Nat) : Nat := 0x403100A4 + n * 0x1000
abbrev Reg.CAN.ERR_ACK (n : Nat) : Nat := 0x403100A8 + n * 0x1000
abbrev Reg.CAN.ERR_CE_CNT (n : Nat) : Nat := 0x403100AC + n * 0x1000
abbrev Reg.CAN.ERR_OVF_CNT (n : Nat) : Nat := 0x403100B0 + n * 0x1000
abbrev Reg.CAN.ERR_ESC_CNT (n : Nat) : Nat := 0x403100B4 + n * 0x1000
-- T1S
abbrev Reg.T1S.SEG_CFG (i : Nat) : Nat := 0x40320100 + i * 0x10
abbrev Reg.T1S.SEG_TMR (i : Nat) : Nat := 0x40320104 + i * 0x10
abbrev Reg.T1S.SEG_STAT (i : Nat) : Nat := 0x40320108 + i * 0x10
abbrev Reg.T1S.SEG_COL_CNT (i : Nat) : Nat := 0x4032010C + i * 0x10
abbrev Reg.T1S.EVT_STAT : Nat := 0x40320080
abbrev Reg.T1S.EVT_EN : Nat := 0x40320084
abbrev Reg.T1S.ERR_STAT : Nat := 0x40320090
abbrev Reg.T1S.ERR_REC (i : Nat) : Nat := 0x40320094 + i * 4
abbrev Reg.T1S.ERR_POP : Nat := 0x403200A4
abbrev Reg.T1S.ERR_ACK : Nat := 0x403200A8
abbrev Reg.T1S.ERR_CE_CNT : Nat := 0x403200AC
abbrev Reg.T1S.ERR_OVF_CNT : Nat := 0x403200B0
abbrev Reg.T1S.ERR_ESC_CNT : Nat := 0x403200B4
-- SPN
abbrev Reg.SPN.CTRL : Nat := 0x40330000
abbrev Reg.SPN.CFG : Nat := 0x40330004
abbrev Reg.SPN.MAC_CFG : Nat := 0x40330008
abbrev Reg.SPN.STAT : Nat := 0x4033000C
abbrev Reg.SPN.TS_MS : Nat := 0x40330010
abbrev Reg.SPN.TX_FRAME_CNT : Nat := 0x40330040
abbrev Reg.SPN.RX_FRAME_CNT : Nat := 0x40330044
abbrev Reg.SPN.FC_ERR_CNT : Nat := 0x40330048
abbrev Reg.SPN.PB_ERR_CNT : Nat := 0x4033004C
abbrev Reg.SPN.RETX_CNT : Nat := 0x40330050
abbrev Reg.SPN.ROBUST_CNT : Nat := 0x40330054
abbrev Reg.SPN.DROP_CNT : Nat := 0x40330058
abbrev Reg.SPN.TM_UPD_CNT : Nat := 0x4033005C
abbrev Reg.SPN.ROUTE_CHG_CNT : Nat := 0x40330060
abbrev Reg.SPN.LD_OVC_CNT : Nat := 0x40330064
abbrev Reg.SPN.Q13_DROP : Nat := 0x40330068
abbrev Reg.SPN.NBR_SEL : Nat := 0x40330100
abbrev Reg.SPN.NBR_WIN (i : Nat) : Nat := 0x40330104 + i * 4
abbrev Reg.SPN.RT_SEL : Nat := 0x40330140
abbrev Reg.SPN.RT_WIN (i : Nat) : Nat := 0x40330144 + i * 4
abbrev Reg.SPN.MASK (i : Nat) : Nat := 0x40330200 + i * 4
abbrev Reg.SPN.EVT_STAT : Nat := 0x40330080
abbrev Reg.SPN.EVT_EN : Nat := 0x40330084
abbrev Reg.SPN.ERR_STAT : Nat := 0x40330090
abbrev Reg.SPN.ERR_REC (i : Nat) : Nat := 0x40330094 + i * 4
abbrev Reg.SPN.ERR_POP : Nat := 0x403300A4
abbrev Reg.SPN.ERR_ACK : Nat := 0x403300A8
abbrev Reg.SPN.ERR_CE_CNT : Nat := 0x403300AC
abbrev Reg.SPN.ERR_OVF_CNT : Nat := 0x403300B0
abbrev Reg.SPN.ERR_ESC_CNT : Nat := 0x403300B4
-- HOST
abbrev Reg.HOST.PCIE_STAT : Nat := 0x40340000
abbrev Reg.HOST.RING_BASE_LO : Nat := 0x40340010
abbrev Reg.HOST.RING_BASE_HI : Nat := 0x40340014
abbrev Reg.HOST.RING_SIZE : Nat := 0x40340018
abbrev Reg.HOST.RING_WR : Nat := 0x4034001C
abbrev Reg.HOST.OUT_LO : Nat := 0x40340020
abbrev Reg.HOST.OUT_HI : Nat := 0x40340024
abbrev Reg.HOST.OUT_STAT : Nat := 0x40340028
abbrev Reg.HOST.MGMT_CTL : Nat := 0x40340040
abbrev Reg.HOST.MGMT_MAC_LO : Nat := 0x40340044
abbrev Reg.HOST.MGMT_MAC_HI : Nat := 0x40340048
abbrev Reg.HOST.EVT_STAT : Nat := 0x40340080
abbrev Reg.HOST.EVT_EN : Nat := 0x40340084
abbrev Reg.HOST.ERR_STAT : Nat := 0x40340090
abbrev Reg.HOST.ERR_REC (i : Nat) : Nat := 0x40340094 + i * 4
abbrev Reg.HOST.ERR_POP : Nat := 0x403400A4
abbrev Reg.HOST.ERR_ACK : Nat := 0x403400A8
abbrev Reg.HOST.ERR_CE_CNT : Nat := 0x403400AC
abbrev Reg.HOST.ERR_OVF_CNT : Nat := 0x403400B0
abbrev Reg.HOST.ERR_ESC_CNT : Nat := 0x403400B4
-- MTR
abbrev Reg.MTR.STAT : Nat := 0x40400000
abbrev Reg.MTR.CHECK_HI : Nat := 0x40400004
abbrev Reg.MTR.CHECK_LO : Nat := 0x40400008
abbrev Reg.MTR.LEGAL_TIME_LO : Nat := 0x40400010
abbrev Reg.MTR.LEGAL_TIME_HI : Nat := 0x40400014
abbrev Reg.MTR.CLK_STAT : Nat := 0x40400018
abbrev Reg.MTR.D_OFS : Nat := 0x4040001C
abbrev Reg.MTR.ADJ_MS : Nat := 0x40400020
abbrev Reg.MTR.IV : Nat := 0x40400024
abbrev Reg.MTR.SEAL : Nat := 0x40400028
abbrev Reg.MTR.CAL_ACTIVE : Nat := 0x4040002C
abbrev Reg.MTR.CAL_PENDING : Nat := 0x40400030
abbrev Reg.MTR.CAL_ACT_LO : Nat := 0x40400034
abbrev Reg.MTR.CAL_ACT_HI : Nat := 0x40400038
abbrev Reg.MTR.ARCH_STAT : Nat := 0x4040003C
abbrev Reg.MTR.TOK_STAT : Nat := 0x40400040
abbrev Reg.MTR.TOK_FILL : Nat := 0x40400044
abbrev Reg.MTR.LEDGER_SEQ_LO : Nat := 0x40400048
abbrev Reg.MTR.LEDGER_SEQ_HI : Nat := 0x4040004C
abbrev Reg.MTR.Q8_DROP : Nat := 0x40400050
abbrev Reg.MTR.MBX_CMD : Nat := 0x40400100
abbrev Reg.MTR.MBX_ARG (i : Nat) : Nat := 0x40400104 + i * 4
abbrev Reg.MTR.MBX_STAT : Nat := 0x40400114
abbrev Reg.MTR.MBX_RET : Nat := 0x40400118
abbrev Reg.MTR.CH_SEL : Nat := 0x40400200
abbrev Reg.MTR.MBX_DATA (i : Nat) : Nat := 0x40401000 + i * 4
abbrev Reg.MTR.CAL_V_GAIN (i : Nat) : Nat := 0x40400600 + i * 0x20
abbrev Reg.MTR.CAL_I_GAIN (i : Nat) : Nat := 0x40400604 + i * 0x20
abbrev Reg.MTR.CAL_V_OFS (i : Nat) : Nat := 0x40400608 + i * 0x20
abbrev Reg.MTR.CAL_I_OFS (i : Nat) : Nat := 0x4040060C + i * 0x20
abbrev Reg.MTR.CAL_PH_CORR (i : Nat) : Nat := 0x40400610 + i * 0x20
abbrev Reg.MTR.CAL_STAMP (i : Nat) : Nat := 0x40400614 + i * 0x20
abbrev Reg.MTR.CSTAT (w : Nat) : Nat := bankKey (0x40400400) w
abbrev Reg.MTR.LAST_SEQ (w : Nat) : Nat := bankKey (0x40400404) w
abbrev Reg.MTR.LAST_MEAS_LO (w : Nat) : Nat := bankKey (0x40400408) w
abbrev Reg.MTR.LAST_MEAS_HI (w : Nat) : Nat := bankKey (0x4040040C) w
abbrev Reg.MTR.TOT_IMP_LO (w : Nat) : Nat := bankKey (0x40400410) w
abbrev Reg.MTR.TOT_IMP_HI (w : Nat) : Nat := bankKey (0x40400414) w
abbrev Reg.MTR.TOT_EXP_LO (w : Nat) : Nat := bankKey (0x40400418) w
abbrev Reg.MTR.TOT_EXP_HI (w : Nat) : Nat := bankKey (0x4040041C) w
abbrev Reg.MTR.HEAD_IMP_LO (w : Nat) : Nat := bankKey (0x40400420) w
abbrev Reg.MTR.HEAD_IMP_HI (w : Nat) : Nat := bankKey (0x40400424) w
abbrev Reg.MTR.HEAD_EXP_LO (w : Nat) : Nat := bankKey (0x40400428) w
abbrev Reg.MTR.HEAD_EXP_HI (w : Nat) : Nat := bankKey (0x4040042C) w
abbrev Reg.MTR.CREDIT_LO (w : Nat) : Nat := bankKey (0x40400430) w
abbrev Reg.MTR.CREDIT_HI (w : Nat) : Nat := bankKey (0x40400434) w
abbrev Reg.MTR.TXN_START_L_LO (w : Nat) : Nat := bankKey (0x40400438) w
abbrev Reg.MTR.TXN_START_L_HI (w : Nat) : Nat := bankKey (0x4040043C) w
abbrev Reg.MTR.DEM_MAX_IMP (w : Nat) : Nat := bankKey (0x40400440) w
abbrev Reg.MTR.DEM_MAX_EXP (w : Nat) : Nat := bankKey (0x40400444) w
abbrev Reg.MTR.DEM_MAX_IV (w : Nat) : Nat := bankKey (0x40400448) w
abbrev Reg.MTR.CTR_ID (w : Nat) : Nat := bankKey (0x4040044C) w
abbrev Reg.MTR.TAR_IMP (i w : Nat) : Nat := bankKey (0x40400480 + i * 4) w
abbrev Reg.MTR.TAR_EXP (i w : Nat) : Nat := bankKey (0x40400500 + i * 4) w
abbrev Reg.MTR.EVT_STAT : Nat := 0x40400080
abbrev Reg.MTR.EVT_EN : Nat := 0x40400084
abbrev Reg.MTR.ERR_STAT : Nat := 0x40400090
abbrev Reg.MTR.ERR_REC (i : Nat) : Nat := 0x40400094 + i * 4
abbrev Reg.MTR.ERR_POP : Nat := 0x404000A4
abbrev Reg.MTR.ERR_ACK : Nat := 0x404000A8
abbrev Reg.MTR.ERR_CE_CNT : Nat := 0x404000AC
abbrev Reg.MTR.ERR_OVF_CNT : Nat := 0x404000B0
abbrev Reg.MTR.ERR_ESC_CNT : Nat := 0x404000B4
-- HLM
abbrev Reg.HLM.STAT : Nat := 0x40500000
abbrev Reg.HLM.TMP_STAT : Nat := 0x40500010
abbrev Reg.HLM.TMP_CFG : Nat := 0x40500014
abbrev Reg.HLM.SVN : Nat := 0x40500020
abbrev Reg.HLM.OWNER : Nat := 0x40500024
abbrev Reg.HLM.KU_CTR_LO : Nat := 0x40500028
abbrev Reg.HLM.KU_CTR_HI : Nat := 0x4050002C
abbrev Reg.HLM.KU_LAST : Nat := 0x40500030
abbrev Reg.HLM.LINK_CNT : Nat := 0x40500034
abbrev Reg.HLM.KU_REJ_CNT : Nat := 0x40500038
abbrev Reg.HLM.SRAM_STALL_CNT : Nat := 0x4050003C
abbrev Reg.HLM.DEV_HASH (i : Nat) : Nat := 0x40500040 + i * 4
abbrev Reg.HLM.MEAS (i : Nat) : Nat := 0x40500100 + i * 4
abbrev Reg.HLM.SLOT_STAT (i : Nat) : Nat := 0x40500200 + i * 4
abbrev Reg.HLM.MBX_CMD : Nat := 0x40500400
abbrev Reg.HLM.MBX_ARG (i : Nat) : Nat := 0x40500404 + i * 4
abbrev Reg.HLM.MBX_STAT : Nat := 0x40500414
abbrev Reg.HLM.MBX_RET : Nat := 0x40500418
abbrev Reg.HLM.MBX_DATA (i : Nat) : Nat := 0x40501000 + i * 4
abbrev Reg.HLM.EVT_STAT : Nat := 0x40500080
abbrev Reg.HLM.EVT_EN : Nat := 0x40500084
abbrev Reg.HLM.ERR_STAT : Nat := 0x40500090
abbrev Reg.HLM.ERR_REC (i : Nat) : Nat := 0x40500094 + i * 4
abbrev Reg.HLM.ERR_POP : Nat := 0x405000A4
abbrev Reg.HLM.ERR_ACK : Nat := 0x405000A8
abbrev Reg.HLM.ERR_CE_CNT : Nat := 0x405000AC
abbrev Reg.HLM.ERR_OVF_CNT : Nat := 0x405000B0
abbrev Reg.HLM.ERR_ESC_CNT : Nat := 0x405000B4
-- GNT
abbrev Reg.GNT.STAT : Nat := 0x40600000
abbrev Reg.GNT.IN_LEVEL : Nat := 0x40600010
abbrev Reg.GNT.IN_DEMAND : Nat := 0x40600014
abbrev Reg.GNT.IN_FAULT : Nat := 0x40600018
abbrev Reg.GNT.ACK_STAT : Nat := 0x40600020
abbrev Reg.GNT.ACK_MASK : Nat := 0x40600024
abbrev Reg.GNT.ACK_CMD : Nat := 0x40600028
abbrev Reg.GNT.ACK_REFUSE (i : Nat) : Nat := 0x40600030 + i * 4
abbrev Reg.GNT.TP_CFG : Nat := 0x40600040
abbrev Reg.GNT.SF_CFG0 : Nat := 0x40600044
abbrev Reg.GNT.SF_CFG1 : Nat := 0x40600048
abbrev Reg.GNT.SF_CFG2 : Nat := 0x4060004C
abbrev Reg.GNT.SF_CFG3 : Nat := 0x40600050
abbrev Reg.GNT.TRIP_CNT : Nat := 0x40600060
abbrev Reg.GNT.TP_FAIL_CNT : Nat := 0x40600064
abbrev Reg.GNT.ACK_CNT : Nat := 0x40600068
abbrev Reg.GNT.Q9_DROP : Nat := 0x4060006C
abbrev Reg.GNT.IN_CFG (i : Nat) : Nat := 0x40600100 + i * 4
abbrev Reg.GNT.IN_MASK (i : Nat) : Nat := 0x40600180 + i * 4
abbrev Reg.GNT.OUT_CFG (i : Nat) : Nat := 0x40600200 + i * 4
abbrev Reg.GNT.OUT_STAT (i : Nat) : Nat := 0x40600280 + i * 4
abbrev Reg.GNT.ENV0 (i : Nat) : Nat := 0x40600300 + i * 8
abbrev Reg.GNT.ENV1 (i : Nat) : Nat := 0x40600304 + i * 8
abbrev Reg.GNT.DISP_CFG (i : Nat) : Nat := 0x40600400 + i * 4
abbrev Reg.GNT.DISP_STAT (i : Nat) : Nat := 0x40600800 + i * 4
abbrev Reg.GNT.EVT_STAT : Nat := 0x40600080
abbrev Reg.GNT.EVT_EN : Nat := 0x40600084
abbrev Reg.GNT.ERR_STAT : Nat := 0x40600090
abbrev Reg.GNT.ERR_REC (i : Nat) : Nat := 0x40600094 + i * 4
abbrev Reg.GNT.ERR_POP : Nat := 0x406000A4
abbrev Reg.GNT.ERR_ACK : Nat := 0x406000A8
abbrev Reg.GNT.ERR_CE_CNT : Nat := 0x406000AC
abbrev Reg.GNT.ERR_OVF_CNT : Nat := 0x406000B0
abbrev Reg.GNT.ERR_ESC_CNT : Nat := 0x406000B4
-- MIR
abbrev Reg.MIR.CTRL : Nat := 0x40700000
abbrev Reg.MIR.CFG : Nat := 0x40700004
abbrev Reg.MIR.STAT : Nat := 0x40700008
abbrev Reg.MIR.TIME_OFS : Nat := 0x4070000C
abbrev Reg.MIR.LAST_TICK : Nat := 0x40700010
abbrev Reg.MIR.TAG_FAIL_CNT : Nat := 0x40700020
abbrev Reg.MIR.GAP_CNT : Nat := 0x40700024
abbrev Reg.MIR.IMAGE_CNT : Nat := 0x40700028
abbrev Reg.MIR.Q14_DROP : Nat := 0x4070002C
abbrev Reg.MIR.EVT_STAT : Nat := 0x40700080
abbrev Reg.MIR.EVT_EN : Nat := 0x40700084
abbrev Reg.MIR.ERR_STAT : Nat := 0x40700090
abbrev Reg.MIR.ERR_REC (i : Nat) : Nat := 0x40700094 + i * 4
abbrev Reg.MIR.ERR_POP : Nat := 0x407000A4
abbrev Reg.MIR.ERR_ACK : Nat := 0x407000A8
abbrev Reg.MIR.ERR_CE_CNT : Nat := 0x407000AC
abbrev Reg.MIR.ERR_OVF_CNT : Nat := 0x407000B0
abbrev Reg.MIR.ERR_ESC_CNT : Nat := 0x407000B4
-- LSW
abbrev Reg.LSW.CTRL : Nat := 0x40800000
abbrev Reg.LSW.HOLD : Nat := 0x40800004
abbrev Reg.LSW.STAT : Nat := 0x40800008
abbrev Reg.LSW.LATCH_MAP : Nat := 0x4080000C
abbrev Reg.LSW.CH_CFG (i : Nat) : Nat := 0x40800100 + i * 0x40
abbrev Reg.LSW.CH_LIM2 (i : Nat) : Nat := 0x40800104 + i * 0x40
abbrev Reg.LSW.CH_PWM (i : Nat) : Nat := 0x40800108 + i * 0x40
abbrev Reg.LSW.CH_DUTY (i : Nat) : Nat := 0x4080010C + i * 0x40
abbrev Reg.LSW.CH_DEF (i : Nat) : Nat := 0x40800110 + i * 0x40
abbrev Reg.LSW.CH_STAT (i : Nat) : Nat := 0x40800114 + i * 0x40
abbrev Reg.LSW.CH_MEAS_I (i : Nat) : Nat := 0x40800118 + i * 0x40
abbrev Reg.LSW.CH_MEAS_VT (i : Nat) : Nat := 0x4080011C + i * 0x40
abbrev Reg.LSW.CH_TRIP_CNT (i : Nat) : Nat := 0x40800120 + i * 0x40
abbrev Reg.LSW.EVT_STAT : Nat := 0x40800080
abbrev Reg.LSW.EVT_EN : Nat := 0x40800084
abbrev Reg.LSW.ERR_STAT : Nat := 0x40800090
abbrev Reg.LSW.ERR_REC (i : Nat) : Nat := 0x40800094 + i * 4
abbrev Reg.LSW.ERR_POP : Nat := 0x408000A4
abbrev Reg.LSW.ERR_ACK : Nat := 0x408000A8
abbrev Reg.LSW.ERR_CE_CNT : Nat := 0x408000AC
abbrev Reg.LSW.ERR_OVF_CNT : Nat := 0x408000B0
abbrev Reg.LSW.ERR_ESC_CNT : Nat := 0x408000B4
-- COT
abbrev Reg.COT.CORE_LAST : Nat := 0x40810010
abbrev Reg.COT.AUX_CTL : Nat := 0x40810100
abbrev Reg.COT.AUX_VSET : Nat := 0x40810104
abbrev Reg.COT.AUX_RATE : Nat := 0x40810108
abbrev Reg.COT.AUX_CFG : Nat := 0x4081010C
abbrev Reg.COT.AUX_LIM : Nat := 0x40810110
abbrev Reg.COT.AUX_STAT : Nat := 0x40810114
abbrev Reg.COT.AUX_PH_CAUSE : Nat := 0x40810118
abbrev Reg.COT.AUX_VREF : Nat := 0x4081011C
abbrev Reg.COT.AUX_V_AVG : Nat := 0x40810120
abbrev Reg.COT.AUX_V_PK : Nat := 0x40810124
abbrev Reg.COT.AUX_I_AVG : Nat := 0x40810128
abbrev Reg.COT.AUX_I_PK : Nat := 0x4081012C
abbrev Reg.COT.AUX_P_AVG : Nat := 0x40810130
abbrev Reg.COT.AUX_P_PK : Nat := 0x40810134
abbrev Reg.COT.AUX_T_AVG : Nat := 0x40810138
abbrev Reg.COT.AUX_T_PK : Nat := 0x4081013C
abbrev Reg.COT.AUX_VIN_AVG : Nat := 0x40810140
abbrev Reg.COT.AUX_PH_I (i : Nat) : Nat := 0x40810144 + i * 4
abbrev Reg.COT.CORE_CTL : Nat := 0x40810180
abbrev Reg.COT.CORE_VSET : Nat := 0x40810184
abbrev Reg.COT.CORE_RATE : Nat := 0x40810188
abbrev Reg.COT.CORE_CFG : Nat := 0x4081018C
abbrev Reg.COT.CORE_LIM : Nat := 0x40810190
abbrev Reg.COT.CORE_STAT : Nat := 0x40810194
abbrev Reg.COT.CORE_PH_CAUSE : Nat := 0x40810198
abbrev Reg.COT.CORE_VREF : Nat := 0x4081019C
abbrev Reg.COT.CORE_V_AVG : Nat := 0x408101A0
abbrev Reg.COT.CORE_V_PK : Nat := 0x408101A4
abbrev Reg.COT.CORE_I_AVG : Nat := 0x408101A8
abbrev Reg.COT.CORE_I_PK : Nat := 0x408101AC
abbrev Reg.COT.CORE_P_AVG : Nat := 0x408101B0
abbrev Reg.COT.CORE_P_PK : Nat := 0x408101B4
abbrev Reg.COT.CORE_T_AVG : Nat := 0x408101B8
abbrev Reg.COT.CORE_T_PK : Nat := 0x408101BC
abbrev Reg.COT.CORE_VIN_AVG : Nat := 0x408101C0
abbrev Reg.COT.CORE_PH_I (i : Nat) : Nat := 0x408101C4 + i * 4
abbrev Reg.COT.EVT_STAT : Nat := 0x40810080
abbrev Reg.COT.EVT_EN : Nat := 0x40810084
abbrev Reg.COT.ERR_STAT : Nat := 0x40810090
abbrev Reg.COT.ERR_REC (i : Nat) : Nat := 0x40810094 + i * 4
abbrev Reg.COT.ERR_POP : Nat := 0x408100A4
abbrev Reg.COT.ERR_ACK : Nat := 0x408100A8
abbrev Reg.COT.ERR_CE_CNT : Nat := 0x408100AC
abbrev Reg.COT.ERR_OVF_CNT : Nat := 0x408100B0
abbrev Reg.COT.ERR_ESC_CNT : Nat := 0x408100B4
-- AON
abbrev Reg.AON.RTC_LO : Nat := 0x40F00000
abbrev Reg.AON.RTC_HI : Nat := 0x40F00004
abbrev Reg.AON.BOOT_SEQ : Nat := 0x40F00008
abbrev Reg.AON.BOOT_TRY : Nat := 0x40F0000C
abbrev Reg.AON.BOOT_BAD (i : Nat) : Nat := 0x40F00010 + i * 4
abbrev Reg.AON.QUIET : Nat := 0x40F00020
abbrev Reg.AON.WAKE_LO : Nat := 0x40F00024
abbrev Reg.AON.WAKE_HI : Nat := 0x40F00028
abbrev Reg.AON.WAKE_SRC : Nat := 0x40F0002C
abbrev Reg.AON.EVT_STAT : Nat := 0x40F00080
abbrev Reg.AON.EVT_EN : Nat := 0x40F00084
abbrev Reg.AON.ERR_STAT : Nat := 0x40F00090
abbrev Reg.AON.ERR_REC (i : Nat) : Nat := 0x40F00094 + i * 4
abbrev Reg.AON.ERR_POP : Nat := 0x40F000A4
abbrev Reg.AON.ERR_ACK : Nat := 0x40F000A8
abbrev Reg.AON.ERR_CE_CNT : Nat := 0x40F000AC
abbrev Reg.AON.ERR_OVF_CNT : Nat := 0x40F000B0
abbrev Reg.AON.ERR_ESC_CNT : Nat := 0x40F000B4
end Sys2Proof.Machine
end

