-- ==== Sys2Proof/Machine/RegTypes.lean ====
section
/-! DEFINITION. Sys2Proof/Machine/RegTypes.lean: how a register is described: field types (R6), reset domains,
write conditions (R12), issued encodings (R11), and the blocks of R673. -/
namespace Sys2Proof.Machine

/-- The field types of R6. -/
inductive FTy where
  | rw | ro | w1c | w1s | wo | rc | sw
  deriving DecidableEq, Repr

/-- The reset domains of chapter 00. -/
inductive Dom where
  | po | wr | ao | lc
  deriving DecidableEq, Repr

/-- The conditions that the chapters put on a write. `free`: none. -/
inductive Guard where
  | free
  /-- the CTLE slot has EN = 0 -/
  | slotOff
  /-- the CTLE generator has EN = 0 -/
  | genOff
  /-- the coolant circuit has EN = 0 -/
  | circOff
  /-- the dispenser's session is in IDLE -/
  | sessIdle
  /-- the CAN controller has EN = 0 -/
  | canOff
  /-- the transmit entry is not ready -/
  | txFree
  /-- SPN.CTRL.EN is 0 -/
  | spnOff
  /-- the Sepia mailbox is not BUSY -/
  | mtrMbx
  /-- the Helmet mailbox is not BUSY -/
  | hlmMbx
  /-- the SAFETY registers are not sealed, R502 -/
  | sealed
  /-- the calibration condition of R410 -/
  | cal
  /-- the load-switch channel is OFF -/
  | lswOff
  /-- the regulator has EN = 0 -/
  | cotOff
  deriving DecidableEq, Repr

/-- One field of a register: bits hi to lo, type, name, reset value, issued encodings as closed ranges (empty:
every encoding is issued), and the condition on a write. -/
structure Fld where
  hi : Nat
  lo : Nat
  ty : FTy
  name : String
  reset : Nat
  legal : List (Nat × Nat)
  guard : Guard
  deriving DecidableEq, Repr

/-- A window: the offset of its selection register, the field of that register that selects, and the number of
things that can be selected. -/
structure Win where
  sel : Nat
  hi : Nat
  lo : Nat
  count : Nat
  deriving DecidableEq, Repr

/-- One line of a register table. `pair`: 1 the low half of a 64-bit pair, 2 the high half, 3 a run of such pairs,
low halves at even places (R13, R14); 0 otherwise. Assumption log: 13 (DESIGN CHOICE). -/
structure RegDesc where
  name : String
  off : Nat
  count : Nat
  stride : Nat
  dom : Dom
  win : Option Win
  pair : Nat
  fields : List Fld
  deriving DecidableEq, Repr

/-- The blocks of R673. -/
inductive Block where
  | sys | cfg | que | spm | drc | alloc | lease | ctle | thrm | pnt | sess | xcr | fab | can | t1s | spn | host
  | mtr | hlm | gnt | mir | lsw | cot | aon
  deriving DecidableEq, Repr

/-- The registers every block has: EVT_STAT and EVT_EN with `n` event bits, and the ERR_LOG window of chapter 14. -/
def commonRegs (n : Nat) (d : Dom) : List RegDesc := [
  ⟨"EVT_STAT", 0x80, 1, 4, d, none, 0, [⟨n - 1, 0, .w1c, "EVT", 0, [], .free⟩]⟩,
  ⟨"EVT_EN", 0x84, 1, 4, d, none, 0, [⟨n - 1, 0, .rw, "EN", 0, [], .free⟩]⟩,
  ⟨"ERR_STAT", 0x90, 1, 4, d, none, 0, [⟨31, 31, .w1c, "SECOND", 0, [], .free⟩, ⟨30, 30, .w1c, "OVF", 0, [], .free⟩,
    ⟨23, 16, .ro, "OPEN", 0, [], .free⟩, ⟨3, 0, .ro, "COUNT", 0, [], .free⟩]⟩,
  ⟨"ERR_REC", 0x94, 4, 4, d, none, 0, [⟨31, 0, .ro, "VALUE", 0, [], .free⟩]⟩,
  ⟨"ERR_POP", 0xA4, 1, 4, d, none, 0, [⟨0, 0, .wo, "POP", 0, [], .free⟩]⟩,
  ⟨"ERR_ACK", 0xA8, 1, 4, d, none, 0, [⟨7, 0, .wo, "CLS", 0, [], .free⟩]⟩,
  ⟨"ERR_CNT", 0xAC, 3, 4, d, none, 0, [⟨31, 0, .rc, "VALUE", 0, [], .free⟩]⟩]

end Sys2Proof.Machine
end

