-- ==== Sys2Proof/Machine/RegMap.lean ====
section
/-! DEFINITION. Sys2Proof/Machine/RegMap.lean: the register map of the spec, block by block, as the register
tables of chapters 00 to 16 give it: offset, count, stride, reset domain, fields with type, reset value and
issued encodings. Reserved bits (R7) belong to no field. EVT_STAT, EVT_EN and the ERR_LOG window, which every
block has, come from `commonRegs` (R591 to R595). -/
namespace Sys2Proof.Machine

def regsSYS : List RegDesc := [
  ⟨"CHIP_ID", 0x0, 1, 4, .po, none, 0,
    [⟨31, 16, .ro, "PART", 0x7256, [], .free⟩, ⟨15, 12, .ro, "STEP_LETTER", 1, [], .free⟩, ⟨11, 8, .ro, "STEP_NUM", 0, [], .free⟩, ⟨7, 4, .ro, "GRADE", 0, [], .free⟩, ⟨3, 0, .ro, "ROM_VER", 2, [], .free⟩]⟩,
  ⟨"SITE_TIME_LO", 0x8, 1, 4, .wr, none, 1,
    [⟨31, 0, .ro, "VALUE", 0, [], .free⟩]⟩,
  ⟨"SITE_TIME_HI", 0xC, 1, 4, .wr, none, 2,
    [⟨31, 0, .ro, "VALUE", 0, [], .free⟩]⟩,
  ⟨"RST_CAUSE", 0x10, 1, 4, .ao, none, 0,
    [⟨9, 0, .w1c, "CAUSE", 1, [], .free⟩]⟩,
  ⟨"RST_CTL", 0x14, 1, 4, .wr, none, 0,
    [⟨31, 0, .wo, "VALUE", 0, [], .free⟩]⟩,
  ⟨"WDT_CTL", 0x18, 1, 4, .wr, none, 0,
    [⟨31, 31, .w1s, "EN", 0, [], .free⟩, ⟨15, 0, .rw, "TIMEOUT_MS", 0x3E8, [(0xA, 0x2710)], .free⟩]⟩,
  ⟨"WDT_KICK", 0x1C, 1, 4, .wr, none, 0,
    [⟨31, 0, .wo, "VALUE", 0, [], .free⟩]⟩,
  ⟨"CLK_STAT", 0x20, 1, 4, .wr, none, 0,
    [⟨4, 4, .ro, "RTC_OK", 0, [], .free⟩, ⟨3, 3, .ro, "REF_OK", 0, [], .free⟩, ⟨2, 2, .ro, "SERDES_LOCK", 0, [], .free⟩, ⟨1, 1, .ro, "DDR_LOCK", 0, [], .free⟩, ⟨0, 0, .ro, "PLL_LOCK", 0, [], .free⟩]⟩,
  ⟨"PD_STAT", 0x24, 1, 4, .wr, none, 0,
    [⟨9, 0, .ro, "PD_ON", 0x3FF, [], .free⟩]⟩,
  ⟨"BOOT_STAT", 0x28, 1, 4, .wr, none, 0,
    [⟨31, 28, .ro, "PHASE", 0, [], .free⟩, ⟨21, 16, .ro, "IMG_BASE", 0, [], .free⟩]⟩,
  ⟨"TICK_STAT", 0x100, 1, 4, .wr, none, 0,
    [⟨29, 29, .ro, "RENEW_SUSP", 0, [], .free⟩, ⟨26, 24, .ro, "STEP", 0, [], .free⟩, ⟨23, 16, .ro, "ABANDON_RUN", 0, [], .free⟩, ⟨15, 0, .ro, "LAST_CYCLES", 0, [], .free⟩]⟩,
  ⟨"TICK_ABANDON_CNT", 0x104, 1, 4, .wr, none, 0,
    [⟨31, 0, .rc, "VALUE", 0, [], .free⟩]⟩,
  ⟨"TICK_MAX_CYCLES", 0x108, 1, 4, .wr, none, 0,
    [⟨15, 0, .rc, "MAX", 0, [], .free⟩]⟩]

/-- Chapter 16: the registers of SYS. -/
def descsSYS : List RegDesc := regsSYS ++ commonRegs 6 .wr

def regsCFG : List RegDesc := [
  ⟨"IMG_SEQ", 0x0, 1, 4, .wr, none, 0,
    [⟨31, 0, .ro, "VALUE", 0, [], .free⟩]⟩,
  ⟨"REJ", 0x4, 1, 4, .ao, none, 0,
    [⟨31, 24, .ro, "CODE", 0, [], .free⟩, ⟨15, 0, .ro, "TAG", 0, [], .free⟩]⟩,
  ⟨"REJ_OFS", 0x8, 1, 4, .ao, none, 0,
    [⟨31, 0, .ro, "VALUE", 0, [], .free⟩]⟩,
  ⟨"APP_BASE", 0xC, 1, 4, .wr, none, 0,
    [⟨31, 0, .ro, "VALUE", 0, [], .free⟩]⟩,
  ⟨"APP_NUM", 0x10, 1, 4, .wr, none, 0,
    [⟨5, 0, .ro, "NUM", 0, [], .free⟩]⟩,
  ⟨"FL_ADDR", 0x20, 1, 4, .wr, none, 0,
    [⟨25, 0, .rw, "ADDR", 0, [], .free⟩]⟩,
  ⟨"FL_CMD", 0x24, 1, 4, .wr, none, 0,
    [⟨7, 0, .wo, "OP", 0, [(1, 4)], .free⟩]⟩,
  ⟨"FL_STAT", 0x28, 1, 4, .wr, none, 0,
    [⟨31, 31, .ro, "BUSY", 0, [], .free⟩, ⟨30, 30, .ro, "ERR", 0, [], .free⟩]⟩,
  ⟨"FL_DATA", 0x100, 64, 4, .wr, none, 0,
    [⟨31, 0, .rw, "VALUE", 0, [], .free⟩]⟩]

/-- Chapter 16: the registers of CFG. -/
def descsCFG : List RegDesc := regsCFG ++ commonRegs 1 .wr

def regsQUE : List RegDesc := [
  ⟨"Q15_OUT_RD", 0x500, 1, 4, .wr, none, 0,
    [⟨15, 0, .rw, "RD", 0, [], .free⟩]⟩,
  ⟨"Q_FILL_LO", 0x100, 16, 0x40, .wr, none, 1,
    [⟨31, 0, .wo, "VALUE", 0, [], .free⟩]⟩,
  ⟨"Q_FILL_HI", 0x104, 16, 0x40, .wr, none, 2,
    [⟨31, 0, .wo, "VALUE", 0, [], .free⟩]⟩,
  ⟨"Q_FREE", 0x108, 16, 0x40, .wr, none, 0,
    [⟨11, 0, .ro, "FREE", 0x800, [], .free⟩]⟩,
  ⟨"Q_RSV", 0x10C, 16, 0x40, .wr, none, 0,
    [⟨31, 31, .rc, "OK", 0, [], .free⟩, ⟨10, 0, .rc, "SLOT", 0, [], .free⟩]⟩,
  ⟨"Q_LEN", 0x110, 16, 0x40, .wr, none, 0,
    [⟨26, 16, .wo, "SLOT", 0, [], .free⟩, ⟨10, 0, .wo, "LEN", 0, [], .free⟩]⟩,
  ⟨"Q_DRAIN_LO", 0x114, 16, 0x40, .wr, none, 1,
    [⟨31, 0, .rc, "VALUE", 0, [], .free⟩]⟩,
  ⟨"Q_DRAIN_HI", 0x118, 16, 0x40, .wr, none, 2,
    [⟨31, 0, .ro, "VALUE", 0, [], .free⟩]⟩,
  ⟨"Q_STAT", 0x11C, 16, 0x40, .wr, none, 0,
    [⟨31, 31, .ro, "FULL", 0, [], .free⟩, ⟨30, 30, .ro, "EMPTY", 1, [], .free⟩, ⟨29, 29, .ro, "OPEN", 0, [], .free⟩, ⟨28, 28, .ro, "MARK_VALID", 0, [], .free⟩, ⟨27, 27, .ro, "DISCARD", 0, [], .free⟩, ⟨26, 26, .ro, "FILL_BANK", 0, [], .free⟩, ⟨23, 12, .ro, "DRAIN_WORDS", 0, [], .free⟩, ⟨11, 0, .ro, "FILL_WORDS", 0, [], .free⟩]⟩,
  ⟨"Q_CTL", 0x120, 16, 0x40, .wr, none, 0,
    [⟨3, 3, .wo, "REWIND", 0, [], .free⟩, ⟨2, 2, .wo, "MARK", 0, [], .free⟩, ⟨1, 1, .wo, "FLUSH", 0, [], .free⟩]⟩,
  ⟨"Q_FLAGS", 0x124, 16, 0x40, .wr, none, 0,
    [⟨3, 0, .w1c, "FLAGS", 0, [], .free⟩]⟩,
  ⟨"Q_CFG", 0x128, 16, 0x40, .wr, none, 0,
    [⟨15, 0, .rw, "OPEN_MAX_US", 0x3E8, [(0xA, 0x2710)], .free⟩]⟩,
  ⟨"Q_OVR_CNT", 0x12C, 16, 0x40, .wr, none, 0,
    [⟨31, 0, .rc, "VALUE", 0, [], .free⟩]⟩,
  ⟨"Q_POISON_CNT", 0x130, 16, 0x40, .wr, none, 0,
    [⟨31, 0, .rc, "VALUE", 0, [], .free⟩]⟩]

/-- Chapter 14: the registers of QUE. -/
def descsQUE : List RegDesc := regsQUE ++ commonRegs 32 .wr

def regsSPM : List RegDesc := [
  ⟨"MIT_CFG", 0x0, 1, 4, .wr, none, 0,
    [⟨31, 31, .rw, "EN", 1, [], .free⟩, ⟨23, 16, .rw, "BUDGET_PCT", 0x19, [(1, 0x64)], .free⟩, ⟨15, 0, .rw, "GAP_US", 0x64, [(0xA, 0xFFFF)], .free⟩]⟩,
  ⟨"MIT_STAT", 0x4, 1, 4, .wr, none, 0,
    [⟨15, 0, .ro, "REGION", 0, [], .free⟩]⟩,
  ⟨"MIT_PASS_CNT", 0x8, 1, 4, .wr, none, 0,
    [⟨31, 0, .ro, "VALUE", 0, [], .free⟩]⟩,
  ⟨"CONFLICT_ADDR", 0xC, 1, 4, .wr, none, 0,
    [⟨23, 3, .ro, "WORD", 0, [], .free⟩]⟩,
  ⟨"CONFLICT_CNT", 0x10, 1, 4, .wr, none, 0,
    [⟨31, 0, .rc, "VALUE", 0, [], .free⟩]⟩,
  ⟨"BANK_CFG", 0x100, 32, 4, .wr, none, 0,
    [⟨31, 31, .ro, "BUSY", 0, [], .free⟩, ⟨30, 30, .ro, "BAD", 0, [], .free⟩, ⟨29, 28, .rw, "MODE", 0, [(0, 2)], .free⟩, ⟨15, 12, .rw, "OWNER_HI", 0, [], .free⟩, ⟨11, 8, .rw, "OWNER", 1, [], .free⟩, ⟨7, 7, .rw, "SHARE_HI", 0, [], .free⟩, ⟨6, 6, .rw, "SHARE", 0, [], .free⟩]⟩,
  ⟨"BANK_STAT", 0x200, 32, 4, .wr, none, 0,
    [⟨0, 0, .w1c, "CONFLICT", 0, [], .free⟩]⟩]

/-- Chapter 14: the registers of SPM. -/
def descsSPM : List RegDesc := regsSPM ++ commonRegs 3 .wr

def regsDRC : List RegDesc := [
  ⟨"SCRUB_CFG", 0x0, 1, 4, .wr, none, 0,
    [⟨31, 31, .rw, "EN", 1, [], .free⟩, ⟨7, 0, .rw, "HOURS", 0x18, [(1, 0xA8)], .free⟩]⟩,
  ⟨"CE_CNT", 0x4, 1, 4, .wr, none, 0,
    [⟨31, 0, .rc, "VALUE", 0, [], .free⟩]⟩,
  ⟨"UE_CNT", 0x8, 1, 4, .wr, none, 0,
    [⟨31, 0, .rc, "VALUE", 0, [], .free⟩]⟩,
  ⟨"SCRUB_PTR", 0xC, 1, 4, .wr, none, 0,
    [⟨31, 0, .ro, "VALUE", 0, [], .free⟩]⟩]

/-- Chapter 14: the registers of DRC. -/
def descsDRC : List RegDesc := regsDRC ++ commonRegs 1 .wr

def regsALLOC_0 : List RegDesc := [
  ⟨"CTRL", 0x0, 1, 4, .wr, none, 0,
    [⟨8, 8, .wo, "COLD", 0, [], .free⟩, ⟨2, 2, .rw, "PREEMPT", 0, [], .free⟩, ⟨1, 1, .rw, "ROUTE_EN", 1, [], .free⟩, ⟨0, 0, .rw, "EN", 1, [], .free⟩]⟩,
  ⟨"SOLVE_CFG", 0x4, 1, 4, .wr, none, 0,
    [⟨31, 16, .rw, "GRANT_STEP", 0x3E8, [(1, 0xFFFF)], .free⟩, ⟨15, 12, .rw, "BETA_SH", 2, [(0, 6)], .free⟩, ⟨11, 8, .rw, "ALPHA_SH", 2, [(0, 0xC)], .free⟩, ⟨7, 0, .rw, "ITER", 0x40, [(0x10, 0x80)], .free⟩]⟩,
  ⟨"STAT", 0x8, 1, 4, .wr, none, 0,
    [⟨15, 8, .ro, "SHED_NUM", 0, [], .free⟩, ⟨3, 3, .ro, "RAMP_RELAXED", 0, [], .free⟩, ⟨2, 2, .ro, "RESIDUAL", 0, [], .free⟩, ⟨1, 1, .ro, "INFEAS", 0, [], .free⟩, ⟨0, 0, .ro, "RUNNING", 0, [], .free⟩]⟩,
  ⟨"REPAIR_MAX", 0xC, 1, 4, .wr, none, 0,
    [⟨31, 0, .rc, "VALUE", 0, [], .free⟩]⟩,
  ⟨"SHED_CFG", 0x10, 1, 4, .wr, none, 0,
    [⟨15, 0, .rw, "HOLD_MS", 0x3E8, [(0xFA, 0xEA60)], .free⟩]⟩,
  ⟨"ROUTE_CFG", 0x14, 1, 4, .wr, none, 0,
    [⟨19, 16, .rw, "IDLE_PASSES", 3, [(1, 0xF)], .free⟩, ⟨15, 8, .rw, "HYST_PCT", 0xA, [(0, 0x64)], .free⟩, ⟨7, 0, .rw, "MOVE_MAX", 8, [(1, 0x40)], .free⟩]⟩,
  ⟨"ROUTE_TMO", 0x18, 1, 4, .wr, none, 0,
    [⟨29, 20, .rw, "CLOSE_MS", 0x64, [(0x14, 0x3E8)], .free⟩, ⟨19, 10, .rw, "OPEN_MS", 0x64, [(0x14, 0x3E8)], .free⟩, ⟨9, 0, .rw, "DRAIN_MS", 0xC8, [(0x14, 0x3E8)], .free⟩]⟩,
  ⟨"ROUTE_NODE", 0x1C, 1, 4, .wr, none, 0,
    [⟨31, 16, .rw, "I_ZERO", 2, [(1, 0x64)], .free⟩, ⟨15, 0, .rw, "MATRIX_ID", 0, [(0, 0), (0x2000, 0x7FFF)], .free⟩]⟩,
  ⟨"ROUTE_PTR", 0x20, 1, 4, .wr, none, 0,
    [⟨9, 0, .ro, "PTR", 0, [], .free⟩]⟩,
  ⟨"ROUTE_CLR", 0x24, 1, 4, .wr, none, 0,
    [⟨9, 0, .wo, "CAB", 0, [], .free⟩]⟩,
  ⟨"MODEL_CTL", 0x30, 1, 4, .wr, none, 0,
    [⟨15, 8, .ro, "REJ_CODE", 0, [], .free⟩, ⟨1, 1, .ro, "BUSY", 0, [], .free⟩, ⟨0, 0, .w1s, "SWAP", 0, [], .free⟩]⟩,
  ⟨"MODEL_VER", 0x34, 1, 4, .wr, none, 0,
    [⟨31, 0, .ro, "VALUE", 0, [], .free⟩]⟩,
  ⟨"MODEL_ADDR", 0x38, 1, 4, .wr, none, 0,
    [⟨17, 2, .rw, "ADDR", 0, [(0, 0x9FFF)], .free⟩]⟩,
  ⟨"MODEL_DATA", 0x3C, 1, 4, .wr, none, 0,
    [⟨31, 0, .rw, "VALUE", 0, [], .free⟩]⟩,
  ⟨"Q0_CFG", 0x40, 1, 4, .wr, none, 0,
    [⟨23, 0, .rw, "REPORT_DELTA", 0x3E8, [], .free⟩]⟩,
  ⟨"Q0_DROP", 0x44, 1, 4, .wr, none, 0,
    [⟨31, 0, .rc, "VALUE", 0, [], .free⟩]⟩,
  ⟨"SHED_EVT_CNT", 0x48, 1, 4, .wr, none, 0,
    [⟨31, 0, .rc, "VALUE", 0, [], .free⟩]⟩,
  ⟨"SHED_MAP", 0x100, 8, 4, .wr, none, 0,
    [⟨31, 0, .ro, "VALUE", 0, [], .free⟩]⟩,
  ⟨"UNROUTED_MAP", 0x120, 8, 4, .wr, none, 0,
    [⟨31, 0, .ro, "VALUE", 0, [], .free⟩]⟩,
  ⟨"RES_DISP", 0x2000, 256, 4, .wr, none, 0,
    [⟨31, 0, .ro, "VALUE", 0, [], .free⟩]⟩,
  ⟨"RES_CAB", 0x2400, 768, 4, .wr, none, 0,
    [⟨31, 0, .ro, "VALUE", 0, [], .free⟩]⟩,
  ⟨"RES_SRC", 0x3000, 64, 4, .wr, none, 0,
    [⟨31, 0, .ro, "VALUE", 0, [], .free⟩]⟩,
  ⟨"NODE_FLOW", 0x3100, 512, 4, .wr, none, 0,
    [⟨31, 0, .ro, "VALUE", 0, [], .free⟩]⟩,
  ⟨"NODE_PRICE", 0x3900, 512, 4, .wr, none, 0,
    [⟨31, 0, .ro, "VALUE", 0, [], .free⟩]⟩]

def regsALLOC_1 : List RegDesc := [
  ⟨"ROUTE_MAP", 0x4400, 768, 4, .wr, none, 0,
    [⟨11, 9, .ro, "STATE", 0, [], .free⟩, ⟨8, 0, .ro, "DISP", 0x1FF, [], .free⟩]⟩,
  ⟨"SRC_IMP_LIM", 0x5000, 64, 4, .wr, none, 0,
    [⟨31, 0, .rw, "VALUE", 0x7FFFFFFF, [(0, 0x7FFFFFFF)], .free⟩]⟩,
  ⟨"SRC_EXP_LIM", 0x5100, 64, 4, .wr, none, 0,
    [⟨31, 0, .rw, "VALUE", 0x7FFFFFFF, [(0, 0x7FFFFFFF)], .free⟩]⟩]

/-- Chapter 02: the registers of ALLOC. -/
def descsALLOC : List RegDesc := (regsALLOC_0 ++ regsALLOC_1) ++ commonRegs 12 .wr

def regsLEASE : List RegDesc := [
  ⟨"CTRL", 0x0, 1, 4, .wr, none, 0,
    [⟨1, 1, .rw, "WIND_DOWN", 0, [], .free⟩, ⟨0, 0, .rw, "EN", 1, [], .free⟩]⟩,
  ⟨"CFG", 0x4, 1, 4, .wr, none, 0,
    [⟨31, 24, .rw, "I_MARGIN_PCT", 5, [(0, 0x32)], .free⟩, ⟨23, 20, .rw, "ACK_MISS_MAX", 3, [(1, 0xF)], .free⟩, ⟨19, 16, .rw, "ACK_TMO_MS", 2, [(1, 0xF)], .free⟩, ⟨7, 0, .rw, "TERM_MS", 0x14, [(5, 0xC8)], .free⟩]⟩,
  ⟨"STAT", 0x8, 1, 4, .wr, none, 0,
    [⟨26, 16, .ro, "LIVE_NUM", 0, [], .free⟩, ⟨4, 4, .ro, "STALE", 0, [], .free⟩, ⟨3, 3, .ro, "QUIET", 0, [], .free⟩, ⟨2, 2, .ro, "HOLDOFF", 0, [], .free⟩, ⟨1, 1, .ro, "SUSP", 0, [], .free⟩, ⟨0, 0, .ro, "GRANTING", 0, [], .free⟩]⟩,
  ⟨"EPOCH", 0xC, 1, 4, .ao, none, 0,
    [⟨16, 16, .ro, "VALID", 0, [], .free⟩, ⟨15, 0, .ro, "EPOCH", 0, [], .free⟩]⟩,
  ⟨"RECON_CFG", 0x10, 1, 4, .wr, none, 0,
    [⟨31, 24, .rw, "TOL_PCT", 0xA, [(0, 0x32)], .free⟩, ⟨23, 20, .rw, "PERSIST", 3, [(1, 0xF)], .free⟩, ⟨19, 0, .rw, "TOL_MA", 0x1388, [(0, 0xF4240)], .free⟩]⟩,
  ⟨"RESID", 0x14, 1, 4, .wr, none, 0,
    [⟨19, 0, .rw, "RESID_MA", 0x7D0, [(0x64, 0x186A0)], .free⟩]⟩,
  ⟨"GRANT_CNT", 0x18, 1, 4, .wr, none, 0,
    [⟨31, 0, .rc, "VALUE", 0, [], .free⟩]⟩,
  ⟨"MISS_CNT", 0x1C, 1, 4, .wr, none, 0,
    [⟨31, 0, .rc, "VALUE", 0, [], .free⟩]⟩,
  ⟨"OVER_CNT", 0x20, 1, 4, .wr, none, 0,
    [⟨31, 0, .rc, "VALUE", 0, [], .free⟩]⟩,
  ⟨"Q1_DROP", 0x24, 1, 4, .wr, none, 0,
    [⟨31, 0, .rc, "VALUE", 0, [], .free⟩]⟩,
  ⟨"LID", 0x28, 1, 4, .wr, none, 0,
    [⟨31, 0, .ro, "VALUE", 0, [], .free⟩]⟩,
  ⟨"TBL_SEL", 0x40, 1, 4, .wr, none, 0,
    [⟨9, 0, .rw, "TGT", 0, [], .free⟩]⟩,
  ⟨"TBL_LID", 0x44, 1, 4, .wr, none, 0,
    [⟨31, 0, .ro, "VALUE", 0, [], .free⟩]⟩,
  ⟨"TBL_SEQ", 0x48, 1, 4, .wr, none, 0,
    [⟨31, 0, .ro, "VALUE", 0, [], .free⟩]⟩,
  ⟨"TBL_START_LO", 0x4C, 1, 4, .wr, none, 1,
    [⟨31, 0, .ro, "VALUE", 0, [], .free⟩]⟩,
  ⟨"TBL_START_HI", 0x50, 1, 4, .wr, none, 2,
    [⟨31, 0, .ro, "VALUE", 0, [], .free⟩]⟩,
  ⟨"TBL_EXP_LO", 0x54, 1, 4, .wr, none, 1,
    [⟨31, 0, .ro, "VALUE", 0, [], .free⟩]⟩,
  ⟨"TBL_EXP_HI", 0x58, 1, 4, .wr, none, 2,
    [⟨31, 0, .ro, "VALUE", 0, [], .free⟩]⟩,
  ⟨"TBL_P", 0x5C, 1, 4, .wr, none, 0,
    [⟨31, 0, .ro, "VALUE", 0, [], .free⟩]⟩,
  ⟨"TBL_I", 0x60, 1, 4, .wr, none, 0,
    [⟨31, 0, .ro, "VALUE", 0, [], .free⟩]⟩,
  ⟨"TBL_ACK", 0x64, 1, 4, .wr, none, 0,
    [⟨31, 24, .ro, "MISS_RUN", 0, [], .free⟩, ⟨23, 16, .ro, "RESULT", 0, [], .free⟩, ⟨15, 8, .ro, "HOLDER_STATE", 0, [], .free⟩]⟩,
  ⟨"TGT", 0x1000, 1024, 4, .wr, none, 0,
    [⟨31, 16, .rw, "RAMP_HW", 0x1F4, [(1, 0xFFFF)], .free⟩, ⟨15, 12, .rw, "LEAD_TICKS", 4, [(2, 0xF)], .free⟩, ⟨11, 6, .rw, "FALL_MS", 0xA, [(1, 0x3F)], .free⟩, ⟨0, 0, .rw, "EN", 0, [], .free⟩]⟩]

/-- Chapter 03: the registers of LEASE. -/
def descsLEASE : List RegDesc := regsLEASE ++ commonRegs 11 .wr

def regsCTLE_0 : List RegDesc := [
  ⟨"CTRL", 0x0, 1, 4, .wr, none, 0,
    [⟨8, 8, .rw, "GEN_EN", 1, [], .free⟩, ⟨0, 0, .rw, "EN", 1, [], .free⟩]⟩,
  ⟨"STAT", 0x4, 1, 4, .wr, none, 0,
    [⟨26, 16, .ro, "FAULT_NUM", 0, [], .free⟩, ⟨1, 1, .ro, "INHIBIT", 0, [], .free⟩, ⟨0, 0, .ro, "RUNNING", 0, [], .free⟩]⟩,
  ⟨"LOAD", 0x8, 1, 4, .wr, none, 0,
    [⟨31, 22, .ro, "BG0_MAX", 0, [], .free⟩, ⟨21, 12, .ro, "BG_MAX", 0, [], .free⟩, ⟨11, 0, .ro, "TB_MAX", 0, [], .free⟩]⟩,
  ⟨"SLOT_SEL", 0x40, 1, 4, .wr, none, 0,
    [⟨9, 0, .rw, "SLOT", 0, [], .free⟩]⟩,
  ⟨"GEN_SEL", 0x44, 1, 4, .wr, none, 0,
    [⟨8, 0, .rw, "GEN", 0, [(0, 0x13F)], .free⟩]⟩,
  ⟨"Q2_DROP", 0x48, 1, 4, .wr, none, 0,
    [⟨31, 0, .rc, "VALUE", 0, [], .free⟩]⟩,
  ⟨"MISS_CNT", 0x4C, 1, 4, .wr, none, 0,
    [⟨31, 0, .rc, "VALUE", 0, [], .free⟩]⟩,
  ⟨"FAULT_MAP", 0x300, 32, 4, .wr, none, 0,
    [⟨31, 0, .ro, "VALUE", 0, [], .free⟩]⟩,
  ⟨"CTL", 0x100, 1, 4, .wr, some ⟨0x40, 9, 0, 1024⟩, 0,
    [⟨31, 31, .rw, "EN", 0, [], .free⟩, ⟨30, 30, .rw, "FREEZE", 0, [], .free⟩, ⟨29, 29, .ro, "TICK", 0, [], .free⟩, ⟨28, 24, .rw, "DIV", 1, [(1, 0x14)], .slotOff⟩, ⟨23, 19, .rw, "PHASE", 0, [], .slotOff⟩, ⟨18, 18, .rw, "SAT_REP", 0, [], .free⟩]⟩,
  ⟨"PV_SRC", 0x104, 1, 4, .wr, some ⟨0x40, 9, 0, 1024⟩, 0,
    [⟨31, 28, .rw, "KIND", 0, [(0, 9)], .slotOff⟩, ⟨27, 0, .rw, "SEL", 0, [], .slotOff⟩]⟩,
  ⟨"SP_SRC", 0x108, 1, 4, .wr, some ⟨0x40, 9, 0, 1024⟩, 0,
    [⟨31, 28, .rw, "KIND", 0, [(0, 2)], .slotOff⟩, ⟨27, 0, .rw, "SEL", 0, [], .slotOff⟩]⟩,
  ⟨"SINK", 0x10C, 1, 4, .wr, some ⟨0x40, 9, 0, 1024⟩, 0,
    [⟨31, 28, .rw, "KIND", 0, [(0, 8)], .slotOff⟩, ⟨27, 0, .rw, "SEL", 0, [], .slotOff⟩]⟩,
  ⟨"SP", 0x110, 1, 4, .wr, some ⟨0x40, 9, 0, 1024⟩, 0,
    [⟨31, 0, .rw, "VALUE", 0, [], .free⟩]⟩,
  ⟨"STALE", 0x114, 1, 4, .wr, some ⟨0x40, 9, 0, 1024⟩, 0,
    [⟨31, 26, .rw, "FALL_MS", 0xA, [(1, 0x3F)], .free⟩, ⟨7, 0, .rw, "PV_STALE_MS", 8, [(1, 0xFF)], .free⟩]⟩,
  ⟨"SAFE", 0x118, 1, 4, .wr, some ⟨0x40, 9, 0, 1024⟩, 0,
    [⟨31, 0, .rw, "VALUE", 0, [], .free⟩]⟩,
  ⟨"KP", 0x120, 1, 4, .wr, some ⟨0x40, 9, 0, 1024⟩, 0,
    [⟨31, 0, .rw, "VALUE", 0, [], .free⟩]⟩,
  ⟨"KI", 0x124, 1, 4, .wr, some ⟨0x40, 9, 0, 1024⟩, 0,
    [⟨31, 0, .rw, "VALUE", 0, [], .free⟩]⟩,
  ⟨"KD", 0x128, 1, 4, .wr, some ⟨0x40, 9, 0, 1024⟩, 0,
    [⟨31, 0, .rw, "VALUE", 0, [], .free⟩]⟩,
  ⟨"KF", 0x12C, 1, 4, .wr, some ⟨0x40, 9, 0, 1024⟩, 0,
    [⟨31, 0, .rw, "VALUE", 0, [], .free⟩]⟩,
  ⟨"OUT_MIN", 0x130, 1, 4, .wr, some ⟨0x40, 9, 0, 1024⟩, 0,
    [⟨31, 0, .rw, "VALUE", 0x80000000, [], .free⟩]⟩,
  ⟨"OUT_MAX", 0x134, 1, 4, .wr, some ⟨0x40, 9, 0, 1024⟩, 0,
    [⟨31, 0, .rw, "VALUE", 0x7FFFFFFF, [], .free⟩]⟩,
  ⟨"I_MIN", 0x138, 1, 4, .wr, some ⟨0x40, 9, 0, 1024⟩, 0,
    [⟨31, 0, .rw, "VALUE", 0x80000000, [], .free⟩]⟩,
  ⟨"I_MAX", 0x13C, 1, 4, .wr, some ⟨0x40, 9, 0, 1024⟩, 0,
    [⟨31, 0, .rw, "VALUE", 0x7FFFFFFF, [], .free⟩]⟩,
  ⟨"DCFG", 0x140, 1, 4, .wr, some ⟨0x40, 9, 0, 1024⟩, 0,
    [⟨31, 16, .rw, "DEADBAND", 0, [], .free⟩, ⟨3, 0, .rw, "DSH", 0, [(0, 8)], .free⟩]⟩]

def regsCTLE_1 : List RegDesc := [
  ⟨"OUT", 0x150, 1, 4, .wr, some ⟨0x40, 9, 0, 1024⟩, 0,
    [⟨31, 0, .ro, "VALUE", 0, [], .free⟩]⟩,
  ⟨"ERR", 0x154, 1, 4, .wr, some ⟨0x40, 9, 0, 1024⟩, 0,
    [⟨31, 0, .ro, "VALUE", 0, [], .free⟩]⟩,
  ⟨"I_LO", 0x158, 1, 4, .wr, some ⟨0x40, 9, 0, 1024⟩, 1,
    [⟨31, 0, .rw, "VALUE", 0, [], .free⟩]⟩,
  ⟨"I_HI", 0x15C, 1, 4, .wr, some ⟨0x40, 9, 0, 1024⟩, 2,
    [⟨31, 0, .rw, "VALUE", 0, [], .free⟩]⟩,
  ⟨"DSTATE", 0x160, 1, 4, .wr, some ⟨0x40, 9, 0, 1024⟩, 0,
    [⟨31, 0, .ro, "VALUE", 0, [], .free⟩]⟩,
  ⟨"PV", 0x164, 1, 4, .wr, some ⟨0x40, 9, 0, 1024⟩, 0,
    [⟨31, 0, .ro, "VALUE", 0, [], .free⟩]⟩,
  ⟨"SLOT_STAT", 0x168, 1, 4, .wr, some ⟨0x40, 9, 0, 1024⟩, 0,
    [⟨23, 16, .ro, "MISS_RUN", 0, [], .free⟩, ⟨6, 6, .ro, "INV_LIM", 0, [], .free⟩, ⟨5, 5, .ro, "FAULT", 0, [], .free⟩, ⟨4, 4, .ro, "PV_STALE", 0, [], .free⟩, ⟨3, 3, .ro, "I_HELD", 0, [], .free⟩, ⟨2, 2, .ro, "SAT_LO", 0, [], .free⟩, ⟨1, 1, .ro, "SAT_HI", 0, [], .free⟩]⟩,
  ⟨"EVAL_CNT", 0x16C, 1, 4, .wr, some ⟨0x40, 9, 0, 1024⟩, 0,
    [⟨31, 0, .ro, "VALUE", 0, [], .free⟩]⟩,
  ⟨"LAST_T_LO", 0x170, 1, 4, .wr, some ⟨0x40, 9, 0, 1024⟩, 1,
    [⟨31, 0, .ro, "VALUE", 0, [], .free⟩]⟩,
  ⟨"LAST_T_HI", 0x174, 1, 4, .wr, some ⟨0x40, 9, 0, 1024⟩, 2,
    [⟨31, 0, .ro, "VALUE", 0, [], .free⟩]⟩,
  ⟨"ACT_VER", 0x178, 1, 4, .wr, some ⟨0x40, 9, 0, 1024⟩, 0,
    [⟨15, 0, .ro, "VER", 0, [], .free⟩]⟩,
  ⟨"GCTL", 0x200, 1, 4, .wr, some ⟨0x44, 8, 0, 320⟩, 0,
    [⟨31, 31, .rw, "EN", 0, [], .free⟩]⟩,
  ⟨"TARGET", 0x204, 1, 4, .wr, some ⟨0x44, 8, 0, 320⟩, 0,
    [⟨31, 0, .rw, "VALUE", 0, [], .free⟩]⟩,
  ⟨"VMAX", 0x208, 1, 4, .wr, some ⟨0x44, 8, 0, 320⟩, 0,
    [⟨31, 0, .rw, "VALUE", 1, [(1, 0xFFFFFFFF)], .free⟩]⟩,
  ⟨"AMAX", 0x20C, 1, 4, .wr, some ⟨0x44, 8, 0, 320⟩, 0,
    [⟨31, 0, .rw, "VALUE", 1, [(1, 0xFFFFFFFF)], .free⟩]⟩,
  ⟨"JMAX", 0x210, 1, 4, .wr, some ⟨0x44, 8, 0, 320⟩, 0,
    [⟨31, 0, .rw, "VALUE", 1, [(1, 0xFFFFFFFF)], .free⟩]⟩,
  ⟨"X", 0x214, 1, 4, .wr, some ⟨0x44, 8, 0, 320⟩, 0,
    [⟨31, 0, .rw, "VALUE", 0, [], .genOff⟩]⟩,
  ⟨"V", 0x218, 1, 4, .wr, some ⟨0x44, 8, 0, 320⟩, 0,
    [⟨31, 0, .ro, "VALUE", 0, [], .free⟩]⟩,
  ⟨"A", 0x21C, 1, 4, .wr, some ⟨0x44, 8, 0, 320⟩, 0,
    [⟨31, 0, .ro, "VALUE", 0, [], .free⟩]⟩,
  ⟨"GSTAT", 0x220, 1, 4, .wr, some ⟨0x44, 8, 0, 320⟩, 0,
    [⟨3, 3, .ro, "LIMIT_REDUCE", 0, [], .free⟩, ⟨2, 2, .ro, "OVERSHOOT", 0, [], .free⟩, ⟨1, 1, .ro, "MOVING", 0, [], .free⟩, ⟨0, 0, .ro, "AT_TARGET", 1, [], .free⟩]⟩,
  ⟨"T_ARR_LO", 0x224, 1, 4, .wr, some ⟨0x44, 8, 0, 320⟩, 1,
    [⟨31, 0, .ro, "VALUE", 0, [], .free⟩]⟩,
  ⟨"T_ARR_HI", 0x228, 1, 4, .wr, some ⟨0x44, 8, 0, 320⟩, 2,
    [⟨31, 0, .ro, "VALUE", 0, [], .free⟩]⟩,
  ⟨"OFS", 0x22C, 1, 4, .wr, some ⟨0x44, 8, 0, 320⟩, 0,
    [⟨31, 0, .ro, "VALUE", 0, [], .free⟩]⟩]

/-- Chapter 04: the registers of CTLE. -/
def descsCTLE : List RegDesc := (regsCTLE_0 ++ regsCTLE_1) ++ commonRegs 10 .wr

def regsTHRM_0 : List RegDesc := [
  ⟨"STAT", 0x0, 1, 4, .wr, none, 0,
    [⟨29, 20, .ro, "FAULT_NUM", 0, [], .free⟩, ⟨19, 10, .ro, "FB_NUM", 0, [], .free⟩, ⟨1, 1, .ro, "INHIBIT", 0, [], .free⟩, ⟨0, 0, .ro, "RUNNING", 0, [], .free⟩]⟩,
  ⟨"PUB_TIME_LO", 0x4, 1, 4, .wr, none, 1,
    [⟨31, 0, .ro, "VALUE", 0, [], .free⟩]⟩,
  ⟨"PUB_TIME_HI", 0x8, 1, 4, .wr, none, 2,
    [⟨31, 0, .ro, "VALUE", 0, [], .free⟩]⟩,
  ⟨"PLAUS0", 0x10, 1, 4, .wr, none, 0,
    [⟨31, 16, .ro, "T_MAX", 0x3A98, [], .free⟩, ⟨15, 0, .ro, "T_MIN", 0xF060, [], .free⟩]⟩,
  ⟨"PLAUS1", 0x14, 1, 4, .wr, none, 0,
    [⟨31, 24, .ro, "INV_K", 0xC8, [], .free⟩, ⟨23, 16, .ro, "F_MAX_LPM", 0x3C, [], .free⟩, ⟨15, 12, .ro, "IN_STALE", 2, [], .free⟩, ⟨11, 8, .ro, "RECOV", 4, [], .free⟩, ⟨7, 0, .ro, "INIT_S", 0xB4, [], .free⟩]⟩,
  ⟨"PLAUS2", 0x18, 1, 4, .wr, none, 0,
    [⟨31, 16, .ro, "T_AMB_WORST", 0x1388, [], .free⟩, ⟨15, 8, .ro, "RESID_K", 0xA, [], .free⟩, ⟨7, 0, .ro, "RESID_MS", 0x64, [], .free⟩]⟩,
  ⟨"OBS_SEL", 0x40, 1, 4, .wr, none, 0,
    [⟨8, 0, .rw, "OBS", 0, [], .free⟩]⟩,
  ⟨"CIRC_SEL", 0x44, 1, 4, .wr, none, 0,
    [⟨5, 0, .rw, "CIRC", 0, [], .free⟩]⟩,
  ⟨"Q3_DROP", 0x48, 1, 4, .wr, none, 0,
    [⟨31, 0, .rc, "VALUE", 0, [], .free⟩]⟩,
  ⟨"RESIDUE_CNT", 0x4C, 1, 4, .wr, none, 0,
    [⟨31, 0, .rc, "VALUE", 0, [], .free⟩]⟩,
  ⟨"HS", 0x1000, 512, 4, .wr, none, 0,
    [⟨31, 31, .ro, "TRIP_EST", 0, [], .free⟩, ⟨30, 30, .ro, "TRIP_MEAS", 0, [], .free⟩, ⟨29, 27, .ro, "STATE", 0, [], .free⟩, ⟨26, 26, .ro, "DEGRADED", 0, [], .free⟩, ⟨25, 25, .ro, "HS_HIGH", 0, [], .free⟩, ⟨15, 0, .ro, "TEMP", 0, [], .free⟩]⟩,
  ⟨"CRED1", 0x2000, 512, 4, .wr, none, 0,
    [⟨31, 0, .ro, "VALUE", 0, [], .free⟩]⟩,
  ⟨"CRED10", 0x2800, 512, 4, .wr, none, 0,
    [⟨31, 0, .ro, "VALUE", 0, [], .free⟩]⟩,
  ⟨"CRED60", 0x3000, 512, 4, .wr, none, 0,
    [⟨31, 0, .ro, "VALUE", 0, [], .free⟩]⟩,
  ⟨"CIRC_DEM", 0x3800, 64, 4, .wr, none, 0,
    [⟨31, 16, .ro, "VALVE", 0, [], .free⟩, ⟨15, 0, .ro, "PUMP", 0, [], .free⟩]⟩,
  ⟨"OBS_CFG", 0x100, 48, 4, .wr, some ⟨0x40, 8, 0, 512⟩, 0,
    [⟨31, 0, .ro, "VALUE", 0, [], .free⟩]⟩,
  ⟨"T1", 0x1C0, 1, 4, .wr, some ⟨0x40, 8, 0, 512⟩, 0,
    [⟨31, 0, .ro, "VALUE", 0, [], .free⟩]⟩,
  ⟨"T2", 0x1C4, 1, 4, .wr, some ⟨0x40, 8, 0, 512⟩, 0,
    [⟨31, 0, .ro, "VALUE", 0, [], .free⟩]⟩,
  ⟨"T3", 0x1C8, 1, 4, .wr, some ⟨0x40, 8, 0, 512⟩, 0,
    [⟨31, 0, .ro, "VALUE", 0, [], .free⟩]⟩,
  ⟨"I_USED", 0x1CC, 1, 4, .wr, some ⟨0x40, 8, 0, 512⟩, 0,
    [⟨31, 0, .ro, "VALUE", 0, [], .free⟩]⟩,
  ⟨"F_USED", 0x1D0, 1, 4, .wr, some ⟨0x40, 8, 0, 512⟩, 0,
    [⟨31, 0, .ro, "VALUE", 0, [], .free⟩]⟩,
  ⟨"R_NOW", 0x1D4, 1, 4, .wr, some ⟨0x40, 8, 0, 512⟩, 0,
    [⟨31, 0, .ro, "VALUE", 0, [], .free⟩]⟩,
  ⟨"CRED1_W", 0x1D8, 1, 4, .wr, some ⟨0x40, 8, 0, 512⟩, 0,
    [⟨31, 0, .ro, "VALUE", 0, [], .free⟩]⟩,
  ⟨"CRED10_W", 0x1DC, 1, 4, .wr, some ⟨0x40, 8, 0, 512⟩, 0,
    [⟨31, 0, .ro, "VALUE", 0, [], .free⟩]⟩]

def regsTHRM_1 : List RegDesc := [
  ⟨"CRED60_W", 0x1E0, 1, 4, .wr, some ⟨0x40, 8, 0, 512⟩, 0,
    [⟨31, 0, .ro, "VALUE", 0, [], .free⟩]⟩,
  ⟨"RESID", 0x1E4, 1, 4, .wr, some ⟨0x40, 8, 0, 512⟩, 0,
    [⟨31, 0, .ro, "VALUE", 0, [], .free⟩]⟩,
  ⟨"OSTAT", 0x1E8, 1, 4, .wr, some ⟨0x40, 8, 0, 512⟩, 0,
    [⟨31, 29, .ro, "STATE", 0, [], .free⟩, ⟨28, 28, .ro, "DEGRADED", 0, [], .free⟩, ⟨9, 9, .ro, "HS_HIGH", 0, [], .free⟩, ⟨8, 8, .ro, "LOW_FLOW", 0, [], .free⟩, ⟨5, 0, .ro, "LOST", 0, [], .free⟩]⟩,
  ⟨"R_CRED", 0x1EC, 1, 4, .wr, some ⟨0x40, 8, 0, 512⟩, 0,
    [⟨31, 0, .ro, "VALUE", 0, [], .free⟩]⟩,
  ⟨"TIMER", 0x1F0, 1, 4, .wr, some ⟨0x40, 8, 0, 512⟩, 0,
    [⟨31, 0, .ro, "VALUE", 0, [], .free⟩]⟩,
  ⟨"CCTL", 0x200, 1, 4, .wr, some ⟨0x44, 5, 0, 64⟩, 0,
    [⟨31, 31, .rw, "EN", 0, [], .free⟩, ⟨30, 29, .rw, "PUMP_ROUTE", 0, [(0, 2)], .circOff⟩, ⟨28, 27, .rw, "VALVE_ROUTE", 0, [(0, 2)], .circOff⟩, ⟨20, 16, .rw, "PUMP_LSW", 0, [], .circOff⟩, ⟨12, 8, .rw, "VALVE_LSW", 0, [], .circOff⟩]⟩,
  ⟨"CNODE", 0x204, 1, 4, .wr, some ⟨0x44, 5, 0, 64⟩, 0,
    [⟨31, 16, .rw, "NODE", 0, [(0x2000, 0x7FFF)], .circOff⟩, ⟨15, 8, .rw, "COOL_MS", 0x14, [(0xA, 0xFF)], .circOff⟩, ⟨7, 0, .rw, "CHANNEL", 0, [], .circOff⟩]⟩,
  ⟨"PUMP_LIM", 0x208, 1, 4, .wr, some ⟨0x44, 5, 0, 64⟩, 0,
    [⟨31, 16, .rw, "PUMP_MIN", 0, [], .circOff⟩, ⟨15, 0, .rw, "PUMP_FORCE", 0x2710, [], .circOff⟩]⟩,
  ⟨"VALVE_LIM", 0x20C, 1, 4, .wr, some ⟨0x44, 5, 0, 64⟩, 0,
    [⟨31, 16, .rw, "VALVE_MIN", 0, [], .circOff⟩, ⟨15, 0, .rw, "VALVE_FORCE", 0x2710, [], .circOff⟩]⟩,
  ⟨"LOSS", 0x210, 1, 4, .wr, some ⟨0x44, 5, 0, 64⟩, 0,
    [⟨31, 16, .rw, "LOSS_PUMP", 0x2710, [], .circOff⟩, ⟨15, 0, .rw, "LOSS_VALVE", 0x2710, [], .circOff⟩]⟩,
  ⟨"ON", 0x214, 1, 4, .wr, some ⟨0x44, 5, 0, 64⟩, 0,
    [⟨31, 16, .rw, "T_COOL_ON", 0xFA0, [], .circOff⟩, ⟨15, 0, .rw, "RUNON_S", 0x12C, [], .circOff⟩]⟩,
  ⟨"I_COOL_ON", 0x218, 1, 4, .wr, some ⟨0x44, 5, 0, 64⟩, 0,
    [⟨31, 0, .rw, "VALUE", 0x186A0, [], .circOff⟩]⟩,
  ⟨"PUMP_DEM", 0x220, 1, 4, .wr, some ⟨0x44, 5, 0, 64⟩, 0,
    [⟨15, 0, .ro, "DEM", 0, [], .free⟩]⟩,
  ⟨"VALVE_DEM", 0x224, 1, 4, .wr, some ⟨0x44, 5, 0, 64⟩, 0,
    [⟨15, 0, .ro, "DEM", 0, [], .free⟩]⟩,
  ⟨"CSTAT", 0x228, 1, 4, .wr, some ⟨0x44, 5, 0, 64⟩, 0,
    [⟨2, 2, .ro, "RUNON", 0, [], .free⟩, ⟨1, 1, .ro, "ACTIVE", 0, [], .free⟩, ⟨0, 0, .ro, "FORCED", 0, [], .free⟩]⟩]

/-- Chapter 05: the registers of THRM. -/
def descsTHRM : List RegDesc := (regsTHRM_0 ++ regsTHRM_1) ++ commonRegs 10 .wr

def regsPNT_0 : List RegDesc := [
  ⟨"CTRL", 0x0, 1, 4, .wr, none, 0,
    [⟨10, 10, .wo, "PRESS_CLR", 0, [], .free⟩, ⟨9, 9, .wo, "REHASH", 0, [], .free⟩, ⟨2, 2, .rw, "SWEEP_EN", 1, [], .free⟩, ⟨1, 1, .rw, "ROLL_EN", 1, [], .free⟩, ⟨0, 0, .rw, "EN", 1, [], .free⟩]⟩,
  ⟨"CFG", 0x4, 1, 4, .wr, none, 0,
    [⟨25, 16, .rw, "REHASH_AT", 0x100, [(0x10, 0x3FF)], .free⟩, ⟨15, 8, .rw, "REHASH_GAP_S", 0x3C, [(1, 0xFF)], .free⟩, ⟨7, 0, .rw, "MAX_KICK", 0x20, [(8, 0x80)], .free⟩]⟩,
  ⟨"STAT", 0x8, 1, 4, .wr, none, 0,
    [⟨5, 5, .ro, "PRESS_PERSIST", 0, [], .free⟩, ⟨4, 4, .ro, "REPAIR", 0, [], .free⟩, ⟨3, 3, .ro, "ROLL_LATE", 0, [], .free⟩, ⟨2, 2, .ro, "GEN", 0, [], .free⟩, ⟨1, 1, .ro, "REHASH", 0, [], .free⟩, ⟨0, 0, .ro, "RUNNING", 0, [], .free⟩]⟩,
  ⟨"DEF_CNT", 0xC, 1, 4, .wr, none, 0,
    [⟨25, 0, .ro, "CNT", 0, [], .free⟩]⟩,
  ⟨"STASH_OCC", 0x10, 1, 4, .wr, none, 0,
    [⟨10, 0, .ro, "OCC", 0, [], .free⟩]⟩,
  ⟨"STASH_HWM", 0x14, 1, 4, .wr, none, 0,
    [⟨10, 0, .rc, "HWM", 0, [], .free⟩]⟩,
  ⟨"MIG_PTR", 0x18, 1, 4, .wr, none, 0,
    [⟨23, 0, .ro, "PTR", 0, [], .free⟩]⟩,
  ⟨"SWEEP_CFG", 0x1C, 1, 4, .wr, none, 0,
    [⟨15, 0, .rw, "SWEEP_MS", 0x3E8, [(0x64, 0x2710)], .free⟩]⟩,
  ⟨"Q5_CFG", 0x20, 1, 4, .wr, none, 0,
    [⟨27, 16, .rw, "STR_MAX", 0x100, [(1, 0x400)], .free⟩, ⟨15, 0, .rw, "STR_DELTA", 0x3E8, [(1, 0xFFFF)], .free⟩]⟩,
  ⟨"ROLL_TIME_LO", 0x24, 1, 4, .wr, none, 1,
    [⟨31, 0, .ro, "VALUE", 0, [], .free⟩]⟩,
  ⟨"ROLL_TIME_HI", 0x28, 1, 4, .wr, none, 2,
    [⟨31, 0, .ro, "VALUE", 0, [], .free⟩]⟩,
  ⟨"INGEST_CNT", 0x30, 1, 4, .wr, none, 0,
    [⟨31, 0, .rc, "VALUE", 0, [], .free⟩]⟩,
  ⟨"REJ_SEQ_CNT", 0x34, 1, 4, .wr, none, 0,
    [⟨31, 0, .rc, "VALUE", 0, [], .free⟩]⟩,
  ⟨"REJ_TIME_CNT", 0x38, 1, 4, .wr, none, 0,
    [⟨31, 0, .rc, "VALUE", 0, [], .free⟩]⟩,
  ⟨"REJ_NODE_CNT", 0x3C, 1, 4, .wr, none, 0,
    [⟨31, 0, .rc, "VALUE", 0, [], .free⟩]⟩,
  ⟨"UNKNOWN_CNT", 0x40, 1, 4, .wr, none, 0,
    [⟨31, 0, .rc, "VALUE", 0, [], .free⟩]⟩,
  ⟨"BLK_DROP_CNT", 0x44, 1, 4, .wr, none, 0,
    [⟨31, 0, .rc, "VALUE", 0, [], .free⟩]⟩,
  ⟨"STASH_INS_CNT", 0x48, 1, 4, .wr, none, 0,
    [⟨31, 0, .rc, "VALUE", 0, [], .free⟩]⟩,
  ⟨"REHASH_CNT", 0x4C, 1, 4, .wr, none, 0,
    [⟨31, 0, .rc, "VALUE", 0, [], .free⟩]⟩,
  ⟨"RESCAN_OVF_CNT", 0x50, 1, 4, .wr, none, 0,
    [⟨31, 0, .rc, "VALUE", 0, [], .free⟩]⟩,
  ⟨"ECC_LOST_CNT", 0x54, 1, 4, .wr, none, 0,
    [⟨31, 0, .rc, "VALUE", 0, [], .free⟩]⟩,
  ⟨"ROLL_LATE_CNT", 0x58, 1, 4, .wr, none, 0,
    [⟨31, 0, .rc, "VALUE", 0, [], .free⟩]⟩,
  ⟨"Q4_DROP", 0x5C, 1, 4, .wr, none, 0,
    [⟨31, 0, .rc, "VALUE", 0, [], .free⟩]⟩,
  ⟨"Q5_DROP", 0x60, 1, 4, .wr, none, 0,
    [⟨31, 0, .rc, "VALUE", 0, [], .free⟩]⟩]

def regsPNT_1 : List RegDesc := [
  ⟨"CMD_KEY_LO", 0x100, 1, 4, .wr, none, 1,
    [⟨31, 0, .rw, "VALUE", 0, [], .free⟩]⟩,
  ⟨"CMD_KEY_HI", 0x104, 1, 4, .wr, none, 2,
    [⟨31, 0, .rw, "VALUE", 0, [], .free⟩]⟩,
  ⟨"CMD_ARG", 0x108, 4, 4, .wr, none, 0,
    [⟨31, 0, .rw, "VALUE", 0, [], .free⟩]⟩,
  ⟨"CMD", 0x118, 1, 4, .wr, none, 0,
    [⟨7, 0, .wo, "OP", 0, [(1, 6)], .free⟩]⟩,
  ⟨"CMD_STAT", 0x11C, 1, 4, .wr, none, 0,
    [⟨31, 31, .ro, "BUSY", 0, [], .free⟩, ⟨23, 16, .ro, "RESULT", 0, [], .free⟩, ⟨15, 8, .ro, "OP", 0, [], .free⟩]⟩,
  ⟨"CMD_RES", 0x120, 1, 4, .wr, none, 0,
    [⟨24, 0, .ro, "RES", 0, [], .free⟩]⟩,
  ⟨"RD_IDX", 0x140, 1, 4, .wr, none, 0,
    [⟨24, 0, .rw, "IDX", 0, [], .free⟩]⟩,
  ⟨"RD_STAT", 0x144, 1, 4, .wr, none, 0,
    [⟨0, 0, .ro, "POISON", 0, [], .free⟩]⟩,
  ⟨"RD_DATA", 0x160, 8, 4, .wr, none, 0,
    [⟨31, 0, .ro, "VALUE", 0, [], .free⟩]⟩,
  ⟨"PROF_SEL", 0x180, 1, 4, .wr, none, 0,
    [⟨31, 31, .rw, "COMMIT", 0, [], .free⟩, ⟨11, 0, .rw, "PROF", 0, [], .free⟩]⟩,
  ⟨"PROF_WIN", 0x1A0, 8, 4, .wr, none, 0,
    [⟨31, 0, .rw, "VALUE", 0, [], .free⟩]⟩,
  ⟨"SPROF_SEL", 0x1C0, 1, 4, .wr, none, 0,
    [⟨31, 31, .rw, "COMMIT", 0, [], .free⟩, ⟨7, 0, .rw, "SPROF", 0, [], .free⟩]⟩,
  ⟨"SPROF_WIN", 0x1E0, 12, 4, .wr, none, 0,
    [⟨31, 0, .rw, "VALUE", 0, [], .free⟩]⟩,
  ⟨"NODE_SEL", 0x240, 1, 4, .wr, none, 0,
    [⟨20, 0, .rw, "NODE", 0, [], .free⟩]⟩,
  ⟨"NODE_WIN", 0x260, 16, 4, .wr, none, 0,
    [⟨31, 0, .ro, "VALUE", 0, [], .free⟩]⟩,
  ⟨"SRC_DIS", 0x1000, 64, 4, .wr, none, 0,
    [⟨31, 0, .ro, "VALUE", 0, [], .free⟩]⟩,
  ⟨"SRC_CHG", 0x1100, 64, 4, .wr, none, 0,
    [⟨31, 0, .ro, "VALUE", 0, [], .free⟩]⟩]

/-- Chapter 06: the registers of PNT. -/
def descsPNT : List RegDesc := (regsPNT_0 ++ regsPNT_1) ++ commonRegs 17 .wr

def regsSESS_0 : List RegDesc := [
  ⟨"CTRL", 0x0, 1, 4, .wr, none, 0,
    [⟨0, 0, .rw, "EN", 1, [], .free⟩]⟩,
  ⟨"CFG", 0x4, 1, 4, .wr, none, 0,
    [⟨31, 24, .rw, "FAST_REPORT_MS", 0x64, [(0, 0), (0xA, 0xFF)], .free⟩, ⟨23, 16, .rw, "FW_MS", 0x96, [(1, 0xFF)], .free⟩]⟩,
  ⟨"STAT", 0x8, 1, 4, .wr, none, 0,
    [⟨24, 16, .ro, "SESS_NUM", 0, [], .free⟩, ⟨1, 1, .ro, "INHIBIT", 0, [], .free⟩, ⟨0, 0, .ro, "RUNNING", 0, [], .free⟩]⟩,
  ⟨"MAC_BASE_LO", 0xC, 1, 4, .wr, none, 1,
    [⟨31, 0, .rw, "VALUE", 0, [], .free⟩]⟩,
  ⟨"MAC_BASE_HI", 0x10, 1, 4, .wr, none, 2,
    [⟨15, 0, .rw, "MAC", 0, [], .free⟩]⟩,
  ⟨"RX_MSG_CNT", 0x20, 1, 4, .wr, none, 0,
    [⟨31, 0, .rc, "VALUE", 0, [], .free⟩]⟩,
  ⟨"DECODE_ERR_CNT", 0x24, 1, 4, .wr, none, 0,
    [⟨31, 0, .rc, "VALUE", 0, [], .free⟩]⟩,
  ⟨"VTUN_REJ_CNT", 0x28, 1, 4, .wr, none, 0,
    [⟨31, 0, .rc, "VALUE", 0, [], .free⟩]⟩,
  ⟨"FRAG_DROP_CNT", 0x2C, 1, 4, .wr, none, 0,
    [⟨31, 0, .rc, "VALUE", 0, [], .free⟩]⟩,
  ⟨"Q6_DROP", 0x30, 1, 4, .wr, none, 0,
    [⟨31, 0, .rc, "VALUE", 0, [], .free⟩]⟩,
  ⟨"Q7_REJ_CNT", 0x34, 1, 4, .wr, none, 0,
    [⟨31, 0, .rc, "VALUE", 0, [], .free⟩]⟩,
  ⟨"DISP_SEL", 0x40, 1, 4, .wr, none, 0,
    [⟨7, 0, .rw, "DISP", 0, [], .free⟩]⟩,
  ⟨"PUB_CEIL_MA", 0x1000, 256, 4, .wr, none, 0,
    [⟨31, 0, .ro, "VALUE", 0, [], .free⟩]⟩,
  ⟨"PUB_CEIL_W", 0x1400, 256, 4, .wr, none, 0,
    [⟨31, 0, .ro, "VALUE", 0, [], .free⟩]⟩,
  ⟨"PUB_LO_W", 0x1800, 256, 4, .wr, none, 0,
    [⟨31, 0, .ro, "VALUE", 0, [], .free⟩]⟩,
  ⟨"DCTL", 0x100, 1, 4, .wr, some ⟨0x40, 7, 0, 256⟩, 0,
    [⟨31, 31, .rw, "EN", 0, [], .sessIdle⟩, ⟨30, 30, .rw, "MTLS", 0, [], .sessIdle⟩, ⟨29, 24, .rw, "PROTO_EN", 0, [], .sessIdle⟩, ⟨23, 22, .rw, "PHY", 0, [(0, 2)], .sessIdle⟩, ⟨19, 16, .rw, "STATUS_MS", 2, [(1, 0xA)], .sessIdle⟩]⟩,
  ⟨"C_OUT", 0x104, 1, 4, .wr, some ⟨0x40, 7, 0, 256⟩, 0,
    [⟨31, 0, .rw, "VALUE", 0, [(0, 0x3D0900)], .sessIdle⟩]⟩,
  ⟨"C_CABLE", 0x108, 1, 4, .wr, some ⟨0x40, 7, 0, 256⟩, 0,
    [⟨31, 0, .rw, "VALUE", 0, [(0, 0x3D0900)], .sessIdle⟩]⟩,
  ⟨"C_EV_MAX", 0x10C, 1, 4, .wr, some ⟨0x40, 7, 0, 256⟩, 0,
    [⟨31, 0, .rw, "VALUE", 0, [(0, 0x3D0900)], .sessIdle⟩]⟩,
  ⟨"C_Y", 0x110, 1, 4, .wr, some ⟨0x40, 7, 0, 256⟩, 0,
    [⟨31, 0, .rw, "VALUE", 0, [(0, 0x3D0900)], .sessIdle⟩]⟩,
  ⟨"E_LIM", 0x114, 1, 4, .wr, some ⟨0x40, 7, 0, 256⟩, 0,
    [⟨31, 16, .rw, "E_REL_LIM", 0xC8, [], .sessIdle⟩, ⟨15, 0, .rw, "E_Y_LIM", 0xC8, [], .sessIdle⟩]⟩,
  ⟨"E_HOLD", 0x118, 1, 4, .wr, some ⟨0x40, 7, 0, 256⟩, 0,
    [⟨31, 16, .rw, "E_HOLD_LIM", 0x64, [], .sessIdle⟩, ⟨15, 0, .rw, "ISO_MIN", 0x1F4, [], .sessIdle⟩]⟩,
  ⟨"V_SAFE", 0x11C, 1, 4, .wr, some ⟨0x40, 7, 0, 256⟩, 0,
    [⟨31, 0, .rw, "VALUE", 0xEA60, [(0, 0x16E360)], .sessIdle⟩]⟩,
  ⟨"PRECHG_MA", 0x120, 1, 4, .wr, some ⟨0x40, 7, 0, 256⟩, 0,
    [⟨31, 0, .rw, "VALUE", 0x7D0, [(0x64, 0x186A0)], .sessIdle⟩]⟩]

def regsSESS_1 : List RegDesc := [
  ⟨"V_MAX", 0x124, 1, 4, .wr, some ⟨0x40, 7, 0, 256⟩, 0,
    [⟨31, 0, .rw, "VALUE", 0x1312D0, [(0, 0x16E360)], .sessIdle⟩]⟩,
  ⟨"TMO0", 0x128, 1, 4, .wr, some ⟨0x40, 7, 0, 256⟩, 0,
    [⟨31, 24, .rw, "LINK_S", 0x14, [(1, 0xFF)], .sessIdle⟩, ⟨23, 16, .rw, "SETUP_S", 0x3C, [(1, 0xFF)], .sessIdle⟩, ⟨15, 8, .rw, "SEQ_S", 0x3C, [(1, 0xFF)], .sessIdle⟩, ⟨7, 0, .rw, "CABLECHK_S", 0x26, [(1, 0xFF)], .sessIdle⟩]⟩,
  ⟨"TMO1", 0x12C, 1, 4, .wr, some ⟨0x40, 7, 0, 256⟩, 0,
    [⟨31, 16, .rw, "PRECHG_MS", 0x1B58, [(0x64, 0xFFFF)], .sessIdle⟩, ⟨15, 0, .rw, "LOOP_MS", 0x3E8, [(0x64, 0xFFFF)], .sessIdle⟩]⟩,
  ⟨"TMO2", 0x130, 1, 4, .wr, some ⟨0x40, 7, 0, 256⟩, 0,
    [⟨31, 16, .rw, "STOP_MS", 0x3E8, [(0x64, 0xFFFF)], .sessIdle⟩, ⟨15, 0, .rw, "DISCH_MS", 0x3E8, [(0x64, 0xFFFF)], .sessIdle⟩]⟩,
  ⟨"SSTAT", 0x140, 1, 4, .wr, some ⟨0x40, 7, 0, 256⟩, 0,
    [⟨31, 28, .ro, "STATE", 0, [], .free⟩, ⟨27, 24, .ro, "PROTO", 0, [], .free⟩, ⟨23, 16, .ro, "CAUSE", 0, [], .free⟩, ⟨15, 13, .ro, "PILOT", 0, [], .free⟩, ⟨12, 12, .ro, "LOCKED", 0, [], .free⟩, ⟨11, 11, .ro, "CONTACT", 0, [], .free⟩, ⟨10, 10, .ro, "DISCH", 0, [], .free⟩, ⟨9, 9, .ro, "TLS", 0, [], .free⟩, ⟨8, 8, .ro, "ENERGY_EN", 0, [], .free⟩, ⟨7, 7, .ro, "GATE_OK", 0, [], .free⟩]⟩,
  ⟨"EV_TGT_MA", 0x144, 1, 4, .wr, some ⟨0x40, 7, 0, 256⟩, 0,
    [⟨31, 0, .ro, "VALUE", 0, [], .free⟩]⟩,
  ⟨"EV_TGT_MV", 0x148, 1, 4, .wr, some ⟨0x40, 7, 0, 256⟩, 0,
    [⟨31, 0, .ro, "VALUE", 0, [], .free⟩]⟩,
  ⟨"EV_MAX_MA", 0x14C, 1, 4, .wr, some ⟨0x40, 7, 0, 256⟩, 0,
    [⟨31, 0, .ro, "VALUE", 0, [], .free⟩]⟩,
  ⟨"EV_MAX_W", 0x150, 1, 4, .wr, some ⟨0x40, 7, 0, 256⟩, 0,
    [⟨31, 0, .ro, "VALUE", 0, [], .free⟩]⟩,
  ⟨"EV_MAX_DIS_W", 0x154, 1, 4, .wr, some ⟨0x40, 7, 0, 256⟩, 0,
    [⟨31, 0, .ro, "VALUE", 0, [], .free⟩]⟩,
  ⟨"GATE", 0x158, 1, 4, .wr, some ⟨0x40, 7, 0, 256⟩, 0,
    [⟨31, 16, .ro, "ENERGY", 0, [], .free⟩, ⟨15, 8, .ro, "GATE", 0, [], .free⟩, ⟨0, 0, .ro, "FAILED", 0, [], .free⟩]⟩,
  ⟨"START_LO", 0x15C, 1, 4, .wr, some ⟨0x40, 7, 0, 256⟩, 1,
    [⟨31, 0, .ro, "VALUE", 0, [], .free⟩]⟩,
  ⟨"START_HI", 0x160, 1, 4, .wr, some ⟨0x40, 7, 0, 256⟩, 2,
    [⟨31, 0, .ro, "VALUE", 0, [], .free⟩]⟩,
  ⟨"TLS_CTX", 0x164, 1, 4, .wr, some ⟨0x40, 7, 0, 256⟩, 0,
    [⟨31, 31, .ro, "ACTIVE", 0, [], .free⟩, ⟨8, 0, .ro, "CTX", 0, [], .free⟩]⟩]

/-- Chapter 07: the registers of SESS. -/
def descsSESS : List RegDesc := (regsSESS_0 ++ regsSESS_1) ++ commonRegs 7 .wr

def regsXCR : List RegDesc := [
  ⟨"CTRL", 0x0, 1, 4, .wr, none, 0,
    [⟨0, 0, .rw, "EN", 1, [], .free⟩]⟩,
  ⟨"STAT", 0x4, 1, 4, .wr, none, 0,
    [⟨9, 0, .ro, "CTX_USED", 0, [], .free⟩]⟩,
  ⟨"KEY_REF", 0x8, 1, 4, .wr, none, 0,
    [⟨15, 8, .rw, "P521_SLOT", 0, [], .free⟩, ⟨7, 0, .rw, "ED448_SLOT", 0, [], .free⟩]⟩,
  ⟨"CERT_SEL", 0x40, 1, 4, .wr, none, 0,
    [⟨31, 30, .rw, "KIND", 0, [(0, 2)], .free⟩, ⟨15, 12, .rw, "ANCHOR", 0, [], .free⟩]⟩,
  ⟨"CERT_DATA", 0x44, 1, 4, .wr, none, 0,
    [⟨31, 0, .rw, "VALUE", 0, [], .free⟩]⟩,
  ⟨"CERT_CTL", 0x48, 1, 4, .wr, none, 0,
    [⟨31, 16, .rw, "LEN", 0, [], .free⟩, ⟨1, 1, .ro, "REJ", 0, [], .free⟩, ⟨0, 0, .rw, "COMMIT", 0, [], .free⟩]⟩,
  ⟨"HS_CNT", 0x60, 1, 4, .wr, none, 0,
    [⟨31, 0, .rc, "VALUE", 0, [], .free⟩]⟩,
  ⟨"HS_FAIL_CNT", 0x64, 1, 4, .wr, none, 0,
    [⟨31, 0, .rc, "VALUE", 0, [], .free⟩]⟩,
  ⟨"ALERT_CNT", 0x68, 1, 4, .wr, none, 0,
    [⟨31, 0, .rc, "VALUE", 0, [], .free⟩]⟩,
  ⟨"CTX_FULL_CNT", 0x6C, 1, 4, .wr, none, 0,
    [⟨31, 0, .rc, "VALUE", 0, [], .free⟩]⟩]

/-- Chapter 07: the registers of XCR. -/
def descsXCR : List RegDesc := regsXCR ++ commonRegs 4 .wr

def regsFAB : List RegDesc := [
  ⟨"CTRL", 0x0, 1, 4, .wr, none, 0,
    [⟨7, 4, .rw, "PORT_EN", 0, [], .free⟩, ⟨3, 3, .rw, "PTP_EN", 0, [], .free⟩, ⟨2, 1, .rw, "ROLE", 0, [(0, 1)], .free⟩, ⟨0, 0, .rw, "EN", 0, [], .free⟩]⟩,
  ⟨"ATK_CFG", 0x4, 1, 4, .wr, none, 0,
    [⟨31, 16, .rw, "UDP_PORT", 0xA866, [], .free⟩, ⟨9, 0, .rw, "REPLAY_MS", 0x32, [(5, 0x3E8)], .free⟩]⟩,
  ⟨"PTP_CFG", 0x8, 1, 4, .wr, none, 0,
    [⟨31, 24, .rw, "DOMAIN", 0, [(0, 0x7F)], .free⟩, ⟨23, 16, .rw, "PRIO1", 0x80, [], .free⟩, ⟨15, 8, .rw, "PRIO2", 0x80, [], .free⟩, ⟨3, 2, .rw, "DELAY", 0, [(0, 1)], .free⟩, ⟨1, 0, .rw, "TRANSPORT", 0, [(0, 2)], .free⟩]⟩,
  ⟨"PTP_STAT", 0xC, 1, 4, .wr, none, 0,
    [⟨31, 31, .ro, "HELD", 0, [], .free⟩, ⟨30, 28, .ro, "STATE", 0, [], .free⟩, ⟨27, 24, .ro, "PORT", 0, [], .free⟩, ⟨23, 0, .ro, "OFFSET", 0, [], .free⟩]⟩,
  ⟨"PTP_RATE", 0x10, 1, 4, .wr, none, 0,
    [⟨31, 0, .ro, "VALUE", 0, [], .free⟩]⟩,
  ⟨"PORT_STAT", 0x20, 4, 4, .wr, none, 0,
    [⟨1, 1, .ro, "BLOCK_LOCK", 0, [], .free⟩, ⟨0, 0, .ro, "LINK", 0, [], .free⟩]⟩,
  ⟨"PORT_VLAN", 0x30, 4, 4, .wr, none, 0,
    [⟨31, 31, .rw, "TAG", 0, [], .free⟩, ⟨11, 0, .rw, "VID", 0, [], .free⟩]⟩,
  ⟨"MCAST4", 0x40, 1, 4, .wr, none, 0,
    [⟨31, 0, .rw, "VALUE", 0, [], .free⟩]⟩,
  ⟨"MCAST6", 0x44, 4, 4, .wr, none, 0,
    [⟨31, 0, .rw, "VALUE", 0, [], .free⟩]⟩,
  ⟨"NODE_SEL", 0x60, 1, 4, .wr, none, 0,
    [⟨12, 0, .rw, "NODE", 0, [], .free⟩]⟩,
  ⟨"NODE_WIN", 0x64, 6, 4, .wr, none, 0,
    [⟨31, 0, .ro, "VALUE", 0, [], .free⟩]⟩,
  ⟨"RX_MSG_CNT", 0x100, 1, 4, .wr, none, 0,
    [⟨31, 0, .rc, "VALUE", 0, [], .free⟩]⟩,
  ⟨"TX_MSG_CNT", 0x104, 1, 4, .wr, none, 0,
    [⟨31, 0, .rc, "VALUE", 0, [], .free⟩]⟩,
  ⟨"FORMAT_CNT", 0x108, 1, 4, .wr, none, 0,
    [⟨31, 0, .rc, "VALUE", 0, [], .free⟩]⟩,
  ⟨"DST_DROP_CNT", 0x10C, 1, 4, .wr, none, 0,
    [⟨31, 0, .rc, "VALUE", 0, [], .free⟩]⟩,
  ⟨"NOKEY_CNT", 0x110, 1, 4, .wr, none, 0,
    [⟨31, 0, .rc, "VALUE", 0, [], .free⟩]⟩,
  ⟨"TAG_FAIL_CNT", 0x114, 1, 4, .wr, none, 0,
    [⟨31, 0, .rc, "VALUE", 0, [], .free⟩]⟩,
  ⟨"TIME_REJ_CNT", 0x118, 1, 4, .wr, none, 0,
    [⟨31, 0, .rc, "VALUE", 0, [], .free⟩]⟩,
  ⟨"SEQ_REJ_CNT", 0x11C, 1, 4, .wr, none, 0,
    [⟨31, 0, .rc, "VALUE", 0, [], .free⟩]⟩,
  ⟨"TX_NOPATH_CNT", 0x120, 1, 4, .wr, none, 0,
    [⟨31, 0, .rc, "VALUE", 0, [], .free⟩]⟩,
  ⟨"Q10_DROP", 0x124, 1, 4, .wr, none, 0,
    [⟨31, 0, .rc, "VALUE", 0, [], .free⟩]⟩,
  ⟨"Q11_REJ_CNT", 0x128, 1, 4, .wr, none, 0,
    [⟨31, 0, .rc, "VALUE", 0, [], .free⟩]⟩]

/-- Chapter 08: the registers of FAB. -/
def descsFAB : List RegDesc := regsFAB ++ commonRegs 10 .wr

def regsCAN_0 : List RegDesc := [
  ⟨"CTRL", 0x0, 1, 4, .wr, none, 0,
    [⟨4, 4, .rw, "ROM", 0, [], .free⟩, ⟨3, 3, .rw, "XL_EN", 0, [], .free⟩, ⟨2, 2, .rw, "FD_EN", 0, [], .free⟩, ⟨0, 0, .rw, "EN", 0, [], .free⟩]⟩,
  ⟨"NBT", 0x4, 1, 4, .wr, none, 0,
    [⟨31, 24, .rw, "BRP", 4, [(1, 0xFF)], .free⟩, ⟨23, 16, .rw, "TSEG1", 0x4F, [(1, 0xFF)], .free⟩, ⟨15, 8, .rw, "TSEG2", 0x14, [(1, 0x7F)], .free⟩, ⟨7, 0, .rw, "SJW", 0x14, [(1, 0x7F)], .free⟩]⟩,
  ⟨"DBT", 0x8, 1, 4, .wr, none, 0,
    [⟨31, 24, .rw, "BRP", 1, [(1, 0xFF)], .free⟩, ⟨23, 16, .rw, "TSEG1", 0x4F, [(1, 0xFF)], .free⟩, ⟨15, 8, .rw, "TSEG2", 0x14, [(1, 0x7F)], .free⟩, ⟨7, 0, .rw, "SJW", 0x14, [(1, 0x7F)], .free⟩]⟩,
  ⟨"XBT", 0xC, 1, 4, .wr, none, 0,
    [⟨31, 24, .rw, "BRP", 1, [(1, 0xFF)], .free⟩, ⟨23, 16, .rw, "TSEG1", 0x13, [(1, 0xFF)], .free⟩, ⟨15, 8, .rw, "TSEG2", 5, [(1, 0x7F)], .free⟩, ⟨7, 0, .rw, "SJW", 5, [(1, 0x7F)], .free⟩]⟩,
  ⟨"XL_CFG", 0x10, 1, 4, .wr, none, 0,
    [⟨31, 24, .rw, "SDT", 0, [], .free⟩, ⟨23, 16, .rw, "VCID", 0, [], .free⟩, ⟨0, 0, .rw, "TMS_EN", 0, [], .free⟩]⟩,
  ⟨"ATK_CFG", 0x14, 1, 4, .wr, none, 0,
    [⟨29, 16, .rw, "MARK", 0xA7A, [], .free⟩, ⟨13, 8, .rw, "OWN_ADDR", 0, [(0, 0x3E)], .free⟩, ⟨7, 0, .rw, "SEG_TMO_MS", 0xA, [(1, 0xFF)], .free⟩]⟩,
  ⟨"STAT", 0x18, 1, 4, .wr, none, 0,
    [⟨31, 29, .ro, "STATE", 0, [], .free⟩, ⟨24, 16, .ro, "TEC", 0, [], .free⟩, ⟨15, 8, .ro, "REC", 0, [], .free⟩, ⟨7, 0, .ro, "BO_SEQ", 0, [], .free⟩]⟩,
  ⟨"TS_MS", 0x1C, 1, 4, .wr, none, 0,
    [⟨9, 0, .rw, "MS", 0x64, [(0, 0), (0xA, 0x3E8)], .free⟩]⟩,
  ⟨"FLT_SEL", 0x20, 1, 4, .wr, none, 0,
    [⟨5, 0, .rw, "FLT", 0, [], .free⟩]⟩,
  ⟨"TX_CNT", 0x100, 1, 4, .wr, none, 0,
    [⟨31, 0, .rc, "VALUE", 0, [], .free⟩]⟩,
  ⟨"RX_CNT", 0x104, 1, 4, .wr, none, 0,
    [⟨31, 0, .rc, "VALUE", 0, [], .free⟩]⟩,
  ⟨"ERR_FRAME_CNT", 0x108, 1, 4, .wr, none, 0,
    [⟨31, 0, .rc, "VALUE", 0, [], .free⟩]⟩,
  ⟨"HP_LOST_CNT", 0x10C, 1, 4, .wr, none, 0,
    [⟨31, 0, .rc, "VALUE", 0, [], .free⟩]⟩,
  ⟨"RX_OVR_CNT", 0x110, 1, 4, .wr, none, 0,
    [⟨31, 0, .rc, "VALUE", 0, [], .free⟩]⟩,
  ⟨"FLT_MISS_CNT", 0x114, 1, 4, .wr, none, 0,
    [⟨31, 0, .rc, "VALUE", 0, [], .free⟩]⟩,
  ⟨"ATK_SEG_DROP_CNT", 0x118, 1, 4, .wr, none, 0,
    [⟨31, 0, .rc, "VALUE", 0, [], .free⟩]⟩,
  ⟨"Q12_DROP", 0x11C, 1, 4, .wr, none, 0,
    [⟨31, 0, .rc, "VALUE", 0, [], .free⟩]⟩,
  ⟨"TXQ_CTL", 0x200, 1, 4, .wr, none, 0,
    [⟨21, 16, .ro, "READY_NUM", 0, [], .free⟩, ⟨12, 8, .rw, "ENTRY", 0, [], .free⟩, ⟨2, 2, .wo, "FLUSH", 0, [], .free⟩, ⟨1, 1, .wo, "CANCEL", 0, [], .free⟩, ⟨0, 0, .w1s, "READY", 0, [], .free⟩]⟩,
  ⟨"RX_SEL", 0x300, 1, 4, .wr, none, 0,
    [⟨5, 0, .rw, "ENTRY", 0, [], .free⟩]⟩,
  ⟨"RX_ID", 0x304, 1, 4, .wr, none, 0,
    [⟨31, 0, .ro, "VALUE", 0, [], .free⟩]⟩,
  ⟨"RX_CTL", 0x308, 1, 4, .wr, none, 0,
    [⟨31, 0, .ro, "VALUE", 0, [], .free⟩]⟩,
  ⟨"RX_TIME_LO", 0x30C, 1, 4, .wr, none, 1,
    [⟨31, 0, .ro, "VALUE", 0, [], .free⟩]⟩,
  ⟨"RX_TIME_HI", 0x310, 1, 4, .wr, none, 2,
    [⟨31, 0, .ro, "VALUE", 0, [], .free⟩]⟩,
  ⟨"RX_DATA", 0x314, 1, 4, .wr, none, 0,
    [⟨31, 0, .ro, "VALUE", 0, [], .free⟩]⟩]

def regsCAN_1 : List RegDesc := [
  ⟨"RX_ACK", 0x318, 1, 4, .wr, none, 0,
    [⟨5, 0, .wo, "ENTRY", 0, [], .free⟩]⟩,
  ⟨"RX_FULL_MAP", 0x320, 2, 4, .wr, none, 0,
    [⟨31, 0, .ro, "VALUE", 0, [], .free⟩]⟩,
  ⟨"HP_ID", 0x400, 1, 4, .wr, none, 0,
    [⟨31, 0, .ro, "VALUE", 0, [], .free⟩]⟩,
  ⟨"HP_CTL", 0x404, 1, 4, .wr, none, 0,
    [⟨31, 31, .w1c, "FULL", 0, [], .free⟩, ⟨6, 0, .ro, "LEN", 0, [], .free⟩]⟩,
  ⟨"HP_DATA", 0x440, 16, 4, .wr, none, 0,
    [⟨31, 0, .ro, "VALUE", 0, [], .free⟩]⟩,
  ⟨"FLT_CFG", 0x24, 1, 4, .wr, some ⟨0x20, 5, 0, 64⟩, 0,
    [⟨31, 31, .rw, "EN", 0, [], .free⟩, ⟨30, 29, .rw, "FMT", 0, [], .free⟩, ⟨28, 27, .rw, "ACTION", 0, [], .free⟩]⟩,
  ⟨"FLT_ID", 0x28, 1, 4, .wr, some ⟨0x20, 5, 0, 64⟩, 0,
    [⟨28, 0, .rw, "ID", 0, [], .free⟩]⟩,
  ⟨"FLT_MASK", 0x2C, 1, 4, .wr, some ⟨0x20, 5, 0, 64⟩, 0,
    [⟨28, 0, .rw, "MASK", 0, [], .free⟩]⟩,
  ⟨"TX_ID", 0x204, 1, 4, .wr, some ⟨0x200, 12, 8, 32⟩, 0,
    [⟨31, 31, .rw, "XTD", 0, [], .txFree⟩, ⟨30, 29, .rw, "FMT", 0, [], .txFree⟩, ⟨28, 0, .rw, "ID", 0, [], .txFree⟩]⟩,
  ⟨"TX_CTL", 0x208, 1, 4, .wr, some ⟨0x200, 12, 8, 32⟩, 0,
    [⟨31, 28, .rw, "RETRY", 7, [], .txFree⟩, ⟨27, 27, .rw, "BRS", 0, [], .txFree⟩, ⟨26, 26, .rw, "RTR", 0, [], .txFree⟩, ⟨10, 0, .rw, "LEN", 0, [], .txFree⟩]⟩,
  ⟨"TX_DATA", 0x20C, 1, 4, .wr, some ⟨0x200, 12, 8, 32⟩, 0,
    [⟨31, 0, .wo, "VALUE", 0, [], .txFree⟩]⟩]

/-- Chapter 08: the registers of CAN. -/
def descsCAN : List RegDesc := (regsCAN_0 ++ regsCAN_1) ++ commonRegs 8 .wr

def regsT1S : List RegDesc := [
  ⟨"SEG_CFG", 0x100, 8, 0x10, .wr, none, 0,
    [⟨31, 31, .rw, "EN", 0, [], .free⟩, ⟨20, 16, .rw, "PLCA_ID", 0, [], .free⟩, ⟨15, 8, .rw, "NODE_CNT", 8, [(2, 0x20)], .free⟩, ⟨7, 0, .rw, "BURST_CNT", 0, [], .free⟩]⟩,
  ⟨"SEG_TMR", 0x104, 8, 0x10, .wr, none, 0,
    [⟨31, 16, .rw, "BURST_TMR", 0x80, [], .free⟩, ⟨15, 0, .rw, "TO_TMR", 0x20, [], .free⟩]⟩,
  ⟨"SEG_STAT", 0x108, 8, 0x10, .wr, none, 0,
    [⟨1, 1, .ro, "ED", 0, [], .free⟩, ⟨0, 0, .ro, "PLCA_OK", 0, [], .free⟩]⟩,
  ⟨"SEG_COL_CNT", 0x10C, 8, 0x10, .wr, none, 0,
    [⟨31, 0, .rc, "VALUE", 0, [], .free⟩]⟩]

/-- Chapter 08: the registers of T1S. -/
def descsT1S : List RegDesc := regsT1S ++ commonRegs 16 .wr

def regsSPN : List RegDesc := [
  ⟨"CTRL", 0x0, 1, 4, .wr, none, 0,
    [⟨8, 8, .wo, "TM_REFRESH", 0, [], .free⟩, ⟨4, 4, .rw, "FORCE_ROBUST", 0, [], .free⟩, ⟨3, 2, .rw, "COUPLING", 0, [], .spnOff⟩, ⟨1, 1, .rw, "COORD", 0, [], .free⟩, ⟨0, 0, .rw, "EN", 0, [], .free⟩]⟩,
  ⟨"CFG", 0x4, 1, 4, .wr, none, 0,
    [⟨31, 24, .rw, "BCN_MS", 0x32, [(0xA, 0xC8)], .spnOff⟩, ⟨23, 10, .rw, "NET_ID", 0, [(1, 0x3FFF)], .spnOff⟩, ⟨9, 0, .rw, "OWN_ADDR", 0, [], .spnOff⟩]⟩,
  ⟨"MAC_CFG", 0x8, 1, 4, .wr, none, 0,
    [⟨31, 28, .rw, "RETRY_MAX", 8, [(1, 0xF)], .free⟩, ⟨27, 24, .rw, "ROBUST_AFTER", 2, [(1, 0xF)], .free⟩, ⟨23, 20, .rw, "TM_DROP_DB", 6, [(1, 0xF)], .free⟩, ⟨19, 16, .rw, "TM_MARGIN_DB", 3, [], .free⟩, ⟨15, 8, .rw, "HYST_PCT", 0x14, [(0, 0x32)], .free⟩, ⟨4, 0, .rw, "TX_ATT", 0, [(0, 0x1E)], .free⟩]⟩,
  ⟨"STAT", 0xC, 1, 4, .wr, none, 0,
    [⟨25, 16, .ro, "JOINED", 0, [], .free⟩, ⟨3, 3, .ro, "ROUTE_VALID", 0, [], .free⟩, ⟨2, 2, .ro, "SYNC", 0, [], .free⟩, ⟨1, 1, .ro, "COORD_ACT", 0, [], .free⟩, ⟨0, 0, .ro, "RUNNING", 0, [], .free⟩]⟩,
  ⟨"TS_MS", 0x10, 1, 4, .wr, none, 0,
    [⟨9, 0, .rw, "MS", 0x64, [(0, 0), (0xA, 0x3E8)], .free⟩]⟩,
  ⟨"TX_FRAME_CNT", 0x40, 1, 4, .wr, none, 0,
    [⟨31, 0, .rc, "VALUE", 0, [], .free⟩]⟩,
  ⟨"RX_FRAME_CNT", 0x44, 1, 4, .wr, none, 0,
    [⟨31, 0, .rc, "VALUE", 0, [], .free⟩]⟩,
  ⟨"FC_ERR_CNT", 0x48, 1, 4, .wr, none, 0,
    [⟨31, 0, .rc, "VALUE", 0, [], .free⟩]⟩,
  ⟨"PB_ERR_CNT", 0x4C, 1, 4, .wr, none, 0,
    [⟨31, 0, .rc, "VALUE", 0, [], .free⟩]⟩,
  ⟨"RETX_CNT", 0x50, 1, 4, .wr, none, 0,
    [⟨31, 0, .rc, "VALUE", 0, [], .free⟩]⟩,
  ⟨"ROBUST_CNT", 0x54, 1, 4, .wr, none, 0,
    [⟨31, 0, .rc, "VALUE", 0, [], .free⟩]⟩,
  ⟨"DROP_CNT", 0x58, 1, 4, .wr, none, 0,
    [⟨31, 0, .rc, "VALUE", 0, [], .free⟩]⟩,
  ⟨"TM_UPD_CNT", 0x5C, 1, 4, .wr, none, 0,
    [⟨31, 0, .rc, "VALUE", 0, [], .free⟩]⟩,
  ⟨"ROUTE_CHG_CNT", 0x60, 1, 4, .wr, none, 0,
    [⟨31, 0, .rc, "VALUE", 0, [], .free⟩]⟩,
  ⟨"LD_OVC_CNT", 0x64, 1, 4, .wr, none, 0,
    [⟨31, 0, .rc, "VALUE", 0, [], .free⟩]⟩,
  ⟨"Q13_DROP", 0x68, 1, 4, .wr, none, 0,
    [⟨31, 0, .rc, "VALUE", 0, [], .free⟩]⟩,
  ⟨"NBR_SEL", 0x100, 1, 4, .wr, none, 0,
    [⟨9, 0, .rw, "NODE", 0, [], .free⟩]⟩,
  ⟨"NBR_WIN", 0x104, 4, 4, .wr, none, 0,
    [⟨31, 0, .ro, "VALUE", 0, [], .free⟩]⟩,
  ⟨"RT_SEL", 0x140, 1, 4, .wr, none, 0,
    [⟨10, 10, .rw, "UNIT", 0, [], .free⟩, ⟨9, 0, .rw, "NODE", 0, [], .free⟩]⟩,
  ⟨"RT_WIN", 0x144, 3, 4, .wr, none, 0,
    [⟨31, 0, .ro, "VALUE", 0x3FF, [], .free⟩]⟩,
  ⟨"MASK", 0x200, 37, 4, .wr, none, 0,
    [⟨31, 0, .rw, "VALUE", 0, [], .spnOff⟩]⟩]

/-- Chapter 09: the registers of SPN. -/
def descsSPN : List RegDesc := regsSPN ++ commonRegs 10 .wr

def regsHOST : List RegDesc := [
  ⟨"PCIE_STAT", 0x0, 1, 4, .wr, none, 0,
    [⟨7, 4, .ro, "SPEED", 0, [], .free⟩, ⟨3, 1, .ro, "WIDTH", 0, [], .free⟩, ⟨0, 0, .ro, "LINK_UP", 0, [], .free⟩]⟩,
  ⟨"RING_BASE_LO", 0x10, 1, 4, .wr, none, 1,
    [⟨31, 0, .rw, "VALUE", 0, [], .free⟩]⟩,
  ⟨"RING_BASE_HI", 0x14, 1, 4, .wr, none, 2,
    [⟨31, 0, .rw, "VALUE", 0, [], .free⟩]⟩,
  ⟨"RING_SIZE", 0x18, 1, 4, .wr, none, 0,
    [⟨16, 0, .rw, "ENTRIES", 0, [(0, 0), (0x40, 0x40), (0x80, 0x80), (0x100, 0x100), (0x200, 0x200), (0x400, 0x400), (0x800, 0x800), (0x1000, 0x1000), (0x2000, 0x2000), (0x4000, 0x4000), (0x8000, 0x8000), (0x10000, 0x10000)], .free⟩]⟩,
  ⟨"RING_WR", 0x1C, 1, 4, .wr, none, 0,
    [⟨15, 0, .ro, "IDX", 0, [], .free⟩]⟩,
  ⟨"OUT_LO", 0x20, 1, 4, .wr, none, 1,
    [⟨31, 0, .wo, "VALUE", 0, [], .free⟩]⟩,
  ⟨"OUT_HI", 0x24, 1, 4, .wr, none, 2,
    [⟨31, 0, .wo, "VALUE", 0, [], .free⟩]⟩,
  ⟨"OUT_STAT", 0x28, 1, 4, .wr, none, 0,
    [⟨0, 0, .ro, "FULL", 0, [], .free⟩]⟩,
  ⟨"MGMT_CTL", 0x40, 1, 4, .wr, none, 0,
    [⟨31, 31, .rw, "EN", 0, [], .free⟩, ⟨1, 0, .rw, "SPEED", 2, [(0, 2)], .free⟩]⟩,
  ⟨"MGMT_MAC_LO", 0x44, 1, 4, .wr, none, 1,
    [⟨31, 0, .rw, "VALUE", 0, [], .free⟩]⟩,
  ⟨"MGMT_MAC_HI", 0x48, 1, 4, .wr, none, 2,
    [⟨15, 0, .rw, "MAC", 0, [], .free⟩]⟩]

/-- Chapter 08: the registers of HOST. -/
def descsHOST : List RegDesc := regsHOST ++ commonRegs 4 .wr

def regsMTR_0 : List RegDesc := [
  ⟨"STAT", 0x0, 1, 4, .wr, none, 0,
    [⟨7, 7, .ro, "PROFILE_HALT", 0, [], .free⟩, ⟨6, 6, .ro, "LEDGER_SYNC", 0, [], .free⟩, ⟨5, 5, .ro, "PENDING", 0, [], .free⟩, ⟨4, 4, .ro, "CAL_NONE", 1, [], .free⟩, ⟨0, 0, .ro, "RUNNING", 0, [], .free⟩]⟩,
  ⟨"CHECK_HI", 0x4, 1, 4, .wr, none, 0,
    [⟨31, 0, .ro, "VALUE", 0, [], .free⟩]⟩,
  ⟨"CHECK_LO", 0x8, 1, 4, .wr, none, 0,
    [⟨31, 0, .ro, "VALUE", 0, [], .free⟩]⟩,
  ⟨"LEGAL_TIME_LO", 0x10, 1, 4, .wr, none, 1,
    [⟨31, 0, .ro, "VALUE", 0, [], .free⟩]⟩,
  ⟨"LEGAL_TIME_HI", 0x14, 1, 4, .wr, none, 2,
    [⟨31, 0, .ro, "VALUE", 0, [], .free⟩]⟩,
  ⟨"CLK_STAT", 0x18, 1, 4, .wr, none, 0,
    [⟨31, 31, .ro, "FAULT", 0, [], .free⟩, ⟨30, 30, .ro, "SLEWING", 0, [], .free⟩, ⟨29, 29, .ro, "RTC_LOST", 0, [], .free⟩, ⟨28, 28, .ro, "UTC_FROM_PTP", 0, [], .free⟩, ⟨15, 0, .ro, "TAI_UTC", 0, [], .free⟩]⟩,
  ⟨"D_OFS", 0x1C, 1, 4, .wr, none, 0,
    [⟨31, 0, .ro, "VALUE", 0, [], .free⟩]⟩,
  ⟨"ADJ_MS", 0x20, 1, 4, .wr, none, 0,
    [⟨31, 0, .ro, "VALUE", 0, [], .free⟩]⟩,
  ⟨"IV", 0x24, 1, 4, .wr, none, 0,
    [⟨31, 0, .ro, "VALUE", 0, [], .free⟩]⟩,
  ⟨"SEAL", 0x28, 1, 4, .wr, none, 0,
    [⟨31, 31, .ro, "OPEN", 0, [], .free⟩, ⟨13, 8, .ro, "COUNT", 0, [], .free⟩, ⟨7, 0, .ro, "PERM_FREE", 0, [], .free⟩]⟩,
  ⟨"CAL_ACTIVE", 0x2C, 1, 4, .wr, none, 0,
    [⟨31, 0, .ro, "VALUE", 0, [], .free⟩]⟩,
  ⟨"CAL_PENDING", 0x30, 1, 4, .wr, none, 0,
    [⟨31, 0, .ro, "VALUE", 0, [], .free⟩]⟩,
  ⟨"CAL_ACT_LO", 0x34, 1, 4, .wr, none, 1,
    [⟨31, 0, .ro, "VALUE", 0, [], .free⟩]⟩,
  ⟨"CAL_ACT_HI", 0x38, 1, 4, .wr, none, 2,
    [⟨31, 0, .ro, "VALUE", 0, [], .free⟩]⟩,
  ⟨"ARCH_STAT", 0x3C, 1, 4, .wr, none, 0,
    [⟨31, 28, .ro, "FULL", 0, [], .free⟩, ⟨27, 27, .ro, "FAULT", 0, [], .free⟩]⟩,
  ⟨"TOK_STAT", 0x40, 1, 4, .wr, none, 0,
    [⟨23, 0, .ro, "LOW_TID", 0, [], .free⟩]⟩,
  ⟨"TOK_FILL", 0x44, 1, 4, .wr, none, 0,
    [⟨16, 0, .ro, "FILL", 0, [], .free⟩]⟩,
  ⟨"LEDGER_SEQ_LO", 0x48, 1, 4, .wr, none, 1,
    [⟨31, 0, .ro, "VALUE", 0, [], .free⟩]⟩,
  ⟨"LEDGER_SEQ_HI", 0x4C, 1, 4, .wr, none, 2,
    [⟨31, 0, .ro, "VALUE", 0, [], .free⟩]⟩,
  ⟨"Q8_DROP", 0x50, 1, 4, .wr, none, 0,
    [⟨31, 0, .rc, "VALUE", 0, [], .free⟩]⟩,
  ⟨"MBX_CMD", 0x100, 1, 4, .wr, none, 0,
    [⟨7, 0, .wo, "CMD", 0, [], .free⟩]⟩,
  ⟨"MBX_ARG", 0x104, 4, 4, .wr, none, 0,
    [⟨31, 0, .rw, "VALUE", 0, [], .mtrMbx⟩]⟩,
  ⟨"MBX_STAT", 0x114, 1, 4, .wr, none, 0,
    [⟨31, 31, .ro, "BUSY", 0, [], .free⟩, ⟨30, 30, .ro, "DONE", 0, [], .free⟩, ⟨23, 16, .ro, "RESULT", 0, [], .free⟩, ⟨15, 8, .ro, "CMD", 0, [], .free⟩]⟩,
  ⟨"MBX_RET", 0x118, 1, 4, .wr, none, 0,
    [⟨31, 0, .ro, "VALUE", 0, [], .free⟩]⟩]

def regsMTR_1 : List RegDesc := [
  ⟨"CH_SEL", 0x200, 1, 4, .wr, none, 0,
    [⟨8, 0, .rw, "CH", 0, [(0, 0x107)], .free⟩]⟩,
  ⟨"MBX_DATA", 0x1000, 1024, 4, .wr, none, 0,
    [⟨31, 0, .rw, "VALUE", 0, [], .mtrMbx⟩]⟩,
  ⟨"CAL_V_GAIN", 0x600, 8, 0x20, .wr, none, 0,
    [⟨31, 0, .sw, "VALUE", 0x40000000, [], .cal⟩]⟩,
  ⟨"CAL_I_GAIN", 0x604, 8, 0x20, .wr, none, 0,
    [⟨31, 0, .sw, "VALUE", 0x40000000, [], .cal⟩]⟩,
  ⟨"CAL_V_OFS", 0x608, 8, 0x20, .wr, none, 0,
    [⟨31, 0, .sw, "VALUE", 0, [], .cal⟩]⟩,
  ⟨"CAL_I_OFS", 0x60C, 8, 0x20, .wr, none, 0,
    [⟨31, 0, .sw, "VALUE", 0, [], .cal⟩]⟩,
  ⟨"CAL_PH_CORR", 0x610, 8, 0x20, .wr, none, 0,
    [⟨31, 0, .sw, "VALUE", 0, [], .cal⟩]⟩,
  ⟨"CAL_STAMP", 0x614, 8, 0x20, .wr, none, 0,
    [⟨31, 0, .ro, "VALUE", 0, [], .free⟩]⟩,
  ⟨"CSTAT", 0x400, 1, 4, .wr, some ⟨0x200, 8, 0, 264⟩, 0,
    [⟨31, 29, .ro, "STATE", 0, [], .free⟩, ⟨8, 8, .ro, "TXN_OPEN", 0, [], .free⟩, ⟨7, 7, .ro, "PREPAY", 0, [], .free⟩, ⟨6, 6, .ro, "HEAD_ERR", 0, [], .free⟩, ⟨5, 5, .ro, "CARRY", 0, [], .free⟩, ⟨4, 4, .ro, "LOCKED", 0, [], .free⟩, ⟨3, 0, .ro, "TARIFF", 0, [], .free⟩]⟩,
  ⟨"LAST_SEQ", 0x404, 1, 4, .wr, some ⟨0x200, 8, 0, 264⟩, 0,
    [⟨31, 0, .ro, "VALUE", 0, [], .free⟩]⟩,
  ⟨"LAST_MEAS_LO", 0x408, 1, 4, .wr, some ⟨0x200, 8, 0, 264⟩, 1,
    [⟨31, 0, .ro, "VALUE", 0, [], .free⟩]⟩,
  ⟨"LAST_MEAS_HI", 0x40C, 1, 4, .wr, some ⟨0x200, 8, 0, 264⟩, 2,
    [⟨31, 0, .ro, "VALUE", 0, [], .free⟩]⟩,
  ⟨"TOT_IMP_LO", 0x410, 1, 4, .wr, some ⟨0x200, 8, 0, 264⟩, 1,
    [⟨31, 0, .ro, "VALUE", 0, [], .free⟩]⟩,
  ⟨"TOT_IMP_HI", 0x414, 1, 4, .wr, some ⟨0x200, 8, 0, 264⟩, 2,
    [⟨31, 0, .ro, "VALUE", 0, [], .free⟩]⟩,
  ⟨"TOT_EXP_LO", 0x418, 1, 4, .wr, some ⟨0x200, 8, 0, 264⟩, 1,
    [⟨31, 0, .ro, "VALUE", 0, [], .free⟩]⟩,
  ⟨"TOT_EXP_HI", 0x41C, 1, 4, .wr, some ⟨0x200, 8, 0, 264⟩, 2,
    [⟨31, 0, .ro, "VALUE", 0, [], .free⟩]⟩,
  ⟨"HEAD_IMP_LO", 0x420, 1, 4, .wr, some ⟨0x200, 8, 0, 264⟩, 1,
    [⟨31, 0, .ro, "VALUE", 0, [], .free⟩]⟩,
  ⟨"HEAD_IMP_HI", 0x424, 1, 4, .wr, some ⟨0x200, 8, 0, 264⟩, 2,
    [⟨31, 0, .ro, "VALUE", 0, [], .free⟩]⟩,
  ⟨"HEAD_EXP_LO", 0x428, 1, 4, .wr, some ⟨0x200, 8, 0, 264⟩, 1,
    [⟨31, 0, .ro, "VALUE", 0, [], .free⟩]⟩,
  ⟨"HEAD_EXP_HI", 0x42C, 1, 4, .wr, some ⟨0x200, 8, 0, 264⟩, 2,
    [⟨31, 0, .ro, "VALUE", 0, [], .free⟩]⟩,
  ⟨"CREDIT_LO", 0x430, 1, 4, .wr, some ⟨0x200, 8, 0, 264⟩, 1,
    [⟨31, 0, .ro, "VALUE", 0, [], .free⟩]⟩,
  ⟨"CREDIT_HI", 0x434, 1, 4, .wr, some ⟨0x200, 8, 0, 264⟩, 2,
    [⟨31, 0, .ro, "VALUE", 0, [], .free⟩]⟩,
  ⟨"TXN_START_L_LO", 0x438, 1, 4, .wr, some ⟨0x200, 8, 0, 264⟩, 1,
    [⟨31, 0, .ro, "VALUE", 0, [], .free⟩]⟩,
  ⟨"TXN_START_L_HI", 0x43C, 1, 4, .wr, some ⟨0x200, 8, 0, 264⟩, 2,
    [⟨31, 0, .ro, "VALUE", 0, [], .free⟩]⟩]

def regsMTR_2 : List RegDesc := [
  ⟨"DEM_MAX_IMP", 0x440, 1, 4, .wr, some ⟨0x200, 8, 0, 264⟩, 0,
    [⟨31, 0, .ro, "VALUE", 0, [], .free⟩]⟩,
  ⟨"DEM_MAX_EXP", 0x444, 1, 4, .wr, some ⟨0x200, 8, 0, 264⟩, 0,
    [⟨31, 0, .ro, "VALUE", 0, [], .free⟩]⟩,
  ⟨"DEM_MAX_IV", 0x448, 1, 4, .wr, some ⟨0x200, 8, 0, 264⟩, 0,
    [⟨31, 0, .ro, "VALUE", 0, [], .free⟩]⟩,
  ⟨"CTR_ID", 0x44C, 1, 4, .wr, some ⟨0x200, 8, 0, 264⟩, 0,
    [⟨15, 0, .ro, "ID", 0, [], .free⟩]⟩,
  ⟨"TAR_IMP", 0x480, 32, 4, .wr, some ⟨0x200, 8, 0, 264⟩, 3,
    [⟨31, 0, .ro, "VALUE", 0, [], .free⟩]⟩,
  ⟨"TAR_EXP", 0x500, 32, 4, .wr, some ⟨0x200, 8, 0, 264⟩, 3,
    [⟨31, 0, .ro, "VALUE", 0, [], .free⟩]⟩]

/-- Chapter 10: the registers of MTR. -/
def descsMTR : List RegDesc := (regsMTR_0 ++ regsMTR_1 ++ regsMTR_2) ++ commonRegs 9 .wr

def regsHLM : List RegDesc := [
  ⟨"STAT", 0x0, 1, 4, .wr, none, 0,
    [⟨31, 29, .ro, "LC_STATE", 0, [], .free⟩, ⟨28, 24, .ro, "LC_COUNT", 0, [], .free⟩, ⟨23, 23, .ro, "WIPE_DONE", 1, [], .free⟩, ⟨22, 22, .ro, "KEYS_LOST", 0, [], .free⟩, ⟨21, 21, .ro, "ID_LOST", 0, [], .free⟩, ⟨20, 20, .ro, "TAMPER", 0, [], .free⟩, ⟨19, 16, .ro, "OWNER_VALID", 0, [], .free⟩]⟩,
  ⟨"TMP_STAT", 0x10, 1, 4, .ao, none, 0,
    [⟨31, 24, .ro, "TAMPER_CNT", 0, [], .free⟩, ⟨8, 0, .ro, "LATCH", 0, [], .free⟩]⟩,
  ⟨"TMP_CFG", 0x14, 1, 4, .ao, none, 0,
    [⟨20, 16, .ro, "EN", 0, [], .free⟩, ⟨9, 0, .ro, "LEVEL", 0, [], .free⟩]⟩,
  ⟨"SVN", 0x20, 1, 4, .wr, none, 0,
    [⟨23, 16, .ro, "CONFIG", 0, [], .free⟩, ⟨15, 8, .ro, "UNTRUSTED", 0, [], .free⟩, ⟨7, 0, .ro, "TRUSTED", 0, [], .free⟩]⟩,
  ⟨"OWNER", 0x24, 1, 4, .wr, none, 0,
    [⟨7, 4, .ro, "REVOKED", 0, [], .free⟩, ⟨3, 0, .ro, "PROGRAMMED", 0, [], .free⟩]⟩,
  ⟨"KU_CTR_LO", 0x28, 1, 4, .wr, none, 1,
    [⟨31, 0, .ro, "VALUE", 0, [], .free⟩]⟩,
  ⟨"KU_CTR_HI", 0x2C, 1, 4, .wr, none, 2,
    [⟨31, 0, .ro, "VALUE", 0, [], .free⟩]⟩,
  ⟨"KU_LAST", 0x30, 1, 4, .wr, none, 0,
    [⟨31, 24, .ro, "RESULT", 0, [], .free⟩, ⟨23, 16, .ro, "OP", 0, [], .free⟩, ⟨15, 8, .ro, "CLASS", 0, [], .free⟩, ⟨0, 0, .ro, "PATH", 0, [], .free⟩]⟩,
  ⟨"LINK_CNT", 0x34, 1, 4, .wr, none, 0,
    [⟨13, 0, .ro, "CNT", 0, [], .free⟩]⟩,
  ⟨"KU_REJ_CNT", 0x38, 1, 4, .wr, none, 0,
    [⟨31, 0, .rc, "VALUE", 0, [], .free⟩]⟩,
  ⟨"SRAM_STALL_CNT", 0x3C, 1, 4, .wr, none, 0,
    [⟨31, 0, .rc, "VALUE", 0, [], .free⟩]⟩,
  ⟨"DEV_HASH", 0x40, 8, 4, .wr, none, 0,
    [⟨31, 0, .ro, "VALUE", 0, [], .free⟩]⟩,
  ⟨"MEAS", 0x100, 24, 4, .wr, none, 0,
    [⟨31, 0, .ro, "VALUE", 0, [], .free⟩]⟩,
  ⟨"SLOT_STAT", 0x200, 64, 4, .wr, none, 0,
    [⟨31, 31, .ro, "VALID", 0, [], .free⟩, ⟨30, 30, .ro, "GENERATED", 0, [], .free⟩, ⟨29, 26, .ro, "CLASS", 0, [], .free⟩]⟩,
  ⟨"MBX_CMD", 0x400, 1, 4, .wr, none, 0,
    [⟨7, 0, .wo, "CMD", 0, [], .free⟩]⟩,
  ⟨"MBX_ARG", 0x404, 4, 4, .wr, none, 0,
    [⟨31, 0, .rw, "VALUE", 0, [], .hlmMbx⟩]⟩,
  ⟨"MBX_STAT", 0x414, 1, 4, .wr, none, 0,
    [⟨31, 31, .ro, "BUSY", 0, [], .free⟩, ⟨30, 30, .ro, "DONE", 0, [], .free⟩, ⟨23, 16, .ro, "RESULT", 0, [], .free⟩, ⟨15, 8, .ro, "CMD", 0, [], .free⟩]⟩,
  ⟨"MBX_RET", 0x418, 1, 4, .wr, none, 0,
    [⟨31, 0, .ro, "VALUE", 0, [], .free⟩]⟩,
  ⟨"MBX_DATA", 0x1000, 1024, 4, .wr, none, 0,
    [⟨31, 0, .rw, "VALUE", 0, [], .hlmMbx⟩]⟩]

/-- Chapter 11: the registers of HLM. -/
def descsHLM : List RegDesc := regsHLM ++ commonRegs 8 .wr

def regsGNT_0 : List RegDesc := [
  ⟨"STAT", 0x0, 1, 4, .wr, none, 0,
    [⟨31, 31, .ro, "LOCKSTEP_OK", 1, [], .free⟩, ⟨30, 30, .ro, "LANE_OK", 0, [], .free⟩, ⟨29, 29, .ro, "CFG_SEALED", 0, [], .free⟩, ⟨23, 18, .ro, "ON_NUM", 0, [], .free⟩, ⟨17, 12, .ro, "FAULTED_NUM", 0, [], .free⟩]⟩,
  ⟨"IN_LEVEL", 0x10, 1, 4, .wr, none, 0,
    [⟨31, 0, .ro, "VALUE", 0, [], .free⟩]⟩,
  ⟨"IN_DEMAND", 0x14, 1, 4, .wr, none, 0,
    [⟨31, 0, .ro, "VALUE", 0, [], .free⟩]⟩,
  ⟨"IN_FAULT", 0x18, 1, 4, .wr, none, 0,
    [⟨31, 0, .ro, "VALUE", 0, [], .free⟩]⟩,
  ⟨"ACK_STAT", 0x20, 1, 4, .wr, none, 0,
    [⟨31, 31, .ro, "WINDOW", 0, [], .free⟩, ⟨30, 30, .ro, "PRESSED", 0, [], .free⟩, ⟨29, 29, .ro, "STUCK", 0, [], .free⟩, ⟨15, 0, .ro, "REMAIN", 0, [], .free⟩]⟩,
  ⟨"ACK_MASK", 0x24, 1, 4, .wr, none, 0,
    [⟨31, 0, .rw, "VALUE", 0, [], .free⟩]⟩,
  ⟨"ACK_CMD", 0x28, 1, 4, .wr, none, 0,
    [⟨31, 0, .wo, "VALUE", 0, [], .free⟩]⟩,
  ⟨"ACK_REFUSE", 0x30, 4, 4, .wr, none, 0,
    [⟨31, 0, .ro, "VALUE", 0, [], .free⟩]⟩,
  ⟨"TP_CFG", 0x40, 1, 4, .wr, none, 0,
    [⟨31, 16, .sw, "TP_PERIOD_MS", 0x64, [(0xA, 0x3E8)], .sealed⟩, ⟨15, 0, .sw, "TP_WIDTH_US", 0x190, [(0x64, 0x3E8)], .sealed⟩]⟩,
  ⟨"SF_CFG0", 0x44, 1, 4, .wr, none, 0,
    [⟨31, 24, .sw, "SF4_PCT", 0xA, [(0, 0x32)], .sealed⟩, ⟨23, 16, .sw, "L5_PCT", 0xA, [(0, 0x32)], .sealed⟩, ⟨15, 0, .sw, "SF4_MS", 0x32, [(1, 0x3E8)], .sealed⟩]⟩,
  ⟨"SF_CFG1", 0x48, 1, 4, .wr, none, 0,
    [⟨31, 12, .sw, "SF4_MA", 0x4E20, [(0, 0xF4240)], .sealed⟩, ⟨3, 0, .sw, "L5_N", 2, [(1, 4)], .sealed⟩]⟩,
  ⟨"SF_CFG2", 0x4C, 1, 4, .wr, none, 0,
    [⟨31, 12, .sw, "L5_MA", 0x1388, [(0x64, 0xF4240)], .sealed⟩, ⟨11, 8, .sw, "ISO_N", 3, [(1, 0xF)], .sealed⟩]⟩,
  ⟨"SF_CFG3", 0x50, 1, 4, .wr, none, 0,
    [⟨31, 16, .sw, "ISO_TRIP", 0x64, [], .sealed⟩, ⟨15, 8, .sw, "ACK_WIN_S", 0xA, [(1, 0x3C)], .sealed⟩, ⟨1, 0, .sw, "ESC_REACT", 0, [(0, 2)], .sealed⟩]⟩,
  ⟨"TRIP_CNT", 0x60, 1, 4, .wr, none, 0,
    [⟨31, 0, .rc, "VALUE", 0, [], .free⟩]⟩,
  ⟨"TP_FAIL_CNT", 0x64, 1, 4, .wr, none, 0,
    [⟨31, 0, .rc, "VALUE", 0, [], .free⟩]⟩,
  ⟨"ACK_CNT", 0x68, 1, 4, .wr, none, 0,
    [⟨31, 0, .rc, "VALUE", 0, [], .free⟩]⟩,
  ⟨"Q9_DROP", 0x6C, 1, 4, .wr, none, 0,
    [⟨31, 0, .rc, "VALUE", 0, [], .free⟩]⟩,
  ⟨"IN_CFG", 0x100, 32, 4, .wr, none, 0,
    [⟨31, 31, .sw, "EN", 0, [], .sealed⟩, ⟨30, 29, .sw, "USE", 0, [(0, 2)], .sealed⟩, ⟨28, 28, .sw, "TP_EN", 0, [], .sealed⟩, ⟨27, 27, .sw, "PAIRED", 0, [], .sealed⟩, ⟨26, 26, .sw, "REACT", 0, [], .sealed⟩, ⟨23, 16, .sw, "DISC_MS", 0x14, [(1, 0xFF)], .sealed⟩, ⟨15, 8, .sw, "FILT", 0xA, [(2, 0x23)], .sealed⟩, ⟨7, 0, .sw, "CHAT_MS", 0x14, [(5, 0xFF)], .sealed⟩]⟩,
  ⟨"IN_MASK", 0x180, 32, 4, .wr, none, 0,
    [⟨31, 0, .sw, "VALUE", 0, [], .sealed⟩]⟩,
  ⟨"OUT_CFG", 0x200, 32, 4, .wr, none, 0,
    [⟨31, 31, .sw, "EN", 0, [], .sealed⟩, ⟨30, 30, .sw, "POWERUP_ACK", 1, [], .sealed⟩, ⟨29, 29, .sw, "FB_EN", 0, [], .sealed⟩, ⟨28, 24, .sw, "FB_INPUT", 0, [], .sealed⟩, ⟨23, 16, .sw, "FB_MS", 0x64, [(0xA, 0xFF)], .sealed⟩]⟩,
  ⟨"OUT_STAT", 0x280, 32, 4, .wr, none, 0,
    [⟨31, 29, .ro, "STATE", 0, [], .free⟩, ⟨28, 28, .ro, "HS_ON", 0, [], .free⟩, ⟨27, 27, .ro, "LS_ON", 0, [], .free⟩, ⟨26, 26, .ro, "FB", 0, [], .free⟩, ⟨23, 16, .ro, "CAUSE", 0, [], .free⟩, ⟨11, 0, .ro, "COIL_MA", 0, [], .free⟩]⟩,
  ⟨"ENV0", 0x300, 8, 8, .wr, none, 0,
    [⟨31, 16, .sw, "DECEL", 0, [], .sealed⟩, ⟨15, 8, .sw, "T_DELAY", 0, [], .sealed⟩]⟩,
  ⟨"ENV1", 0x304, 8, 8, .wr, none, 0,
    [⟨31, 16, .sw, "T_STOP", 0, [], .sealed⟩, ⟨15, 0, .sw, "ENV_A", 0, [], .sealed⟩]⟩,
  ⟨"DISP_CFG", 0x400, 256, 4, .wr, none, 0,
    [⟨31, 31, .sw, "EN", 0, [], .sealed⟩, ⟨30, 26, .sw, "PAIR", 0, [], .sealed⟩, ⟨23, 23, .sw, "SF3_REACT", 0, [], .sealed⟩, ⟨22, 22, .sw, "SF4_REACT", 0, [], .sealed⟩, ⟨21, 21, .sw, "SF5_REACT", 0, [], .sealed⟩, ⟨18, 16, .sw, "ENV", 0, [], .sealed⟩, ⟨3, 0, .sw, "STATUS_MS", 2, [(1, 0xA)], .sealed⟩]⟩]

def regsGNT_1 : List RegDesc := [
  ⟨"DISP_STAT", 0x800, 256, 4, .wr, none, 0,
    [⟨31, 16, .ro, "CUR_A", 0, [], .free⟩, ⟨15, 0, .ro, "LIM_A", 0xFFFF, [], .free⟩]⟩]

/-- Chapter 12: the registers of GNT. -/
def descsGNT : List RegDesc := (regsGNT_0 ++ regsGNT_1) ++ commonRegs 7 .wr

def regsMIR : List RegDesc := [
  ⟨"CTRL", 0x0, 1, 4, .wr, none, 0,
    [⟨0, 0, .wo, "HANDOVER", 0, [], .free⟩]⟩,
  ⟨"CFG", 0x4, 1, 4, .wr, none, 0,
    [⟨15, 8, .ro, "TIME_TOL_US", 0xA, [], .free⟩, ⟨7, 1, .ro, "COLD_S", 2, [], .free⟩, ⟨0, 0, .ro, "PAIRED", 0, [], .free⟩]⟩,
  ⟨"STAT", 0x8, 1, 4, .wr, none, 0,
    [⟨31, 29, .ro, "STATE", 0, [], .free⟩, ⟨28, 28, .ro, "UNIT", 0, [], .free⟩, ⟨27, 27, .ro, "PARTNER_ROLE", 0, [], .free⟩, ⟨26, 26, .ro, "HB_OK", 0, [], .free⟩, ⟨25, 25, .ro, "READY", 0, [], .free⟩, ⟨24, 24, .ro, "LANE0_UP", 0, [], .free⟩, ⟨23, 23, .ro, "LANE1_UP", 0, [], .free⟩, ⟨22, 22, .ro, "MISMATCH", 0, [], .free⟩, ⟨15, 8, .ro, "LAST_CAUSE", 0, [], .free⟩]⟩,
  ⟨"TIME_OFS", 0xC, 1, 4, .wr, none, 0,
    [⟨31, 0, .ro, "VALUE", 0, [], .free⟩]⟩,
  ⟨"LAST_TICK", 0x10, 1, 4, .wr, none, 0,
    [⟨31, 0, .ro, "VALUE", 0, [], .free⟩]⟩,
  ⟨"TAG_FAIL_CNT", 0x20, 1, 4, .wr, none, 0,
    [⟨31, 0, .rc, "VALUE", 0, [], .free⟩]⟩,
  ⟨"GAP_CNT", 0x24, 1, 4, .wr, none, 0,
    [⟨31, 0, .rc, "VALUE", 0, [], .free⟩]⟩,
  ⟨"IMAGE_CNT", 0x28, 1, 4, .wr, none, 0,
    [⟨31, 0, .rc, "VALUE", 0, [], .free⟩]⟩,
  ⟨"Q14_DROP", 0x2C, 1, 4, .wr, none, 0,
    [⟨31, 0, .rc, "VALUE", 0, [], .free⟩]⟩]

/-- Chapter 13: the registers of MIR. -/
def descsMIR : List RegDesc := regsMIR ++ commonRegs 6 .wr

def regsLSW : List RegDesc := [
  ⟨"CTRL", 0x0, 1, 4, .wr, none, 0,
    [⟨0, 0, .rw, "ALL_OFF", 0, [], .free⟩]⟩,
  ⟨"HOLD", 0x4, 1, 4, .po, none, 0,
    [⟨11, 0, .ro, "HOLD_MS", 0x7D0, [], .free⟩]⟩,
  ⟨"STAT", 0x8, 1, 4, .po, none, 0,
    [⟨31, 31, .w1c, "LINK_LOST", 0, [], .free⟩, ⟨30, 30, .ro, "HOLD", 0, [], .free⟩, ⟨23, 0, .ro, "ON", 0, [], .free⟩]⟩,
  ⟨"LATCH_MAP", 0xC, 1, 4, .po, none, 0,
    [⟨23, 0, .ro, "MAP", 0, [], .free⟩]⟩,
  ⟨"CH_CFG", 0x100, 24, 0x40, .po, none, 0,
    [⟨31, 20, .rw, "ILIM", 0x12C, [(0x32, 0x258)], .lswOff⟩, ⟨19, 16, .rw, "N_RETRY", 7, [(1, 0xF)], .lswOff⟩, ⟨15, 8, .rw, "INRUSH_MS", 0xA, [], .lswOff⟩, ⟨7, 7, .rw, "OL_EN", 0, [], .lswOff⟩, ⟨6, 6, .rw, "UC_EN", 0, [], .lswOff⟩]⟩,
  ⟨"CH_LIM2", 0x104, 24, 0x40, .po, none, 0,
    [⟨31, 16, .rw, "UC_MA", 0x64, [], .lswOff⟩]⟩,
  ⟨"CH_PWM", 0x108, 24, 0x40, .po, none, 0,
    [⟨31, 16, .rw, "PERIOD_US", 0, [(0, 0), (0x28, 0x2710)], .free⟩, ⟨15, 8, .rw, "PHASE", 0, [], .free⟩]⟩,
  ⟨"CH_DUTY", 0x10C, 24, 0x40, .wr, none, 0,
    [⟨31, 30, .ro, "OWNER", 3, [], .free⟩, ⟨13, 0, .rw, "DUTY", 0, [(0, 0x2710)], .free⟩]⟩,
  ⟨"CH_DEF", 0x110, 24, 0x40, .po, none, 0,
    [⟨13, 0, .rw, "DEF_DUTY", 0, [], .free⟩]⟩,
  ⟨"CH_STAT", 0x114, 24, 0x40, .po, none, 0,
    [⟨31, 30, .ro, "STATE", 0, [], .free⟩, ⟨29, 29, .w1c, "TH_LATCH", 0, [], .free⟩, ⟨28, 28, .w1c, "OC_LATCH", 0, [], .free⟩, ⟨27, 27, .ro, "TH_WARN", 0, [], .free⟩, ⟨26, 26, .ro, "OPEN_LOAD", 0, [], .free⟩, ⟨25, 25, .ro, "UNDER_CUR", 0, [], .free⟩, ⟨24, 24, .ro, "HOLD", 0, [], .free⟩, ⟨23, 20, .ro, "RETRY", 0, [], .free⟩]⟩,
  ⟨"CH_MEAS_I", 0x118, 24, 0x40, .po, none, 0,
    [⟨31, 16, .ro, "I_AVG", 0, [], .free⟩, ⟨15, 0, .rc, "I_PK", 0, [], .free⟩]⟩,
  ⟨"CH_MEAS_VT", 0x11C, 24, 0x40, .po, none, 0,
    [⟨31, 16, .ro, "VOUT", 0, [], .free⟩, ⟨15, 0, .ro, "TJ", 0, [], .free⟩]⟩,
  ⟨"CH_TRIP_CNT", 0x120, 24, 0x40, .po, none, 0,
    [⟨31, 0, .rc, "VALUE", 0, [], .free⟩]⟩]

/-- Chapter 15: the registers of LSW. -/
def descsLSW : List RegDesc := regsLSW ++ commonRegs 8 .wr

def regsCOT_0 : List RegDesc := [
  ⟨"CORE_LAST", 0x10, 1, 4, .ao, none, 0,
    [⟨31, 24, .ro, "CAUSE", 0, [], .free⟩, ⟨23, 16, .ro, "PH_MASK", 0, [], .free⟩]⟩,
  ⟨"AUX_CTL", 0x100, 1, 4, .po, none, 0,
    [⟨31, 31, .rw, "EN", 0, [], .free⟩, ⟨30, 30, .rw, "SOFT_STOP", 1, [], .free⟩]⟩,
  ⟨"AUX_VSET", 0x104, 1, 4, .po, none, 0,
    [⟨15, 0, .rw, "MV", 0x5DC0, [(0x2EE0, 0x6D60)], .free⟩]⟩,
  ⟨"AUX_RATE", 0x108, 1, 4, .po, none, 0,
    [⟨31, 16, .rw, "SS_RATE", 0x18, [(1, 0xFFFF)], .free⟩, ⟨15, 0, .rw, "SLEW", 0xA, [(1, 0xFFFF)], .free⟩]⟩,
  ⟨"AUX_CFG", 0x10C, 1, 4, .po, none, 0,
    [⟨31, 28, .rw, "NPH", 6, [(1, 6)], .cotOff⟩, ⟨27, 24, .rw, "MIN_PH", 3, [(1, 6)], .cotOff⟩, ⟨23, 16, .rw, "FSW", 0x32, [(0x14, 0x96)], .cotOff⟩, ⟨15, 8, .rw, "RIPPLE", 0x14, [(1, 0xFF)], .cotOff⟩, ⟨7, 4, .rw, "AVG_SH", 3, [(0, 7)], .cotOff⟩]⟩,
  ⟨"AUX_LIM", 0x110, 1, 4, .po, none, 0,
    [⟨31, 24, .rw, "PH_ILIM", 0x28, [(1, 0x2D)], .cotOff⟩, ⟨23, 16, .rw, "OV_PCT", 0xA, [(1, 0x32)], .cotOff⟩, ⟨15, 8, .rw, "UV_PCT", 0xA, [(1, 0x32)], .cotOff⟩, ⟨7, 0, .rw, "UV_MS", 0xA, [(1, 0xFF)], .cotOff⟩]⟩,
  ⟨"AUX_STAT", 0x114, 1, 4, .po, none, 0,
    [⟨31, 29, .ro, "STATE", 0, [], .free⟩, ⟨28, 28, .ro, "CL", 0, [], .free⟩, ⟨27, 27, .ro, "UV", 0, [], .free⟩, ⟨26, 26, .ro, "OV", 0, [], .free⟩, ⟨25, 20, .ro, "PH_ACTIVE", 0, [], .free⟩, ⟨19, 14, .ro, "PH_DROPPED", 0, [], .free⟩]⟩,
  ⟨"AUX_PH_CAUSE", 0x118, 1, 4, .po, none, 0,
    [⟨11, 0, .ro, "CAUSE", 0, [], .free⟩]⟩,
  ⟨"AUX_VREF", 0x11C, 1, 4, .po, none, 0,
    [⟨15, 0, .ro, "MV", 0, [], .free⟩]⟩,
  ⟨"AUX_V_AVG", 0x120, 1, 4, .po, none, 0,
    [⟨31, 0, .ro, "VALUE", 0, [], .free⟩]⟩,
  ⟨"AUX_V_PK", 0x124, 1, 4, .po, none, 0,
    [⟨31, 0, .rc, "VALUE", 0, [], .free⟩]⟩,
  ⟨"AUX_I_AVG", 0x128, 1, 4, .po, none, 0,
    [⟨31, 0, .ro, "VALUE", 0, [], .free⟩]⟩,
  ⟨"AUX_I_PK", 0x12C, 1, 4, .po, none, 0,
    [⟨31, 0, .rc, "VALUE", 0, [], .free⟩]⟩,
  ⟨"AUX_P_AVG", 0x130, 1, 4, .po, none, 0,
    [⟨31, 0, .ro, "VALUE", 0, [], .free⟩]⟩,
  ⟨"AUX_P_PK", 0x134, 1, 4, .po, none, 0,
    [⟨31, 0, .rc, "VALUE", 0, [], .free⟩]⟩,
  ⟨"AUX_T_AVG", 0x138, 1, 4, .po, none, 0,
    [⟨15, 0, .ro, "T", 0, [], .free⟩]⟩,
  ⟨"AUX_T_PK", 0x13C, 1, 4, .po, none, 0,
    [⟨15, 0, .rc, "T", 0, [], .free⟩]⟩,
  ⟨"AUX_VIN_AVG", 0x140, 1, 4, .po, none, 0,
    [⟨31, 0, .ro, "VALUE", 0, [], .free⟩]⟩,
  ⟨"AUX_PH_I", 0x144, 6, 4, .po, none, 0,
    [⟨31, 0, .ro, "VALUE", 0, [], .free⟩]⟩,
  ⟨"CORE_CTL", 0x180, 1, 4, .po, none, 0,
    [⟨31, 31, .rw, "EN", 1, [], .free⟩, ⟨30, 30, .rw, "SOFT_STOP", 1, [], .free⟩]⟩,
  ⟨"CORE_VSET", 0x184, 1, 4, .po, none, 0,
    [⟨15, 0, .rw, "MV", 0x2EE, [(0x2D0, 0x30C)], .free⟩]⟩,
  ⟨"CORE_RATE", 0x188, 1, 4, .po, none, 0,
    [⟨31, 16, .rw, "SS_RATE", 0x64, [(1, 0xFFFF)], .free⟩, ⟨15, 0, .rw, "SLEW", 5, [(1, 0xFFFF)], .free⟩]⟩,
  ⟨"CORE_CFG", 0x18C, 1, 4, .po, none, 0,
    [⟨31, 28, .rw, "NPH", 4, [(1, 4)], .cotOff⟩, ⟨27, 24, .rw, "MIN_PH", 1, [(1, 4)], .cotOff⟩, ⟨23, 16, .rw, "FSW", 0x50, [(0x14, 0x96)], .cotOff⟩, ⟨15, 8, .rw, "RIPPLE", 0xA, [(1, 0xFF)], .cotOff⟩, ⟨7, 4, .rw, "AVG_SH", 3, [(0, 7)], .cotOff⟩]⟩,
  ⟨"CORE_LIM", 0x190, 1, 4, .po, none, 0,
    [⟨31, 24, .rw, "PH_ILIM", 0xF, [(1, 0x2D)], .cotOff⟩, ⟨23, 16, .rw, "OV_PCT", 0xA, [(1, 0x32)], .cotOff⟩, ⟨15, 8, .rw, "UV_PCT", 0xA, [(1, 0x32)], .cotOff⟩, ⟨7, 0, .rw, "UV_MS", 0xA, [(1, 0xFF)], .cotOff⟩]⟩]

def regsCOT_1 : List RegDesc := [
  ⟨"CORE_STAT", 0x194, 1, 4, .po, none, 0,
    [⟨31, 29, .ro, "STATE", 0, [], .free⟩, ⟨28, 28, .ro, "CL", 0, [], .free⟩, ⟨27, 27, .ro, "UV", 0, [], .free⟩, ⟨26, 26, .ro, "OV", 0, [], .free⟩, ⟨25, 20, .ro, "PH_ACTIVE", 0, [], .free⟩, ⟨19, 14, .ro, "PH_DROPPED", 0, [], .free⟩]⟩,
  ⟨"CORE_PH_CAUSE", 0x198, 1, 4, .po, none, 0,
    [⟨11, 0, .ro, "CAUSE", 0, [], .free⟩]⟩,
  ⟨"CORE_VREF", 0x19C, 1, 4, .po, none, 0,
    [⟨15, 0, .ro, "MV", 0, [], .free⟩]⟩,
  ⟨"CORE_V_AVG", 0x1A0, 1, 4, .po, none, 0,
    [⟨31, 0, .ro, "VALUE", 0, [], .free⟩]⟩,
  ⟨"CORE_V_PK", 0x1A4, 1, 4, .po, none, 0,
    [⟨31, 0, .rc, "VALUE", 0, [], .free⟩]⟩,
  ⟨"CORE_I_AVG", 0x1A8, 1, 4, .po, none, 0,
    [⟨31, 0, .ro, "VALUE", 0, [], .free⟩]⟩,
  ⟨"CORE_I_PK", 0x1AC, 1, 4, .po, none, 0,
    [⟨31, 0, .rc, "VALUE", 0, [], .free⟩]⟩,
  ⟨"CORE_P_AVG", 0x1B0, 1, 4, .po, none, 0,
    [⟨31, 0, .ro, "VALUE", 0, [], .free⟩]⟩,
  ⟨"CORE_P_PK", 0x1B4, 1, 4, .po, none, 0,
    [⟨31, 0, .rc, "VALUE", 0, [], .free⟩]⟩,
  ⟨"CORE_T_AVG", 0x1B8, 1, 4, .po, none, 0,
    [⟨15, 0, .ro, "T", 0, [], .free⟩]⟩,
  ⟨"CORE_T_PK", 0x1BC, 1, 4, .po, none, 0,
    [⟨15, 0, .rc, "T", 0, [], .free⟩]⟩,
  ⟨"CORE_VIN_AVG", 0x1C0, 1, 4, .po, none, 0,
    [⟨31, 0, .ro, "VALUE", 0, [], .free⟩]⟩,
  ⟨"CORE_PH_I", 0x1C4, 6, 4, .po, none, 0,
    [⟨31, 0, .ro, "VALUE", 0, [], .free⟩]⟩]

/-- Chapter 15: the registers of COT. -/
def descsCOT : List RegDesc := (regsCOT_0 ++ regsCOT_1) ++ commonRegs 16 .wr

def regsAON : List RegDesc := [
  ⟨"RTC_LO", 0x0, 1, 4, .ao, none, 1,
    [⟨31, 0, .ro, "VALUE", 0, [], .free⟩]⟩,
  ⟨"RTC_HI", 0x4, 1, 4, .ao, none, 2,
    [⟨15, 0, .ro, "RTC", 0, [], .free⟩]⟩,
  ⟨"BOOT_SEQ", 0x8, 1, 4, .ao, none, 0,
    [⟨31, 0, .ro, "VALUE", 0, [], .free⟩]⟩,
  ⟨"BOOT_TRY", 0xC, 1, 4, .ao, none, 0,
    [⟨1, 0, .ro, "TRY", 0, [], .free⟩]⟩,
  ⟨"BOOT_BAD", 0x10, 4, 4, .ao, none, 0,
    [⟨31, 0, .ro, "VALUE", 0, [], .free⟩]⟩,
  ⟨"QUIET", 0x20, 1, 4, .ao, none, 0,
    [⟨1, 1, .wo, "WAKE_NOW", 0, [], .free⟩, ⟨0, 0, .wo, "ENTER", 0, [], .free⟩]⟩,
  ⟨"WAKE_LO", 0x24, 1, 4, .ao, none, 1,
    [⟨31, 0, .rw, "VALUE", 0xFFFFFFFF, [], .free⟩]⟩,
  ⟨"WAKE_HI", 0x28, 1, 4, .ao, none, 2,
    [⟨15, 0, .rw, "WAKE", 0xFFFF, [], .free⟩]⟩,
  ⟨"WAKE_SRC", 0x2C, 1, 4, .ao, none, 0,
    [⟨1, 0, .ro, "SRC", 0, [], .free⟩]⟩]

/-- Chapter 16: the registers of AON. -/
def descsAON : List RegDesc := regsAON ++ commonRegs 1 .ao

/-- The register descriptions of a block. -/
def Block.descs : Block → List RegDesc
  | .sys => descsSYS
  | .cfg => descsCFG
  | .que => descsQUE
  | .spm => descsSPM
  | .drc => descsDRC
  | .alloc => descsALLOC
  | .lease => descsLEASE
  | .ctle => descsCTLE
  | .thrm => descsTHRM
  | .pnt => descsPNT
  | .sess => descsSESS
  | .xcr => descsXCR
  | .fab => descsFAB
  | .can => descsCAN
  | .t1s => descsT1S
  | .spn => descsSPN
  | .host => descsHOST
  | .mtr => descsMTR
  | .hlm => descsHLM
  | .gnt => descsGNT
  | .mir => descsMIR
  | .lsw => descsLSW
  | .cot => descsCOT
  | .aon => descsAON

end Sys2Proof.Machine
end

