-- ==== Sys2Proof/Machine/Io.lean ====
section
/-! DEFINITION. Sys2Proof/Machine/Io.lean: what every block shares: the clock, the register file, the error logs, the
queues, the messages sent, and the operations on them. An engine computes its own state and hands on an `Io`. -/
namespace Sys2Proof.Machine

/-- The block and the offset within its window of a register address (R673); CAN controllers have windows of
0x1000 each. The number is the controller, zero for every other block. -/
def blockAt (a : Nat) : Option (Block × Nat × Nat) :=
  let p := a % 0x10000000000 / 0x10000
  let o := a % 0x10000
  match p with
  | 0x4000 => some (.sys, 0, o)
  | 0x4001 => some (.cfg, 0, o)
  | 0x4002 => some (.que, 0, o)
  | 0x4003 => some (.spm, 0, o)
  | 0x4004 => some (.drc, 0, o)
  | 0x4010 => some (.alloc, 0, o)
  | 0x4011 => some (.lease, 0, o)
  | 0x4012 => some (.ctle, 0, o)
  | 0x4013 => some (.thrm, 0, o)
  | 0x4014 => some (.pnt, 0, o)
  | 0x4020 => some (.sess, 0, o)
  | 0x4021 => some (.xcr, 0, o)
  | 0x4030 => some (.fab, 0, o)
  | 0x4031 => if o < 0x8000 then some (.can, o / 0x1000, o % 0x1000) else none
  | 0x4032 => some (.t1s, 0, o)
  | 0x4033 => some (.spn, 0, o)
  | 0x4034 => some (.host, 0, o)
  | 0x4040 => some (.mtr, 0, o)
  | 0x4050 => some (.hlm, 0, o)
  | 0x4060 => some (.gnt, 0, o)
  | 0x4070 => some (.mir, 0, o)
  | 0x4080 => some (.lsw, 0, o)
  | 0x4081 => some (.cot, 0, o)
  | 0x40F0 => some (.aon, 0, o)
  | _ => none

/-- The number by which an error log is kept: one per block, one per CAN controller. -/
def Block.logKey (b : Block) (n : Nat) : Nat :=
  match b with
  | .sys => 0 | .cfg => 1 | .que => 2 | .spm => 3 | .drc => 4 | .alloc => 5 | .lease => 6 | .ctle => 7 | .thrm => 8
  | .pnt => 9 | .sess => 10 | .xcr => 11 | .fab => 12 | .t1s => 13 | .spn => 14 | .host => 15 | .mir => 16
  | .lsw => 17 | .cot => 18 | .aon => 19 | .mtr => 20 | .hlm => 21 | .gnt => 22 | .can => 24 + n

/-- Whether a line of a register table covers an offset. -/
def RegDesc.covers (d : RegDesc) (o : Nat) : Bool :=
  decide (d.off ≤ o) && (o - d.off) % d.stride == 0 && decide ((o - d.off) / d.stride < d.count)

/-- The line of the register tables that describes an address. -/
def regDesc (a : Nat) : Option RegDesc :=
  match blockAt a with
  | some (b, _, o) => b.descs.find? fun d => d.covers o
  | none => none

/-- The reset value of a register: every field at its Reset column, reserved bits zero (R7). Assumption log: 8 (DESIGN CHOICE), 9 (DESIGN CHOICE). -/
def RegDesc.resetWord (d : RegDesc) : Word := w32 ((d.fields.map fun f => f.reset * 2 ^ f.lo).foldl (· + ·) 0)

/-- What a register reads as when nothing has written it: its reset value. Assumption log: 9 (DESIGN CHOICE). -/
def regReset (a : Nat) : Word :=
  match regDesc a with
  | some d => d.resetWord
  | none => 0

/-- What every block shares. `stage`: the low halves written and waiting for their high half (R14), and the high
halves latched by a read of the low half (R13), by address. `bus`: what the last read returned. `gaps`: the queues
whose next record carries GAP. `free`: the model's own counter for free values. `esc`: escalations waiting at
Gauntlet, `escOver` those that found its buffer full (R597). `nodes`: the node table. `keys`: the link keys held,
by node. `streams`: the streams received, by type and source. `txSeq`: the sequence counter of each stream sent
(R706). `canCtr`: the message counter of each CAN destination, controller * 64 + bus address (R345). `unitB`: the strap
ball MIR_UNIT.
Assumption log: `free` 5 (DESIGN CHOICE), `evts` 10 (DESIGN CHOICE), `out` 10 (DESIGN CHOICE), `txSeq` 106 (DESIGN CHOICE). -/
structure Io where
  clk : Clk
  regs : Tbl Word
  stage : Tbl (Option Word)
  logs : Tbl ErrLog
  queues : Tbl Queue
  gaps : Tbl Bool
  bus : Nat
  out : List OutMsg
  evts : List OutEvt
  free : Nat
  esc : List Nat
  escOver : Nat
  nodes : Tbl NodeEnt
  keys : Tbl KeyGen
  streams : Tbl Stream
  txSeq : Tbl Nat
  canCtr : Tbl Nat
  unitB : Bool
  deriving DecidableEq, Repr

/-- After reset: every table empty, so that every register reads its reset value and every queue and log is empty.
Assumption log: 8 (DESIGN CHOICE). -/
def Io.init : Io := ⟨⟨0, 0, 0, 0⟩, [], [], [], [], [], 0, [], [], 0, [], 0, [], [], [], [], [], false⟩

/-- The initiator code of R591. -/
def Who.code : Who → Nat
  | .core n => n % 4 + 1
  | .sepia => 0x08
  | .gauntlet => 0x09
  | .host => 0x0A
  | .dma => 0x0B
  | .part => 0

namespace Io

/-- Site time, ns. -/
def now (io : Io) : Nat := io.clk.now

/-- The value of a register. -/
def reg (io : Io) (a : Nat) : Word := Tbl.get io.regs (regReset a) a

/-- A field of a register. -/
def fld (io : Io) (a hi lo : Nat) : Nat := bits (io.reg a) hi lo

/-- One bit of a register. -/
def flag (io : Io) (a i : Nat) : Bool := io.fld a i i == 1

/-- The part sets a register. -/
def setReg (io : Io) (a : Nat) (w : Word) : Io := { io with regs := Tbl.set io.regs (regReset a) a w }

/-- The part sets a field of a register. -/
def setFld (io : Io) (a hi lo v : Nat) : Io := io.setReg a (setBits (io.reg a) hi lo v)

/-- The part sets one bit of a register. -/
def setFlag (io : Io) (a i : Nat) (b : Bool) : Io := io.setFld a i i (b2n b)

/-- The part sets a 64-bit pair, low half at `a`. -/
def setPair (io : Io) (a v : Nat) : Io := (io.setReg a (w32 v)).setReg (a + 4) (w32 (v / 2 ^ 32))

/-- A 64-bit pair, low half at `a`. -/
def pair (io : Io) (a : Nat) : Nat := (io.reg a).toNat + (io.reg (a + 4)).toNat * 2 ^ 32

/-- A saturating counter counts one. -/
def count (io : Io) (a : Nat) : Io := io.setReg a (incSat (io.reg a))

/-- A saturating counter counts n. -/
def countN (io : Io) (a n : Nat) : Io := io.setReg a (w32 (satU 32 ((io.reg a).toNat + n)))

/-- The highest value seen. -/
def peak (io : Io) (a v : Nat) : Io := if (io.reg a).toNat < v then io.setReg a (w32 v) else io

/-- EVT_STAT bit i of the block whose window starts at `base`. -/
def evt (io : Io) (base i : Nat) : Io := io.setFlag (base + 0x80) i true

/-- The next free value's number, and the counter moved on. Assumption log: 5 (DESIGN CHOICE). -/
def fresh (io : Io) : Nat × Io := (io.free, { io with free := io.free + 1 })

/-- A signal sent outward. Assumption log: 10 (DESIGN CHOICE), 66 (DESIGN CHOICE). -/
def drive (io : Io) (dev : String) (num : Nat) (data : List Nat) : Io :=
  { io with evts := io.evts ++ [⟨dev, num, data⟩] }

/-- Record an error in a log (R591 to R597): an escalation goes to Gauntlet's buffer of 16. -/
def errRec (io : Io) (b : Block) (n : Nat) (e : ErrRec) : Io :=
  let r := (Tbl.get io.logs ErrLog.init (b.logKey n)).record e
  let io1 := { io with logs := Tbl.set io.logs ErrLog.init (b.logKey n) r.1 }
  if r.2 then
    if io1.esc.length < 16 then { io1 with esc := io1.esc ++ [b.logKey n] } else { io1 with escOver := io1.escOver + 1 }
  else io1


/-- An ACCESS error (class 1): code, initiator, address, data written. -/
def access (io : Io) (b : Block) (n code : Nat) (who : Who) (a v : Nat) : Io :=
  io.errRec b n ⟨1, code, who.code, v % 256, a % 0x10000000000, 0, io.now⟩

/-- An error of another class raised by the part. -/
def fail (io : Io) (b : Block) (n cls code detail a : Nat) : Io :=
  io.errRec b n ⟨cls, code, 0, detail, a, 0, io.now⟩

/-- An access error at a register address, logged in the block that the address belongs to. -/
def accessAt (io : Io) (code : Nat) (who : Who) (a v : Nat) : Io :=
  match blockAt a with
  | some (b, n, _) => io.access b n code who a v
  | none => io.access .sys 0 1 who a v

/-- Queue n. -/
def queue (io : Io) (n : Nat) : Queue := Tbl.get io.queues Queue.init n

/-- Queue n takes a new value: QUE.EVT_STAT shows that it stopped being empty (NE) or that a flag became set (EXC). -/
def setQueue (io : Io) (n : Nat) (q : Queue) : Io :=
  let old := io.queue n
  let io1 := { io with queues := Tbl.set io.queues Queue.init n q }
  let io2 := if old.empty && !q.empty then io1.evt 0x40020000 n else io1
  if Nat.land q.flags (15 - old.flags) != 0 then io2.evt 0x40020000 (16 + n) else io2

/-- A block writes a whole packet of words; where the fill bank cannot take it, nothing is written. -/
def putPkt (io : Io) (n : Nat) (ws : List Word64) : Option Io :=
  ((io.queue n).putAll ws io.now).map fun q => io.setQueue n q

/-- How a block writes records to its queue: the queue, the key of its GAP flag, the counter of dropped records, the
base of its window and its DROP event bit. -/
structure QDst where
  q : Nat
  gapKey : Nat
  dropReg : Nat
  base : Nat
  evtBit : Nat
  deriving DecidableEq, Repr

/-- A block drops a packet: counted, event set, GAP in its next record. -/
def dropPkt (io : Io) (d : QDst) : Io :=
  ({ io with gaps := Tbl.set io.gaps false d.gapKey true }.count d.dropReg).evt d.base d.evtBit

/-- A block writes a packet made by `mk` from the GAP flag, or drops it. -/
def emit (io : Io) (d : QDst) (mk : Bool → List Word64) : Io :=
  match io.putPkt d.q (mk (Tbl.get io.gaps false d.gapKey)) with
  | some io1 => { io1 with gaps := Tbl.set io1.gaps false d.gapKey false }
  | none => io.dropPkt d

/-- A record of one word, FIRST and LAST both set, GAP in payload bit `gapBit`. -/
def rec1 (io : Io) (d : QDst) (gapBit prio payload : Nat) : Io :=
  io.emit d fun g => [qWord true true prio (payload + b2n g * 2 ^ gapBit)]

/-- A packet with a length word (R579): the body's payloads, GAP in bit `gapBit` of body word `gapAt`. -/
def recN (io : Io) (d : QDst) (gapAt gapBit prio : Nat) (body : List Nat) : Io :=
  io.emit d fun g =>
    qLenWord prio body.length ::
      body.mapIdx fun i p => qWord false (i + 1 == body.length) prio (p + if i = gapAt then b2n g * 2 ^ gapBit else 0)

/-- A packet without a length word: FIRST on the first word, LAST on the last, GAP in bit `gapBit` of word `gapAt`. -/
def pktN (io : Io) (d : QDst) (gapAt gapBit prio : Nat) (body : List Nat) : Io :=
  io.emit d fun g =>
    body.mapIdx fun i p => qWord (i == 0) (i + 1 == body.length) prio (p + if i = gapAt then b2n g * 2 ^ gapBit else 0)

/-- This unit's own node ID (R4). -/
def ownId (io : Io) : Nat := if io.unitB then 2 else 1

/-- The entry of the node table for a node, if there is one (R330). -/
def node (io : Io) (id : Nat) : Option NodeEnt :=
  (io.nodes.find? fun e => e.2.id == id && e.2.path != 0).map Prod.snd

/-- Whether a path has a link (R332): a fabric port that is enabled and up, a T1S segment that sees beacons, a CAN
controller that runs and is neither in bus-off nor restricted, the mesh while it runs. Assumption log: 107 (DEDUCED). -/
def linkUp (io : Io) (path num : Nat) : Bool :=
  match path with
  | 1 => io.flag Reg.FAB.CTRL (4 + num % 4) && io.flag (Reg.FAB.PORT_STAT (num % 4)) 0
  | 2 => io.flag (Reg.T1S.SEG_CFG (num % 8)) 31 && io.flag (Reg.T1S.SEG_STAT (num % 8)) 0
  | 3 => io.flag (Reg.CAN.CTRL (num % 8)) 0 && !io.flag (Reg.CAN.CTRL (num % 8)) 4
      && decide (io.fld (Reg.CAN.STAT (num % 8)) 31 29 < 3)
  | 4 => io.flag Reg.SPN.CTRL 0
  | _ => false

/-- A message that cannot be sent is dropped and counted (R332). -/
def noPath (io : Io) : Io := (io.count Reg.FAB.TX_NOPATH_CNT).evt 0x40300000 4

/-- The unit is the active one: it has no partner, or it holds the ACTIVE role (chapter 13). Assumption log: 157 (DEDUCED). -/
def active (io : Io) : Bool := !io.flag Reg.MIR.CFG 0 || io.fld Reg.MIR.STAT 31 29 == 3

/-- The key of a message to a node (R322): the group key for 0xFFFF, the pair key between the units, the link key
otherwise. -/
def txKey (dst : Nat) : Nat := if dst ≤ 2 then 0x20000 + dst else dst

/-- The part sends a message on a named medium: the stream's counter advances (R706), the tag is a free value. Without a
key nothing is tagged, and nothing leaves (R496). Assumption log: 106 (DESIGN CHOICE). -/
def sendOn (io : Io) (path num bus : Nat) (ty sub : Nat) (hipri : Bool) (dst : Nat) (payload : List Byte) : Io :=
  let key := Tbl.get io.keys KeyGen.init (txKey dst)
  if !key.held then io else
  let seq := Tbl.get io.txSeq 0 ty
  let io1 : Io := { io with
    out := io.out ++ [⟨ty, sub, hipri, io.ownId, dst, seq, key.gen, io.now, path, num, bus,
      payload, Tbl.get io.canCtr 0 (num * 64 + bus), Config.tag io.free⟩],
    free := io.free + 1,
    txSeq := Tbl.set io.txSeq 0 ty ((seq + 1) % 2 ^ 32),
    canCtr := if path = 3 then Tbl.set io.canCtr 0 (num * 64 + bus) ((Tbl.get io.canCtr 0 (num * 64 + bus) + 1) % 256)
      else io.canCtr }
  io1.count Reg.FAB.TX_MSG_CNT

/-- The part sends a message to a node through its entry in the node table (R330, R332). Assumption log: 133 (DEDUCED). -/
def send (io : Io) (ty sub : Nat) (hipri : Bool) (dst : Nat) (payload : List Byte) : Io :=
  if io.flag Reg.FAB.CTRL 0 then
    match io.node dst with
    | some e => if io.linkUp e.path e.num then io.sendOn e.path e.num e.bus ty sub hipri dst payload else io.noPath
    | none => io.noPath
  else io.noPath

end Io
end Sys2Proof.Machine
end

