-- ==== Sys2Proof/Machine/RegAccess.lean ====
section
/-! DEFINITION. Sys2Proof/Machine/RegAccess.lean: what an initiator's write or read of a register does: the access
table of R20 and R21, the field types of R6, not-issued encodings (R11), conditions (R12), 64-bit pairs (R13, R14),
and accesses to nothing (R674). -/
namespace Sys2Proof.Machine

/-- The three columns of R20: none, read, read and write. -/
inductive Right where
  | no | ro | rw
  deriving DecidableEq, Repr

/-- The Sepia mailbox registers of MTR: MBX_CMD, MBX_ARG, MBX_STAT, MBX_RET, CH_SEL and MBX_DATA. -/
def mtrMailbox (o : Nat) : Bool :=
  (decide (0x100 ≤ o) && decide (o ≤ 0x118)) || o == 0x200 || decide (0x1000 ≤ o ∧ o ≤ 0x1FFF)

/-- The Helmet mailbox registers. -/
def hlmMailbox (o : Nat) : Bool := (decide (0x400 ≤ o) && decide (o ≤ 0x418)) || decide (0x1000 ≤ o ∧ o ≤ 0x1FFF)

/-- The Gauntlet mailbox registers: ACK_MASK and ACK_CMD. -/
def gntMailbox (o : Nat) : Bool := o == 0x24 || o == 0x28

/-- The row of R20 for a queue register. Assumption log: 108 (DEDUCED). -/
def queRight (who : Who) (o : Nat) : Right :=
  let n := if 0x100 ≤ o ∧ o < 0x500 then (o - 0x100) / 0x40 else 16
  match who with
  | .core _ => if n = 8 ∨ n = 9 ∨ o = 0x500 then .ro else .rw
  | .host => if n = 15 ∨ o = 0x500 then .rw else .no
  | .sepia => if n = 8 then .rw else if n = 9 ∨ n = 15 ∨ o = 0x500 then .no else .ro
  | .gauntlet => if n = 9 then .rw else if n = 8 ∨ n = 15 ∨ o = 0x500 then .no else .ro
  | .dma => .no
  | .part => .rw

/-- The access that R20 gives an initiator to a register of a block at offset o. Assumption log: 16 (DEDUCED), 108 (DEDUCED). -/
def right (who : Who) (b : Block) (o : Nat) : Right :=
  match b with
  | .que => queRight who o
  | .alloc | .lease | .ctle | .thrm | .mir | .lsw | .cot =>
    match who with
    | .core _ | .part => .rw
    | .sepia | .gauntlet => .ro
    | .host | .dma => .no
  | .pnt | .sess | .xcr | .fab | .can | .t1s | .spn | .host | .spm | .drc =>
    match who with
    | .core _ | .part => .rw
    | .sepia => .ro
    | .gauntlet | .host | .dma => .no
  | .mtr =>
    match who with
    | .core _ => if mtrMailbox o then .rw else .ro
    | .sepia | .part => .rw
    | .gauntlet | .host | .dma => .no
  | .gnt =>
    match who with
    | .core _ => if gntMailbox o then .rw else .ro
    | .gauntlet | .part => .rw
    | .sepia | .host | .dma => .no
  | .hlm =>
    match who with
    | .core _ => if hlmMailbox o then .rw else .no
    | .sepia | .part => .rw
    | .gauntlet | .host | .dma => .no
  | .sys =>
    match who with
    | .core _ | .sepia | .part => .rw
    | .host => if o = 0 ∨ o = 8 ∨ o = 12 then .ro else .no
    | .gauntlet => .ro
    | .dma => .no
  | .cfg | .aon =>
    match who with
    | .core _ | .sepia | .part => .rw
    | .gauntlet => .ro
    | .host | .dma => .no

/-- Whether R20 grants a write of the register at an address. Assumption log: 16 (DEDUCED). -/
def mayWrite (who : Who) (a : Nat) : Bool :=
  match blockAt a with
  | some (b, _, o) => right who b o == .rw
  | none => false

/-- Whether R20 grants a read. Assumption log: 16 (DEDUCED). -/
def mayRead (who : Who) (a : Nat) : Bool :=
  match blockAt a with
  | some (b, _, o) => right who b o != .no
  | none => false

/-- An encoding is issued when the field names no range or one range holds it (R11). Assumption log: 15 (DEDUCED). -/
def Fld.issued (f : Fld) (v : Nat) : Bool := f.legal.isEmpty || f.legal.any fun r => decide (r.1 ≤ v) && decide (v ≤ r.2)

/-- What a write does to one field. -/
inductive FldAct where
  | skip | set | notIssued | refused
  deriving DecidableEq, Repr

/-- R6, R11, R12 for one field: skip where the type or the value leaves it alone, refuse where the condition does
not hold. `whole`: every writable field of the register has a condition. -/
def Fld.act (f : Fld) (ok whole : Bool) (old new : Word) : FldAct :=
  match f.ty with
  | .rw | .sw =>
    if !ok then (if whole || bits new f.hi f.lo != bits old f.hi f.lo then .refused else .skip)
    else if f.issued (bits new f.hi f.lo) then .set else .notIssued
  | .wo => if f.issued (bits new f.hi f.lo) then .skip else .notIssued
  | .w1c | .w1s => .set
  | .ro | .rc => .skip

/-- The field's bits after a write that takes effect (R6). WO fields read as zero and hold nothing. -/
def Fld.apply (f : Fld) (old new : Word) : Word :=
  match f.ty with
  | .rw | .sw => setBits old f.hi f.lo (bits new f.hi f.lo)
  | .w1c => setBits old f.hi f.lo (Nat.land (bits old f.hi f.lo) (2 ^ (f.hi - f.lo + 1) - 1 - bits new f.hi f.lo))
  | .w1s => setBits old f.hi f.lo (Nat.lor (bits old f.hi f.lo) (bits new f.hi f.lo))
  | .wo | .ro | .rc => old

/-- The fields of a register after a write: each by its own rule. Assumption log: 15 (DEDUCED). -/
def writeFields (ok : Guard → Bool) (whole : Bool) (new : Word) (fs : List Fld) (old : Word) : Word :=
  fs.foldl (fun w f => match f.act (ok f.guard) whole old new with
    | .set => f.apply w new
    | _ => w) old

/-- Every field of a register that software can write has a condition. -/
def RegDesc.whole (d : RegDesc) : Bool := d.fields.all fun f => f.guard != .free || f.ty == .ro || f.ty == .rc

/-- The code of a refused write: 0x03 for an SW field (R12), 0x04 for a write refused in the present state. Assumption log: 15 (DEDUCED). -/
def RegDesc.refusal (d : RegDesc) : Nat := if d.fields.any fun f => f.ty == .sw then 3 else 4

namespace Io

/-- The key under which a register is kept: its address, and for a register in a window that of the selected one. -/
def regKey (io : Io) (a : Nat) : Nat :=
  match regDesc a, blockAt a with
  | some d, some (_, _, o) =>
    match d.win with
    | some w => bankKey a (io.fld (a - o + w.sel) w.hi w.lo)
    | none => a
  | _, _ => a

/-- The effect of a granted write on the register described by `d`, kept under `key` (R6, R11, R12). -/
def writeAs (io : Io) (d : RegDesc) (ok : Guard → Bool) (who : Who) (key a : Nat) (v : Word) : Io :=
  let old := io.reg key
  let acts := d.fields.map fun f => f.act (ok f.guard) d.whole old v
  let io1 := io.setReg key (writeFields ok d.whole v d.fields old)
  let io2 := if acts.contains .notIssued then io1.accessAt 2 who a v.toNat else io1
  if acts.contains .refused then io2.accessAt d.refusal who a v.toNat else io2

/-- An access to no region, window or register (R674). -/
def unmapped (io : Io) (who : Who) (a v : Nat) : Io := io.access .sys 0 1 who a v

/-- A write by an initiator (R6, R11, R12, R14, R20, R21, R674). The low half of a pair waits for its high half. -/
def write (io : Io) (ok : Guard → Bool) (who : Who) (a : Nat) (v : Word) : Io :=
  match regDesc a with
  | none => io.unmapped who a v.toNat
  | some d =>
    if mayWrite who a then
      if d.pair = 1 then { io with stage := Tbl.set io.stage none a (some v) }
      else if d.pair = 2 then
        match regDesc (a - 4), Tbl.get io.stage none (a - 4) with
        | some dl, some lo =>
          let io1 := { io with stage := Tbl.set io.stage none (a - 4) none }
          (io1.writeAs dl ok who (io1.regKey (a - 4)) (a - 4) lo).writeAs d ok who (io1.regKey a) a v
        | _, _ => io.writeAs d ok who (io.regKey a) a v
      else io.writeAs d ok who (io.regKey a) a v
    else io.accessAt 1 who a v.toNat

/-- The bits of a register that a read clears. -/
def rcMask (fs : List Fld) (w : Word) (v : Nat) : Word :=
  fs.foldl (fun w f => if f.ty = .rc then setBits w f.hi f.lo v else w) w

/-- A read by an initiator: the value goes to `bus`; an RC field is left holding what the same cycle brought, `ev`
(R10); a read of a low half latches its high half (R13). `view` gives the registers that show a block's state. -/
def read (io : Io) (view : Nat → Option Word) (who : Who) (a ev : Nat) : Io :=
  match regDesc a with
  | none => { io.unmapped who a 0 with bus := 0 }
  | some d =>
    if mayRead who a then
      let key := io.regKey a
      let val := fun (k : Nat) => (view k).getD (io.reg k)
      if d.pair = 1 ∨ (d.pair = 3 ∧ a % 8 = 0) then
        { io with stage := Tbl.set io.stage none (a + 4) (some (val (io.regKey (a + 4)))), bus := (val key).toNat }
      else
        match Tbl.get io.stage none a with
        | some hi =>
          if d.pair = 2 ∨ d.pair = 3 then { io with stage := Tbl.set io.stage none a none, bus := hi.toNat }
          else { io.setReg key (rcMask d.fields (io.reg key) ev) with bus := (val key).toNat }
        | none => { io.setReg key (rcMask d.fields (io.reg key) ev) with bus := (val key).toNat }
    else { io.accessAt 1 who a 0 with bus := 0 }

end Io
end Sys2Proof.Machine
end

