-- ==== Sys2Proof/Machine/AllocModel.lean ====
section
/-! DEFINITION. Sys2Proof/Machine/AllocModel.lean: the site model of R47 and R48, its checks (R49), efficiency maps. -/
namespace Sys2Proof.Machine

/-- n bytes of a model copy from offset o, little-endian. -/
def mN (m : Tbl Byte) (o : Nat) : Nat → Nat
  | 0 => 0
  | n + 1 => (Tbl.get m 0 o).toNat + 256 * mN m (o + 1) n

def mU8 (m : Tbl Byte) (o : Nat) : Nat := mN m o 1
def mU16 (m : Tbl Byte) (o : Nat) : Nat := mN m o 2
def mU32 (m : Tbl Byte) (o : Nat) : Nat := mN m o 4
def mS32 (m : Tbl Byte) (o : Nat) : Int := sxt 32 (mU32 m o)

/-- Header fields (R48). -/
def mVer (m : Tbl Byte) : Nat := mU32 m 0
def nNode (m : Tbl Byte) : Nat := mU16 m 4
def nSrc (m : Tbl Byte) : Nat := mU16 m 6
def nCab (m : Tbl Byte) : Nat := mU16 m 8
def nDisp (m : Tbl Byte) : Nat := mU16 m 10
def mF (m : Tbl Byte) : Int := mS32 m 0xC
def pRef (m : Tbl Byte) : Nat := mU32 m 0x10
def wClass (m : Tbl Byte) (c : Nat) : Int := mS32 m (0x20 + 4 * c)

/-- Record offsets (R47). -/
def nodeO (k : Nat) : Nat := 0x40 + 16 * k
def srcO (s : Nat) : Nat := 0x2040 + 160 * s
def cabO (c : Nat) : Nat := 0x4840 + 160 * c
def dispO (d : Nat) : Nat := 0x22840 + 32 * d
def reachO (g : Nat) : Nat := 0x24840 + 32 * g

def parent (m : Tbl Byte) (k : Nat) : Nat := mU16 m (nodeO k)
def fwdW (m : Tbl Byte) (k : Nat) : Int := mU32 m (nodeO k + 4)
def revW (m : Tbl Byte) (k : Nat) : Int := mU32 m (nodeO k + 8)
def auxW (m : Tbl Byte) (k : Nat) : Int := mU32 m (nodeO k + 12)
def srcNode (m : Tbl Byte) (s : Nat) : Nat := mU16 m (srcO s)
def srcKind (m : Tbl Byte) (s : Nat) : Nat := mU8 m (srcO s + 2)
def relaxRank (m : Tbl Byte) (s : Nat) : Nat := mU8 m (srcO s + 3)
def impMax (m : Tbl Byte) (s : Nat) : Int := mS32 m (srcO s + 4)
def expMax (m : Tbl Byte) (s : Nat) : Int := mS32 m (srcO s + 8)
def rampUp (m : Tbl Byte) (s : Nat) : Nat := mU32 m (srcO s + 0xC)
def rampDn (m : Tbl Byte) (s : Nat) : Nat := mU32 m (srcO s + 0x10)
def genMin (m : Tbl Byte) (s : Nat) : Int := mS32 m (srcO s + 0x14)
def srcNbp (m : Tbl Byte) (s : Nat) : Nat := mU8 m (srcO s + 0x18)
def cabNode (m : Tbl Byte) (c : Nat) : Nat := mU16 m (cabO c)
def cabReach (m : Tbl Byte) (c : Nat) : Nat := mU8 m (cabO c + 2)
def cabNbp (m : Tbl Byte) (c : Nat) : Nat := mU8 m (cabO c + 3)
def cabMax (m : Tbl Byte) (c : Nat) : Int := mS32 m (cabO c + 4)
def cabMin (m : Tbl Byte) (c : Nat) : Int := mS32 m (cabO c + 8)
def cabAtk (m : Tbl Byte) (c : Nat) : Nat := mU16 m (cabO c + 0xC)
def cabStatusMs (m : Tbl Byte) (c : Nat) : Nat := mU16 m (cabO c + 0xE)
def dispMax (m : Tbl Byte) (d : Nat) : Int := mS32 m (dispO d)
def dispMin (m : Tbl Byte) (d : Nat) : Int := mS32 m (dispO d + 4)
def dispClass (m : Tbl Byte) (d : Nat) : Nat := mU8 m (dispO d + 8)
def dispHead (m : Tbl Byte) (d : Nat) : Nat := mU16 m (dispO d + 0xA)

/-- Whether dispenser d, declared in the model, is in the reach group of cabinet c. -/
def reaches (m : Tbl Byte) (c d : Nat) : Bool :=
  decide (d < nDisp m) && bitsN (mU8 m (reachO (cabReach m c) + d / 8)) (d % 8) (d % 8) == 1

/-- A breakpoint: power and loss. The map starts 0x20 bytes into a source or cabinet record. -/
abbrev BP := Int × Int

/-- The breakpoints of a map of n entries at offset o. -/
def mapAt (m : Tbl Byte) (o : Nat) : Nat → List BP
  | 0 => []
  | n + 1 => (mS32 m o, (mU32 m (o + 4) : Int)) :: mapAt m (o + 8) n

def srcMap (m : Tbl Byte) (s : Nat) : List BP := mapAt m (srcO s + 0x20) (srcNbp m s)
def cabMap (m : Tbl Byte) (c : Nat) : List BP := mapAt m (cabO c + 0x20) (cabNbp m c)

/-- A segment of a map: its ends and its slope in Q16.16, rounded to nearest. -/
structure Seg where
  p0 : Int
  l0 : Int
  p1 : Int
  l1 : Int
  slope : Int
  deriving DecidableEq, Repr

/-- The segments of a map; the precomputed slope is the loss difference over the power difference. -/
def segs : List BP → List Seg
  | (p0, l0) :: (p1, l1) :: r =>
    ⟨p0, l0, p1, l1, ndiv ((l1 - l0) * 65536) (p1 - p0).toNat⟩ :: segs ((p1, l1) :: r)
  | _ => []

/-- The loss at power p as an exact fraction: numerator and denominator. Below the first or above the last
breakpoint the end segment is extended. -/
def lossFrac : List Seg → Int → Int × Nat
  | [], _ => (0, 1)
  | [s], p => (s.l0 * (s.p1 - s.p0) + (s.l1 - s.l0) * (p - s.p0), (s.p1 - s.p0).toNat)
  | s :: t :: r, p =>
    if p ≤ s.p1 then (s.l0 * (s.p1 - s.p0) + (s.l1 - s.l0) * (p - s.p0), (s.p1 - s.p0).toNat)
    else lossFrac (t :: r) p

/-- The loss at power p, W: linear interpolation between breakpoints. The spec does not say how an inexact value is
rounded. -/
def lossAt (l : List BP) (p : Int) : Int :=
  let f := lossFrac (segs l) p
  odiv f.1 f.2

/-- The ancestors of a node, itself first, up to node 0, within n steps. -/
def chain (m : Tbl Byte) (k : Nat) : Nat → List Nat
  | 0 => [k]
  | n + 1 => if k = 0 then [0] else if parent m k = 0xFFFF then [k] else k :: chain m (parent m k) n

/-- The path of a node to the root. -/
def path (m : Tbl Byte) (k : Nat) : List Nat := chain m k 511

/-- Whether node j lies in the subtree of node k. -/
def under (m : Tbl Byte) (k j : Nat) : Bool := (path m j).contains k

def idx (n : Nat) : List Nat := List.range n

/-- Nodes bottom-up, ascending within each depth (R58). -/
def bottomUp (m : Tbl Byte) : List Nat :=
  let depth := fun k => (path m k).length
  (idx 513).reverse.flatMap fun dp => (idx (nNode m)).filter fun k => depth k == dp

/-- Every byte of a range is zero. -/
def zeroBytes (m : Tbl Byte) (o n : Nat) : Bool := m.all fun e => decide (e.1 < o) || decide (o + n ≤ e.1) || e.2 == 0

def rising : List Int → Bool
  | a :: b :: r => decide (a < b) && rising (b :: r)
  | _ => true

def nondec : List Int → Bool
  | a :: b :: r => decide (a ≤ b) && nondec (b :: r)
  | _ => true

/-- The maps of the model with the range each must cover. -/
def allMaps (m : Tbl Byte) : List (List BP × Int × Int) :=
  (idx (nSrc m)).map (fun s => (srcMap m s, -expMax m s, impMax m s))
    ++ (idx (nCab m)).map fun c => (cabMap m c, cabMin m c, cabMax m c)

def mapCovers (b : List BP × Int × Int) : Bool :=
  match b.1.head?, b.1.getLast? with
  | some a, some z => decide (a.1 ≤ b.2.1) && decide (b.2.2 ≤ z.1)
  | _, _ => false

/-- The checks of R49, each with its code, in the order of the table. -/
def modelChecks (m : Tbl Byte) : List (Nat × Bool) := [
  (1, decide (nNode m ≤ 512) && decide (nSrc m ≤ 64) && decide (nCab m ≤ 768) && decide (nDisp m ≤ 256)
      && zeroBytes m 0x14 12 && zeroBytes m 0x25040 0x2FC0
      && (idx (nNode m)).all (fun k => zeroBytes m (nodeO k + 3) 1)
      && (idx (nSrc m)).all (fun s => zeroBytes m (srcO s + 0x19) 7)
      && (idx (nCab m)).all (fun c => zeroBytes m (cabO c + 0x10) 16)
      && (idx (nDisp m)).all fun d => zeroBytes m (dispO d + 9) 1 && zeroBytes m (dispO d + 0xC) 20),
  (2, decide (0 < nNode m) && parent m 0 == 0xFFFF
      && (idx (nNode m)).all (fun k => k == 0 || (parent m k != 0xFFFF && decide (parent m k < nNode m)
            && (path m k).getLast? == some 0))
      && (idx (nSrc m)).all (fun s => decide (srcNode m s < nNode m))
      && (idx (nCab m)).all fun c => decide (cabNode m c < nNode m)),
  (3, fwdW m 0 == 0 && revW m 0 == 0),
  (4, (allMaps m).all fun b => rising (b.1.map Prod.fst)),
  (5, (allMaps m).all fun b => nondec ((segs b.1).map Seg.slope)),
  (6, (allMaps m).all fun b => (segs b.1).all fun s => decide (-65536 < s.slope) && decide (s.slope < 65536)),
  (7, (allMaps m).all mapCovers),
  (8, (idx (nDisp m)).all fun d => decide (mF m + 65536 ≤ wClass m (dispClass m d))),
  (9, (idx (nDisp m)).all fun d => decide (dispMax m d ≤ pRef m)),
  (10, ((idx (nSrc m)).map (relaxRank m)).eraseDups.length == nSrc m
      && decide (0 ≤ mF m) && decide (mF m ≤ 16 * 65536)
      && (idx (nNode m)).all (fun k => decide (mU8 m (nodeO k + 2) ≤ 3) && decide (fwdW m k ≤ 0x7FFFFFFF)
            && decide (revW m k ≤ 0x7FFFFFFF) && decide (auxW m k ≤ 0x7FFFFFFF))
      && (idx (nSrc m)).all (fun s => decide (srcKind m s ≤ 2) && decide (relaxRank m s ≤ 63) && decide (0 ≤ impMax m s)
            && decide (0 ≤ expMax m s) && decide (0 ≤ genMin m s) && (srcKind m s == 2 || genMin m s == 0)
            && decide (2 ≤ srcNbp m s) && decide (srcNbp m s ≤ 16))
      && (idx (nCab m)).all (fun c => decide (cabReach m c ≤ 63) && decide (2 ≤ cabNbp m c) && decide (cabNbp m c ≤ 16)
            && decide (0 < cabMax m c) && decide (cabMin m c ≤ 0) && decide (0x1000 ≤ cabAtk m c)
            && decide (cabAtk m c ≤ 0x1FFF) && decide (1 ≤ cabStatusMs m c) && decide (cabStatusMs m c ≤ 100))
      && (idx (nDisp m)).all fun d => decide (1 ≤ dispMax m d) && decide (dispMax m d ≤ 3750000)
            && decide (-3750000 ≤ dispMin m d) && decide (dispMin m d ≤ 0) && decide (dispClass m d ≤ 7)
            && decide (0x100 ≤ dispHead m d) && decide (dispHead m d ≤ 0xFFF))]

/-- R49: the code of the first failing check, 0 when the model passes. -/
def modelCode (m : Tbl Byte) : Nat := ((modelChecks m).find? fun c => !c.2).elim 0 Prod.fst

/-- R50: SWAP validates the pending copy. A copy that passes waits for the first tick that starts 100 µs later; one
that fails is refused with its code. -/
def modelSwap (a : AllocSt) (io : Io) : AllocSt × Io :=
  if io.flag Reg.ALLOC.MODEL_CTL 1 then (a, io)
  else
    let c := modelCode a.modelP
    if c = 0 then
      ({ a with swapAt := some (io.now + 100 * us) },
       (io.setFld Reg.ALLOC.MODEL_CTL 15 8 0).setFld Reg.ALLOC.MODEL_CTL 1 0 3)
    else (a, (io.setFld Reg.ALLOC.MODEL_CTL 15 8 c).evt 0x40100000 8)

/-- R51: the swap takes effect at a tick that starts at `start`. -/
def modelSwapEffect (start : Nat) (a : AllocSt) (io : Io) : AllocSt × Io :=
  match a.swapAt with
  | some t =>
    if t ≤ start then
      ({ a with model := a.modelP, swapAt := none, pi := [], ue := false },
       ((io.setFld Reg.ALLOC.MODEL_CTL 1 0 0).setReg Reg.ALLOC.MODEL_VER (w32 (mVer a.modelP))).evt 0x40100000 7)
    else (a, io)
  | none => (a, io)

/-- R52: an access to MODEL_DATA reads or writes the pending copy and advances MODEL_ADDR; a write while BUSY is
ignored and recorded. -/
def modelData (who : Who) (write : Bool) (v : Word) (a : AllocSt) (io : Io) : AllocSt × Io :=
  let o := io.fld Reg.ALLOC.MODEL_ADDR 17 0
  let adv := io.setFld Reg.ALLOC.MODEL_ADDR 17 0 (o + 4)
  if write then
    if !mayWrite who Reg.ALLOC.MODEL_DATA then (a, io.accessAt 1 who Reg.ALLOC.MODEL_DATA v.toNat)
    else if io.flag Reg.ALLOC.MODEL_CTL 1 then (a, io.accessAt 4 who Reg.ALLOC.MODEL_DATA v.toNat)
    else
      let put := fun (t : Tbl Byte) (i : Nat) => Tbl.set t 0 (o + i) (BitVec.ofNat 8 (v.toNat / 256 ^ i))
      (if o ≤ 0x27FFC then { a with modelP := [0, 1, 2, 3].foldl put a.modelP } else a, adv)
  else if !mayRead who Reg.ALLOC.MODEL_DATA then (a, { io.accessAt 1 who Reg.ALLOC.MODEL_DATA 0 with bus := 0 })
  else (a, { adv with bus := if o ≤ 0x27FFC then mU32 a.modelP o else 0 })

end Sys2Proof.Machine
end

