-- ==== Sys2Proof/Machine/AllocSolve.lean ====
section
/-! DEFINITION. Sys2Proof/Machine/AllocSolve.lean: the problem of one tick, the check and shedding, the solver, rounding
and repair (R43 to R46, R53 to R70, R700, R701). -/
namespace Sys2Proof.Machine

/-- The problem of one tick: the model, the bounds of every dispenser (R701) and source (R44), the cabinets that may
carry power and the dispenser each serves, and the cabinets that draw (not FREE). -/
structure Prob where
  m : Tbl Byte
  hi : Tbl Int
  lo : Tbl Int
  shi : Tbl Int
  slo : Tbl Int
  disp : Tbl Nat      -- cabinet ↦ dispenser + 1 where it is BOUND and available
  draws : Tbl Bool    -- cabinet ↦ not FREE
  admitted : Tbl Bool -- dispenser ↦ routed and admitted
  deriving DecidableEq, Repr

/-- The cabinets that serve dispenser d, ascending. -/
def Prob.cabsOf (p : Prob) (d : Nat) : List Nat := (p.disp.filter fun e => e.2 == d + 1).map Prod.fst

def Prob.hiOf (p : Prob) (d : Nat) : Int := Tbl.get p.hi 0 d
def Prob.loOf (p : Prob) (d : Nat) : Int := Tbl.get p.lo 0 d
def Prob.adm (p : Prob) (d : Nat) : Bool := Tbl.get p.admitted false d

def sumI (l : List Int) : Int := l.foldl (· + ·) 0

/-- R70: the cabinet's latest STATUS is fresh and reports READY. -/
def cabAvail (a : AllocSt) (now c : Nat) : Bool :=
  let x := Tbl.get a.cab CabIn.init c
  x.seen && x.st == 1 && decide (now ≤ x.at_ + 4 * cabStatusMs a.model c * ms)

def routeOf (a : AllocSt) (c : Nat) : Route := Tbl.get a.route Route.init c

/-- Cabinet ↦ dispenser + 1 where BOUND and available. -/
def servedBy (a : AllocSt) (now : Nat) : Tbl Nat :=
  (idx (nCab a.model)).filterMap fun c =>
    let r := routeOf a c
    match r.st, r.disp with
    | .bound, some d => if cabAvail a now c then some (c, d + 1) else none
    | _, _ => none

/-- R44: the bounds of a source, with the ramp terms left out where `noUp` or `noDn`; R700: a ramp term that inverts
the bounds is dropped, and lo is set to hi if they still cross. The Boolean says that R700 dropped a term. -/
def srcBounds (a : AllocSt) (io : Io) (x : SrcIn) (noUp noDn : Bool) (s : Nat) : Int × Int × Bool :=
  let m := a.model
  let prev := Tbl.get a.ps 0 s
  let imp := min (impMax m s) (io.reg (Reg.ALLOC.SRC_IMP_LIM s)).toNat
  let exp := max (-expMax m s) (-((io.reg (Reg.ALLOC.SRC_EXP_LIM s)).toNat : Int))
  let hi0 := if srcKind m s = 1 then min imp x.dis else imp
  let lo0 := if srcKind m s = 1 then max exp (-x.chg) else if srcKind m s = 2 then max exp (genMin m s) else exp
  let up := prev + odiv (rampUp m s) 4
  let dn := prev - odiv (rampDn m s) 4
  let hi := if noUp then hi0 else min hi0 up
  let lo := if noDn then lo0 else max lo0 dn
  if lo ≤ hi then (lo, hi, false)
  else
    let dropDn := !noDn && decide (dn > hi)
    let dropUp := !noUp && decide (up < lo)
    let lo1 := if dropDn then lo0 else lo
    let hi1 := if dropUp then hi0 else hi
    (if lo1 ≤ hi1 then lo1 else hi1, hi1, dropDn || dropUp)

/-- R701: the bounds of a dispenser made consistent with its BOUND, available cabinets. -/
def r701 (m : Tbl Byte) (cabs : List Nat) (hi lo : Int) : Int × Int :=
  let top := sumI (cabs.map (cabMax m))
  let bot := sumI (cabs.map (cabMin m))
  let c := fun (x : Int) => max bot (min top x)
  let hi1 := c hi
  let lo1 := c lo
  let lo2 := if hi1 < lo1 ∧ 0 < lo1 then max hi1 0 else lo1
  (if hi1 < lo2 then lo2 else hi1, lo2)

/-- R61: the point of an interval nearest to zero. -/
def nearZero (lo hi : Int) : Int := if 0 < lo then lo else if hi < 0 then hi else 0

/-- The power a dispenser is held at while the bounds are checked. -/
def heldAt (p : Prob) (d : Nat) : Int :=
  if p.adm d then (if 0 < p.loOf d then p.loOf d else if p.hiOf d < 0 then p.hiOf d else 0) else 0

/-- The share of a held dispenser's power that cabinet c takes: in proportion to OUT_MAX_W, or to the magnitude of
OUT_MIN_W when discharging. -/
def heldShare (p : Prob) (d c : Nat) : Int :=
  let x := heldAt p d
  let cs := p.cabsOf d
  let w := fun k => if 0 ≤ x then cabMax p.m k else -cabMin p.m k
  let tot := sumI (cs.map w)
  if x = 0 ∨ tot ≤ 0 then 0 else odiv (x * w c) tot.toNat

/-- AC power of a cabinet at output x (chapter 01): a FREE cabinet draws nothing. -/
def acOf (p : Prob) (c : Nat) (x : Int) : Int := if Tbl.get p.draws false c then x + lossAt (cabMap p.m c) x else 0

/-- Draw at a node itself: its cabinets and its auxiliary allowance. -/
def nodeDraw (p : Prob) (out : Nat → Int) (k : Nat) : Int :=
  auxW p.m k + sumI (((idx (nCab p.m)).filter fun c => cabNode p.m c == k).map fun c => acOf p c (out c))

/-- The sources attached to a node. -/
def srcsAt (m : Tbl Byte) (k : Nat) : List Nat := (idx (nSrc m)).filter fun s => srcNode m s == k

/-- The children of a node. -/
def kids (m : Tbl Byte) (k : Nat) : List Nat := (idx (nNode m)).filter fun j => j != 0 && parent m j == k

def clampI (lo hi x : Int) : Int := max lo (min hi x)

/-- The reachable interval of p_in(k), given the children's already computed intervals, each cut to the child's
limits. -/
def interval (p : Prob) (out : Nat → Int) (done : Tbl (Int × Int)) (k : Nat) : Int × Int :=
  let base := nodeDraw p out k
  let ks := (kids p.m k).map fun j =>
    let b := Tbl.get done (0, 0) j
    (clampI (-revW p.m j) (fwdW p.m j) b.1, clampI (-revW p.m j) (fwdW p.m j) b.2)
  (base + sumI (ks.map Prod.fst) - sumI ((srcsAt p.m k).map fun s => Tbl.get p.shi 0 s),
   base + sumI (ks.map Prod.snd) - sumI ((srcsAt p.m k).map fun s => Tbl.get p.slo 0 s))

/-- The first failing node bottom-up, and whether it has excess demand (true) or excess supply (false). -/
def findExcess (p : Prob) (out : Nat → Int) : List Nat → Tbl (Int × Int) → Option (Nat × Bool)
  | [], _ => none
  | k :: r, done =>
    let b := interval p out done k
    if b.1 > fwdW p.m k then some (k, true)
    else if b.2 < -revW p.m k then some (k, false)
    else findExcess p out r (Tbl.set done (0, 0) k b)

/-- The check of *Infeasibility and shedding*. -/
def check (p : Prob) : Option (Nat × Bool) :=
  findExcess p (fun c => match Tbl.get p.disp 0 c with
    | 0 => 0
    | d + 1 => heldShare p d c) (bottomUp p.m) []

/-- The shedding order of R66: class descending, session start descending, index descending. -/
def shedKey (m : Tbl Byte) (inp : Tbl DispIn) (d : Nat) : Nat × Nat × Nat :=
  (dispClass m d, (Tbl.get inp DispIn.init d).start, d)

def keyGt (a b : Nat × Nat × Nat) : Bool :=
  decide (b.1 < a.1) || (a.1 == b.1 && (decide (b.2.1 < a.2.1) || (a.2.1 == b.2.1 && decide (b.2.2 < a.2.2))))

/-- The first of a list in shedding order. -/
def firstShed (m : Tbl Byte) (inp : Tbl DispIn) (l : List Nat) : Option Nat :=
  l.foldl (fun best d => match best with
    | none => some d
    | some b => if keyGt (shedKey m inp d) (shedKey m inp b) then some d else some b) none

/-- The last of a list in shedding order: the first in readmission order (R69). -/
def lastShed (m : Tbl Byte) (inp : Tbl DispIn) (l : List Nat) : Option Nat :=
  l.foldl (fun best d => match best with
    | none => some d
    | some b => if keyGt (shedKey m inp b) (shedKey m inp d) then some d else some b) none

/-- A dispenser with a cabinet in the subtree of node k. -/
def dispUnder (p : Prob) (k d : Nat) : Bool := (p.cabsOf d).any fun c => under p.m k (cabNode p.m c)

/-- The next source in ascending RELAX_RANK. -/
def firstRank (m : Tbl Byte) (l : List Nat) : Option Nat :=
  l.foldl (fun best s => match best with
    | none => some s
    | some b => if relaxRank m s < relaxRank m b then some s else some b) none

/-- How far R63 to R65 have gone: the problem, what was shed, which ramp limits were relaxed. -/
structure Shedding where
  p : Prob
  shed : List (Nat × Bool)   -- dispenser, by R65
  up : List Nat
  dn : List Nat
  infeas : Bool
  residual : Bool
  deriving DecidableEq, Repr

/-- R63 to R67: shed or relax one at a time and check again. `bnd s noUp noDn`: the bounds of R44. -/
def shedLoop (bnd : Nat → Bool → Bool → Int × Int × Bool) (inp : Tbl DispIn) : Nat → Shedding → Shedding
  | 0, x => { x with residual := (check x.p).isSome }
  | n + 1, x =>
    match check x.p with
    | none => x
    | some (k, true) =>
      let cand := (idx (nDisp x.p.m)).filter fun d => x.p.adm d && decide (0 < x.p.loOf d) && dispUnder x.p k d
      match firstShed x.p.m inp cand with
      | some d =>
        shedLoop bnd inp n { x with
          p := { x.p with hi := Tbl.set x.p.hi 0 d 0, lo := Tbl.set x.p.lo 0 d 0,
                          admitted := Tbl.set x.p.admitted false d false },
          shed := (d, false) :: x.shed, infeas := true }
      | none =>
        let sc := (idx (nSrc x.p.m)).filter fun s => under x.p.m k (srcNode x.p.m s) && !x.up.contains s
        match firstRank x.p.m sc with
        | some s =>
          let b := bnd s true (x.dn.contains s)
          shedLoop bnd inp n { x with
            p := { x.p with slo := Tbl.set x.p.slo 0 s b.1, shi := Tbl.set x.p.shi 0 s b.2.1 },
            up := s :: x.up, infeas := true }
        | none => { x with infeas := true, residual := true }
    | some (k, false) =>
      let cand := (idx (nDisp x.p.m)).filter fun d => x.p.adm d && decide (x.p.hiOf d < 0) && dispUnder x.p k d
      match firstShed x.p.m inp cand with
      | some d =>
        shedLoop bnd inp n { x with
          p := { x.p with hi := Tbl.set x.p.hi 0 d 0, lo := Tbl.set x.p.lo 0 d 0,
                          admitted := Tbl.set x.p.admitted false d false },
          shed := (d, true) :: x.shed, infeas := true }
      | none =>
        let sc := (idx (nSrc x.p.m)).filter fun s => under x.p.m k (srcNode x.p.m s) && !x.dn.contains s
        match firstRank x.p.m sc with
        | some s =>
          let b := bnd s (x.up.contains s) true
          shedLoop bnd inp n { x with
            p := { x.p with slo := Tbl.set x.p.slo 0 s b.1, shi := Tbl.set x.p.shi 0 s b.2.1 },
            dn := s :: x.dn, infeas := true }
        | none => { x with infeas := true, residual := true }

/-- A segment offered to a dispenser: cabinet, length in watts, cost of a watt in units of 2^-32. -/
structure Offer where
  cab : Nat
  len : Int
  cost : Int
  deriving DecidableEq, Repr

/-- cost(c, i) = (1 + slope)(1 + Pi) - 1, exactly, in units of 2^-32. -/
def offerCost (slope Pi : Int) : Int := (65536 + slope) * (65536 + Pi) - 4294967296

/-- The segments of the bound cabinets on the positive side, clipped to [0, OUT_MAX_W]. -/
def offersPos (p : Prob) (Pi : Tbl Int) (d : Nat) : List Offer :=
  (p.cabsOf d).flatMap fun c => (segs (cabMap p.m c)).filterMap fun s =>
    let a := max 0 s.p0
    let b := min (cabMax p.m c) s.p1
    if a < b then some ⟨c, b - a, offerCost s.slope (Tbl.get Pi 0 (cabNode p.m c))⟩ else none

/-- The segments on the negative side, clipped to [OUT_MIN_W, 0]. -/
def offersNeg (p : Prob) (Pi : Tbl Int) (d : Nat) : List Offer :=
  (p.cabsOf d).flatMap fun c => ((segs (cabMap p.m c)).filterMap fun s =>
    let a := max (cabMin p.m c) s.p0
    let b := min 0 s.p1
    if a < b then some ⟨c, b - a, offerCost s.slope (Tbl.get Pi 0 (cabNode p.m c))⟩ else none).reverse

/-- Insert keeping costs in the order `le`; equal costs keep their order, lower cabinet first. -/
def insertOffer (le : Int → Int → Bool) (o : Offer) : List Offer → List Offer
  | [] => [o]
  | x :: r => if le x.cost o.cost then x :: insertOffer le o r else o :: x :: r

def sortOffers (le : Int → Int → Bool) (l : List Offer) : List Offer :=
  l.foldl (fun acc o => insertOffer le o acc) []

/-- The marginal value of a further watt at x exceeds a cost: W_CLASS - F x / P_REF > cost, compared exactly. -/
def valueAbove (m : Tbl Byte) (d : Nat) (x cost : Int) : Bool :=
  decide (cost * pRef m < wClass m (dispClass m d) * 65536 * pRef m - mF m * 65536 * x)

/-- The x at which the marginal value equals a cost; none where the value does not depend on x. -/
def levelAt (m : Tbl Byte) (d : Nat) (cost : Int) : Option Int :=
  if 0 < mF m then some (odiv ((wClass m (dispClass m d) * 65536 - cost) * pRef m) (mF m * 65536).toNat) else none

/-- Extend x through the offers in order while the value exceeds the cost and x is below hi. -/
def fillUp (m : Tbl Byte) (d : Nat) (hi : Int) : List Offer → Int → Int
  | [], x => x
  | o :: r, x =>
    if x < hi ∧ valueAbove m d x o.cost = true then
      let lim := (levelAt m d o.cost).elim (x + o.len) fun l => min (x + o.len) (max x l)
      let x1 := min hi lim
      if x1 = x + o.len then fillUp m d hi r x1 else x1
    else x

/-- The same on the negative side: x goes down while the cost saved exceeds the value. -/
def fillDown (m : Tbl Byte) (d : Nat) (lo : Int) : List Offer → Int → Int
  | [], x => x
  | o :: r, x =>
    if lo < x ∧ valueAbove m d x o.cost = false then
      let lim := (levelAt m d o.cost).elim (x - o.len) fun l => max (x - o.len) (min x l)
      let x1 := max lo lim
      if x1 = x - o.len then fillDown m d lo r x1 else x1
    else x

/-- The shares of a level: the offers taken in order up to it. -/
def shares : List Offer → Int → Tbl Int → Tbl Int
  | [], _, acc => acc
  | o :: r, left, acc =>
    if left ≤ 0 then acc else shares r (left - o.len) (Tbl.upd acc 0 o.cab fun v => v + min left o.len)

/-- fill(d, Pi): the best response and its shares. -/
def fill (p : Prob) (Pi : Tbl Int) (d : Nat) : Int × Tbl Int :=
  let pos := sortOffers (fun a b => decide (a ≤ b)) (offersPos p Pi d)
  let neg := sortOffers (fun a b => decide (b ≤ a)) (offersNeg p Pi d)
  let x0 := fillUp p.m d (p.hiOf d) pos 0
  let x1 := if p.loOf d < 0 ∧ x0 = 0 then fillDown p.m d (p.loOf d) neg 0 else x0
  let x := clampI (p.loOf d) (p.hiOf d) x1
  if 0 ≤ x then (x, shares pos x []) else (x, (shares neg (-x) []).map fun e => (e.1, -e.2))

/-- The point of [lo, hi] where the slope of a source's loss crosses its path price. Assumption log: 25 (DEDUCED). -/
def srcPoint (l : List Seg) (Pi lo hi : Int) : Int :=
  clampI lo hi ((l.filter fun s => decide (s.slope < Pi)).foldl (fun _ s => s.p1) (l.head?.elim lo fun s => s.p0))

/-- The variables of the iteration: p_d, p_c, p_s and the prices. -/
structure Vars where
  pd : Tbl Int
  pc : Tbl Int
  ps : Tbl Int
  pi : Tbl Int
  deriving DecidableEq, Repr

/-- p_in(k) of every node. -/
def flows (p : Prob) (pc ps : Tbl Int) : Tbl Int :=
  (bottomUp p.m).foldl (fun acc k =>
    Tbl.set acc 0 k (nodeDraw p (fun c => Tbl.get pc 0 c) k - sumI ((srcsAt p.m k).map fun s => Tbl.get ps 0 s)
      + sumI ((kids p.m k).map fun j => Tbl.get acc 0 j))) []

/-- Path prices, Pi(k): the sum of the prices of k and its ancestors. -/
def pathPrices (m : Tbl Byte) (pi : Tbl Int) : Tbl Int :=
  (idx (nNode m)).foldl (fun acc k => Tbl.set acc 0 k (sumI ((path m k).map fun j => Tbl.get pi 0 j))) []

/-- A step of the fixed fraction 2^-sh, rounded to nearest W. -/
def toward (sh : Nat) (p q : Int) : Int := p + rshiftRound (q - p) sh

/-- A price after the flows of one iteration. -/
def priceStep (p : Prob) (ash : Nat) (flow : Int) (k : Nat) (pi : Int) : Int :=
  let den := pRef p.m * 2 ^ ash
  let stepQ := fun (v : Int) => odiv (v * 65536) den
  let v := if flow > fwdW p.m k then flow - fwdW p.m k else if flow < -revW p.m k then flow + revW p.m k else 0
  let new :=
    if k = 0 then pi + stepQ flow
    else if v ≠ 0 then pi + stepQ v
    else if 0 < pi then max 0 (pi - stepQ (fwdW p.m k - flow))
    else if pi < 0 then min 0 (pi + stepQ (flow + revW p.m k))
    else 0
  clampI (-4194304) 4194304 new

/-- One iteration of solve. -/
def iterate (p : Prob) (ash bsh : Nat) (v : Vars) : Vars :=
  let Pi := pathPrices p.m v.pi
  let ds := (idx (nDisp p.m)).filter p.adm
  let best := ds.map fun d => (d, fill p Pi d)
  let q := best.map fun e => (e.1, e.2.1)
  let qc := best.flatMap fun e => e.2.2
  let pd := (idx (nDisp p.m)).foldl (fun t d =>
    Tbl.set t 0 d (if p.adm d then toward bsh (Tbl.get v.pd 0 d) (Tbl.get q 0 d) else 0)) []
  let pc := (idx (nCab p.m)).foldl (fun t c =>
    let on := match Tbl.get p.disp 0 c with
      | 0 => false
      | d + 1 => p.adm d
    Tbl.set t 0 c (if on then toward bsh (Tbl.get v.pc 0 c) (Tbl.get qc 0 c) else 0)) []
  let ps := (idx (nSrc p.m)).foldl (fun t s =>
    Tbl.set t 0 s (toward bsh (Tbl.get v.ps 0 s)
      (srcPoint (segs (srcMap p.m s)) (Tbl.get Pi 0 (srcNode p.m s)) (Tbl.get p.slo 0 s) (Tbl.get p.shi 0 s)))) []
  let fl := flows p pc ps
  ⟨pd, pc, ps, (idx (nNode p.m)).foldl (fun t k => Tbl.set t 0 k (priceStep p ash (Tbl.get fl 0 k) k (Tbl.get v.pi 0 k))) []⟩

/-- R54: exactly n iterations. -/
def iterN (p : Prob) (ash bsh : Nat) : Nat → Vars → Vars
  | 0, v => v
  | n + 1, v => iterN p ash bsh n (iterate p ash bsh v)

/-- R56: the nearest multiple of the grant step, ties toward zero, or the bound that it crossed. -/
def grantRound (step : Nat) (lo hi x : Int) : Int :=
  let a := x.natAbs
  let n := (2 * a + step - 1) / (2 * step) * step
  clampI lo hi (if 0 ≤ x then (n : Int) else -n)

/-- What a cabinet can still take in the direction of x. -/
def headroom (m : Tbl Byte) (x : Int) (c : Nat) (v : Int) : Int := if 0 ≤ x then cabMax m c - v else v - cabMin m c

/-- R57: the remainder goes to the lowest cabinet with headroom, and on to the next where it does not fit. -/
def spread (m : Tbl Byte) (x : Int) : List Nat → Int → Tbl Int → Tbl Int
  | [], _, t => t
  | c :: r, left, t =>
    let give := min left (max 0 (headroom m x c (Tbl.get t 0 c)))
    spread m x r (left - give) (Tbl.upd t 0 c fun v => if 0 ≤ x then v + give else v - give)

/-- R57: split a rounded p_d among cabinets in proportion to their iterate shares. -/
def splitCabs (m : Tbl Byte) (cs : List Nat) (iter : Tbl Int) (x : Int) : Tbl Int :=
  let tot := sumI (cs.map fun c => Tbl.get iter 0 c)
  let t := cs.foldl (fun t c => Tbl.set t 0 c (if tot = 0 then 0 else tdiv (x * Tbl.get iter 0 c) tot)) []
  let rest := x.natAbs - (sumI (cs.map fun c => Tbl.get t 0 c)).natAbs
  spread m x cs rest t

/-- What repair works on: powers, the iterate shares, flows, what it changed. -/
structure Rep where
  pd : Tbl Int
  pc : Tbl Int
  ps : Tbl Int
  fl : Tbl Int
  cut : List Nat
  moved : Int
  any : Bool
  deriving DecidableEq, Repr

/-- The flow of every node on the path of node j changes by x. -/
def addFlow (m : Tbl Byte) (fl : Tbl Int) (j : Nat) (x : Int) : Tbl Int :=
  (path m j).foldl (fun t k => Tbl.upd t 0 k (· + x)) fl

/-- Put a dispenser at a power: its cabinets' shares and the flows follow. -/
def setDisp (p : Prob) (iter : Tbl Int) (d : Nat) (x : Int) (r : Rep) : Rep :=
  let cs := p.cabsOf d
  let new := splitCabs p.m cs iter x
  cs.foldl (fun r c =>
    let dv := acOf p c (Tbl.get new 0 c) - acOf p c (Tbl.get r.pc 0 c)
    { r with pc := Tbl.set r.pc 0 c (Tbl.get new 0 c), fl := addFlow p.m r.fl (cabNode p.m c) dv,
             moved := r.moved + dv.natAbs })
    { r with pd := Tbl.set r.pd 0 d x, any := true }

/-- Move a source: the flows of its path follow. -/
def setSrc (p : Prob) (s : Nat) (x : Int) (r : Rep) : Rep :=
  let dv := x - Tbl.get r.ps 0 s
  { r with ps := Tbl.set r.ps 0 s x, fl := addFlow p.m r.fl (srcNode p.m s) (-dv) }

/-- The nodes on the path of source s below node k. -/
def pathBelow (m : Tbl Byte) (k s : Nat) : List Nat := (path m (srcNode m s)).takeWhile fun j => j != k

def minI (l : List Int) (x : Int) : Int := l.foldl min x

/-- R58, first part of each rule: BUFFER and GEN sources in ascending index. `up`: raise them, for an excess above
FWD_W; otherwise lower them. -/
def repairSrcs (p : Prob) (k : Nat) (up : Bool) (e : Rep → Int) : List Nat → Rep → Rep
  | [], r => r
  | s :: t, r =>
    let need := e r
    let x := Tbl.get r.ps 0 s
    let room := if up then Tbl.get p.shi 0 s - x else x - Tbl.get p.slo 0 s
    let pathRoom := (pathBelow p.m k s).map fun j =>
      if up then Tbl.get r.fl 0 j + revW p.m j else fwdW p.m j - Tbl.get r.fl 0 j
    let n := max 0 (minI pathRoom (min need room))
    let r1 := if 0 < need ∧ 0 < n then
        { setSrc p s (if up then x + n else x - n) r with moved := r.moved + n, any := true } else r
    repairSrcs p k up e t r1

/-- Grant steps of one dispenser toward `goal` while the excess lasts. -/
def repairSteps (p : Prob) (iter : Tbl Int) (stp : Nat) (e : Rep → Int) (d : Nat) (goal : Int) : Nat → Rep → Rep
  | 0, r => r
  | n + 1, r =>
    let x := Tbl.get r.pd 0 d
    if 0 < e r ∧ x ≠ goal then
      let x1 := if goal < x then max goal (x - stp) else min goal (x + stp)
      repairSteps p iter stp e d goal n { setDisp p iter d x1 r with cut := d :: r.cut }
    else r

/-- Dispensers in the order of repair: class descending, index descending. -/
def repairOrder (p : Prob) (l : List Nat) : List Nat :=
  (idx 8).reverse.flatMap fun c => (l.filter fun d => dispClass p.m d == c).reverse

/-- R58, second part: dispensers lowered toward lo_d or 0, or those with p_d < 0 raised toward 0. -/
def repairDisps (p : Prob) (iter : Tbl Int) (stp : Nat) (up : Bool) (e : Rep → Int) : List Nat → Rep → Rep
  | [], r => r
  | d :: t, r =>
    let x := Tbl.get r.pd 0 d
    let goal := if up then (if p.loOf d < 0 then min x 0 else min x (p.loOf d)) else max x 0
    repairDisps p iter stp up e t (repairSteps p iter stp e d goal ((x - goal).natAbs / stp + 2) r)

/-- R58 for one node: the excess on either side is covered within its subtree. -/
def repairNode (p : Prob) (iter : Tbl Int) (stp : Nat) (k : Nat) (r : Rep) : Rep :=
  let ovr := fun (r : Rep) => Tbl.get r.fl 0 k - fwdW p.m k
  let under_ := fun (r : Rep) => -revW p.m k - Tbl.get r.fl 0 k
  let ss := (idx (nSrc p.m)).filter fun s => srcKind p.m s != 0 && under p.m k (srcNode p.m s)
  let ds := repairOrder p ((idx (nDisp p.m)).filter fun d => p.adm d && dispUnder p k d)
  if 0 < ovr r then repairDisps p iter stp true ovr ds (repairSrcs p k true ovr ss r)
  else if 0 < under_ r then
    repairDisps p iter stp false under_ (ds.filter fun d => decide (Tbl.get r.pd 0 d < 0)) (repairSrcs p k false under_ ss r)
  else r

/-- R58, R61: GRID sources take the residual of node 0 in ascending index, each within its bounds. -/
def gridResidual (p : Prob) : List Nat → Rep → Rep
  | [], r => r
  | s :: t, r =>
    let x := Tbl.get r.ps 0 s
    gridResidual p t (setSrc p s (clampI (Tbl.get p.slo 0 s) (Tbl.get p.shi 0 s) (x + Tbl.get r.fl 0 0)) r)

def grids (m : Tbl Byte) : List Nat := (idx (nSrc m)).filter fun s => srcKind m s == 0

/-- R58. Assumption log: 28 (DEDUCED). -/
def repair (p : Prob) (iter : Tbl Int) (stp : Nat) (r : Rep) : Rep :=
  let r1 := ((bottomUp p.m).filter (· != 0)).foldl (fun r k => repairNode p iter stp k r) r
  repairNode p iter stp 0 (gridResidual p (grids p.m) r1)

/-- Every constraint of R43 over the whole tree. -/
def holds (p : Prob) (r : Rep) : Bool :=
  (idx (nNode p.m)).all (fun k => decide (-revW p.m k ≤ Tbl.get r.fl 0 k) && decide (Tbl.get r.fl 0 k ≤ fwdW p.m k))
    && (idx (nSrc p.m)).all (fun s => decide (Tbl.get p.slo 0 s ≤ Tbl.get r.ps 0 s)
          && decide (Tbl.get r.ps 0 s ≤ Tbl.get p.shi 0 s))
    && (idx (nDisp p.m)).all (fun d => if p.adm d then decide (p.loOf d ≤ Tbl.get r.pd 0 d)
          && decide (Tbl.get r.pd 0 d ≤ p.hiOf d)
          && Tbl.get r.pd 0 d == sumI ((p.cabsOf d).map fun c => Tbl.get r.pc 0 c) else Tbl.get r.pd 0 d == 0)
    && (idx (nCab p.m)).all fun c => if Tbl.get p.disp 0 c = 0 then Tbl.get r.pc 0 c == 0
        else decide (cabMin p.m c ≤ Tbl.get r.pc 0 c) && decide (Tbl.get r.pc 0 c ≤ cabMax p.m c)

/-- R61: the solution while EN is 0, and R67. What the GRID sources cannot take goes to the one of lowest index. -/
def idleSolution (p : Prob) : Rep :=
  let ps := (idx (nSrc p.m)).foldl (fun t s =>
    Tbl.set t 0 s (if srcKind p.m s = 0 then 0 else nearZero (Tbl.get p.slo 0 s) (Tbl.get p.shi 0 s))) []
  let r := gridResidual p (grids p.m) ⟨[], [], ps, flows p [] ps, [], 0, false⟩
  match grids p.m with
  | s :: _ => setSrc p s (Tbl.get r.ps 0 s + Tbl.get r.fl 0 0) r
  | [] => r

/-- R56, R57: the iterates rounded and split. -/
def quantise (p : Prob) (stp : Nat) (v : Vars) : Rep :=
  let pd := (idx (nDisp p.m)).foldl (fun t d =>
    Tbl.set t 0 d (if p.adm d then grantRound stp (p.loOf d) (p.hiOf d) (Tbl.get v.pd 0 d) else 0)) []
  let pc := (idx (nDisp p.m)).foldl (fun t d =>
    (splitCabs p.m (p.cabsOf d) v.pc (Tbl.get pd 0 d)).foldl (fun t e => Tbl.set t 0 e.1 e.2) t) []
  let ps := (idx (nSrc p.m)).foldl (fun t s =>
    Tbl.set t 0 s (if srcKind p.m s = 0 then Tbl.get v.ps 0 s
      else grantRound stp (Tbl.get p.slo 0 s) (Tbl.get p.shi 0 s) (Tbl.get v.ps 0 s))) []
  ⟨pd, pc, ps, flows p pc ps, [], 0, false⟩

end Sys2Proof.Machine
end

