-- ==== Sys2Proof/Machine/AllocRoute.lean ====
section
/-! DEFINITION. Sys2Proof/Machine/AllocRoute.lean: routing (R70 to R85, R703, R704). -/
namespace Sys2Proof.Machine

/-- MATRIX_ID: the node of the switching matrix, 0 on a fixed-wired site (R80). -/
def matrixId (io : Io) : Nat := io.fld Reg.ALLOC.ROUTE_NODE 15 0

def closeMs (io : Io) : Nat := io.fld Reg.ALLOC.ROUTE_TMO 29 20
def openMs (io : Io) : Nat := io.fld Reg.ALLOC.ROUTE_TMO 19 10
def drainMs (io : Io) : Nat := io.fld Reg.ALLOC.ROUTE_TMO 9 0
def idlePasses (io : Io) : Nat := io.fld Reg.ALLOC.ROUTE_CFG 19 16

/-- R83: a ROUTE_CMD to the matrix; the command counter advances by one per command. Assumption log: 27 (DESIGN CHOICE). -/
def routeCmd (cmd c : Nat) (d : Option Nat) (opMs : Nat) (a : AllocSt) (io : Io) : AllocSt × Io :=
  let id := (a.routeId + 1) % 2 ^ 32
  ({ a with routeId := id },
   io.send 7 0 true (matrixId io)
     (le 2 cmd ++ le 2 c ++ le 2 (d.getD 0xFFFF) ++ le 2 0 ++ le 4 id ++ le 4 opMs))

/-- A route takes a new value: a state change is recorded for Q0 (R87), a cabinet entering FAULT sets ROUTE_FAIL. -/
def setRoute (c : Nat) (r : Route) (reason id : Nat) (a : AllocSt) (io : Io) : AllocSt × Io :=
  let old := routeOf a c
  let a1 := { a with route := Tbl.set a.route Route.init c r }
  let a2 := if r.st ≠ old.st then { a1 with recs := a1.recs ++ [⟨c, r.disp, r.st, reason, id % 2 ^ 24⟩] } else a1
  (a2, if r.st = .fault ∧ old.st ≠ .fault then io.evt 0x40100000 6 else io)

/-- A cabinet goes to FAULT: p_c is 0 from then on, no timer runs. -/
def toFault (c reason id : Nat) (a : AllocSt) (io : Io) : AllocSt × Io :=
  let r := routeOf a c
  setRoute c { r with st := .fault, next := none, deadline := none, query := none, shown := false } reason id a io

/-- FREE to CLOSING: CLOSE is sent and CLOSE_MS starts. -/
def startClose (c d reason : Nat) (a : AllocSt) (io : Io) : AllocSt × Io :=
  let s := routeCmd 1 c (some d) (closeMs io) a io
  let r := routeOf a c
  setRoute c { r with st := .closing, disp := some d, next := none, deadline := some (io.now + closeMs io * ms),
                      cmdId := s.1.routeId, shown := false } reason s.1.routeId s.1 s.2

/-- DRAINING to OPENING: OPEN is sent and OPEN_MS starts. -/
def startOpen (c : Nat) (a : AllocSt) (io : Io) : AllocSt × Io :=
  let s := routeCmd 2 c none (openMs io) a io
  let r := routeOf a c
  setRoute c { r with st := .opening, deadline := some (io.now + openMs io * ms), cmdId := s.1.routeId } 0 s.1.routeId
    s.1 s.2

/-- BOUND to DRAINING: p_c is 0 from the next tick and DRAIN_MS starts. -/
def startDrain (c reason : Nat) (next : Option Nat) (a : AllocSt) (io : Io) : AllocSt × Io :=
  let r := routeOf a c
  setRoute c { r with st := .draining, next := next, deadline := some (io.now + drainMs io * ms), drainOk := 0 } reason 0 a io

/-- QUERY(c), with the 1 s timer of R79. -/
def sendQuery (c : Nat) (a : AllocSt) (io : Io) : AllocSt × Io :=
  let s := routeCmd 3 c none 1000 a io
  ({ s.1 with route := Tbl.upd s.1.route Route.init c fun r => { r with query := some (io.now + sec), cmdId := s.1.routeId } },
   s.2)

/-- Fold an action over cabinets. -/
def overCabs (f : Nat → AllocSt → Io → AllocSt × Io) : List Nat → AllocSt → Io → AllocSt × Io
  | [], a, io => (a, io)
  | c :: r, a, io => let s := f c a io; overCabs f r s.1 s.2

/-- The dispensers of the model that a cabinet's reach group names. -/
def reachSet (m : Tbl Byte) (c : Nat) : List Nat := (idx (nDisp m)).filter fun d => reaches m c d

/-- R81: on a fixed-wired site a cabinet whose group names one dispenser is BOUND to it, every other is FREE. -/
def placeFixed (c : Nat) (a : AllocSt) (io : Io) : AllocSt × Io :=
  match reachSet a.model c with
  | [d] =>
    let a1 := { a with route := Tbl.set a.route Route.init c { Route.init with st := .bound, disp := some d } }
    ({ a1 with recs := a1.recs ++ [⟨c, some d, .bound, 3, 0⟩] }, io)
  | _ =>
    let a1 := { a with route := Tbl.set a.route Route.init c Route.init }
    ({ a1 with recs := a1.recs ++ [⟨c, none, .free, 3, 0⟩] }, io)

/-- R78 or R81, once before the first commit after a reset. -/
def placeAll (a : AllocSt) (io : Io) : AllocSt × Io :=
  let cs := idx (nCab a.model)
  let s := if matrixId io = 0 then overCabs placeFixed cs a io else overCabs sendQuery cs a io
  ({ s.1 with placed := true }, s.2)

/-- R82: MATRIX_ID is taken only before the first commit or while ALLOC is disabled. `v` is the value written to
ROUTE_NODE. -/
def matrixWrite (who : Who) (v : Word) (a : AllocSt) (io : Io) : AllocSt × Io :=
  let r := Reg.ALLOC.ROUTE_NODE
  if !mayWrite who r then (a, io.accessAt 1 who r v.toNat)
  else
    let iz := bits v 31 16
    let io1 := if 1 ≤ iz ∧ iz ≤ 100 then io.setFld r 31 16 iz else io.accessAt 2 who r v.toNat
    let new := bits v 15 0
    let old := matrixId io
    if !(new == 0 || (decide (0x2000 ≤ new) && decide (new ≤ 0x7FFF))) then (a, io1.accessAt 2 who r v.toNat)
    else if io.flag Reg.ALLOC.STAT 0 && io.flag Reg.ALLOC.CTRL 0 then
      (a, if new = old then io1 else io1.accessAt 4 who r v.toNat)
    else
      let io2 := io1.setFld r 15 0 new
      if new = 0 ∧ old ≠ 0 ∧ a.placed then
        overCabs placeFixed (idx (nCab a.model)) a io2
      else if new ≠ 0 ∧ old = 0 ∧ a.placed then overCabs sendQuery (idx (nCab a.model)) a io2
      else (a, io2)

/-- The drain condition of R76 on its lease side is `ceil0`: the committed lease ceiling of c is 0. -/
def drainStep (ceil0 : Bool) (c : Nat) (a : AllocSt) (io : Io) : AllocSt × Io :=
  let r := routeOf a c
  if r.st = .draining ∧ ceil0 ∧ 2 ≤ r.drainOk then startOpen c a io else (a, io)

/-- R84: what the report of cabinet c says: dispenser (none when open), STATE, ROUTE_ID. -/
structure RReport where
  cab : Nat
  disp : Option Nat
  st : Nat
  id : Nat
  deriving DecidableEq, Repr

def parseReport (p : List Byte) : RReport :=
  ⟨u16 p 0, if u16 p 2 = 0xFFFF then none else some (u16 p 2), u8 p 4, u32 p 8⟩

/-- The report answers a QUERY (R78, R79): adopt, or FAULT. -/
def adopt (x : RReport) (a : AllocSt) (io : Io) : AllocSt × Io :=
  let r := routeOf a x.cab
  let r0 := { r with query := none, deadline := none, next := none }
  if x.st = 1 then setRoute x.cab { r0 with st := .free, disp := none, shown := true } 3 x.id a io
  else if x.st = 2 then
    match x.disp with
    | some d =>
      if reaches a.model x.cab d then setRoute x.cab { r0 with st := .bound, disp := some d, shown := false } 3 x.id a io
      else toFault x.cab 3 x.id a io
    | none => toFault x.cab 3 x.id a io
  else toFault x.cab 1 x.id a io

/-- R76, R84, R703: a report's effect on its cabinet. -/
def routeReport (x : RReport) (a : AllocSt) (io : Io) : AllocSt × Io :=
  let r := routeOf a x.cab
  if x.st = 3 ∨ nCab a.model ≤ x.cab then (a, io)
  else if r.query.isSome then adopt x a io
  else
    match r.st with
    | .closing =>
      if x.id ≠ r.cmdId then (a, io)
      else if x.st = 2 ∧ x.disp = r.disp then
        setRoute x.cab { r with st := .bound, deadline := none } 0 x.id a io
      else toFault x.cab 1 x.id a io
    | .opening =>
      if x.id ≠ r.cmdId then (a, io)
      else if x.st = 1 then
        match r.next with
        | some d =>
          startClose x.cab d 0 { a with route := Tbl.set a.route Route.init x.cab { r with shown := true } } io
        | none => setRoute x.cab { r with st := .free, disp := none, deadline := none, shown := true } 0 x.id a io
      else toFault x.cab 1 x.id a io
    | .free =>
      if x.st = 1 then ({ a with route := Tbl.set a.route Route.init x.cab { r with shown := true } }, io)
      else toFault x.cab 1 x.id a io
    | .bound | .draining =>
      if x.st = 2 ∧ x.disp = r.disp then (a, io) else toFault x.cab 1 x.id a io
    | .fault => (a, io)

/-- Whether a timer of R76 or R79 has run out; a unit that is not ACTIVE expires none (R704). -/
def expired (active : Bool) (d : Option Nat) (now : Nat) : Bool := active && d.elim false fun t => decide (t ≤ now)

/-- CLOSE_MS expires: FAULT, and OPEN is sent. -/
def closeTimeout (active : Bool) (c : Nat) (a : AllocSt) (io : Io) : AllocSt × Io :=
  let r := routeOf a c
  if r.st = .closing ∧ expired active r.deadline io.now = true then
    let s := routeCmd 2 c none (openMs io) a io
    toFault c 1 s.1.routeId s.1 s.2
  else (a, io)

/-- DRAIN_MS expires: FAULT, no OPEN. -/
def drainTimeout (active : Bool) (c : Nat) (a : AllocSt) (io : Io) : AllocSt × Io :=
  let r := routeOf a c
  if r.st = .draining ∧ expired active r.deadline io.now = true then
    toFault c (if 0 < r.unavail then 2 else 1) r.cmdId a io
  else (a, io)

/-- OPEN_MS expires: FAULT. -/
def openTimeout (active : Bool) (c : Nat) (a : AllocSt) (io : Io) : AllocSt × Io :=
  let r := routeOf a c
  if r.st = .opening ∧ expired active r.deadline io.now = true then toFault c 1 r.cmdId a io else (a, io)

/-- R79: 1 s after a QUERY without a report of OPEN or CLOSED. -/
def queryTimeout (active : Bool) (c : Nat) (a : AllocSt) (io : Io) : AllocSt × Io :=
  let r := routeOf a c
  if expired active r.query io.now then toFault c 1 r.cmdId a io else (a, io)

/-- ROUTE_CLR: a FAULT cabinet becomes FREE and is queried; a write naming another is recorded. -/
def routeClr (who : Who) (v : Word) (a : AllocSt) (io : Io) : AllocSt × Io :=
  let reg := Reg.ALLOC.ROUTE_CLR
  let c := bits v 9 0
  let r := routeOf a c
  if !mayWrite who reg then (a, io.accessAt 1 who reg v.toNat)
  else if r.st = .fault then
    let s := setRoute c { Route.init with unavail := r.unavail } 3 a.routeId a io
    if matrixId io = 0 then s else sendQuery c s.1 s.2
  else (a, io.accessAt 4 who reg v.toNat)

/-- What the routing pass works on. Assumption log: 31 (DESIGN CHOICE). -/
structure Pass where
  a : AllocSt
  io : Io
  rel : List Nat
  free : List Nat
  moves : Nat
  did : Bool
  deriving DecidableEq, Repr

/-- hi and lo of the last commit; the demand of a dispenser: its magnitude and whether it is a discharge. -/
def demand (a : AllocSt) (d : Nat) : Int × Bool :=
  let hi := Tbl.get a.hi 0 d
  let lo := Tbl.get a.lo 0 d
  (max (max hi (-lo)) 0, decide (hi < -lo))

/-- k(c, d). -/
def capacity (m : Tbl Byte) (dis : Bool) (c : Nat) : Int := if dis then -cabMin m c else cabMax m c

/-- The cabinets BOUND to d. -/
def boundTo (a : AllocSt) (d : Nat) : List Nat :=
  (idx (nCab a.model)).filter fun c => (routeOf a c).st == .bound && (routeOf a c).disp == some d

/-- D of R74 in its order: class ascending, unserved passes descending, index ascending. -/
def passOrder (a : AllocSt) (sess : Nat → Bool) : List Nat :=
  let l := (idx (nDisp a.model)).filter fun d => sess d && !(Tbl.get a.shed Shed.init d).shed && decide (0 < (demand a d).1)
  let before := fun (x y : Nat) =>
    decide (dispClass a.model x < dispClass a.model y)
      || (dispClass a.model x == dispClass a.model y
          && (decide (Tbl.get a.unserved 0 y < Tbl.get a.unserved 0 x)
              || (Tbl.get a.unserved 0 x == Tbl.get a.unserved 0 y && decide (x < y))))
  let rec ins (x : Nat) : List Nat → List Nat
    | [] => [x]
    | y :: r => if before x y then x :: y :: r else y :: ins x r
  l.foldl (fun acc x => ins x acc) []

/-- The surplus rule: cabinets of d, ascending, that the others can do without. -/
def surplus (m : Tbl Byte) (dis : Bool) (r : Int) (hyst : Nat) (all : List Nat) : List Nat → List Nat → List Nat
  | [], rel => rel
  | c :: t, rel =>
    if rel.contains c then surplus m dis r hyst all t rel
    else
      let rest := sumI ((all.filter fun k => k != c && !rel.contains k).map (capacity m dis))
      surplus m dis r hyst all t (if r * (100 + hyst) ≤ rest * 100 then rel ++ [c] else rel)

/-- Loss per delivered watt of cabinet c at dir * x, as a fraction: numerator and denominator. -/
def lossPerWatt (m : Tbl Byte) (dis : Bool) (x : Int) (c : Nat) : Int × Int :=
  let f := lossFrac (segs (cabMap m c)) (if dis then -x else x)
  (f.1, f.2 * x)

/-- The better of two cabinets: less loss per watt, then first at or after ROUTE_PTR. -/
def better (m : Tbl Byte) (dis : Bool) (need : Int) (ptr : Nat) (b c : Nat) : Bool :=
  let fb := lossPerWatt m dis (min need (capacity m dis b)) b
  let fc := lossPerWatt m dis (min need (capacity m dis c)) c
  decide (fc.1 * fb.2 < fb.1 * fc.2)
    || (fc.1 * fb.2 == fb.1 * fc.2 && decide ((c + 768 - ptr) % 768 < (b + 768 - ptr) % 768))

/-- Bind cabinets to d while it needs power and one can be had. Assumption log: 26 (DEDUCED). -/
def bindLoop (moveMax : Nat) (pre : List Nat) (d : Nat) (dis : Bool) : Nat → Int → Pass → Pass
  | 0, _, p => p
  | n + 1, need, p =>
    let m := p.a.model
    let cand := (p.free ++ pre.filter fun c => !p.free.contains c).filter fun c =>
      reaches m c d && decide (0 < capacity m dis c)
    if 0 < need ∧ p.moves < moveMax then
      match cand with
      | [] => p
      | c0 :: r =>
        let c := r.foldl (fun b c => if better m dis need p.a.routePtr b c then c else b) c0
        let rt := routeOf p.a c
        let s :=
          if rt.st = .free then startClose c d 0 p.a p.io
          else if rt.disp = some d then (p.a, p.io)
          else startDrain c 0 (some d) p.a p.io
        bindLoop moveMax (pre.filter (· != c)) d dis n (need - capacity m dis c)
          { p with a := { s.1 with routePtr := (c + 1) % 768 }, io := s.2, free := p.free.filter (· != c),
                   rel := p.rel.filter (· != c), moves := p.moves + 1,
                   did := p.did || decide (rt.disp ≠ some d) || decide (rt.st = .free) }
    else p

/-- R73 to R75: one routing pass at site time `now`. `sess d`: dispenser d has a session. Assumption log: 26 (DEDUCED), 31 (DESIGN CHOICE). -/
def routePass (active : Bool) (sess : Nat → Bool) (a : AllocSt) (io : Io) : AllocSt × Io :=
  let n := io.now / sec
  if active && io.flag Reg.ALLOC.CTRL 1 && matrixId io != 0 && decide (a.lastPass < n + 1) then
    let m := a.model
    let order := passOrder a sess
    let idle := (idx (nDisp m)).foldl (fun t d => Tbl.set t 0 d (if order.contains d then 0 else Tbl.get a.idle 0 d + 1)) a.idle
    let rt0 := (idx (nCab m)).foldl (fun t c =>
      Tbl.upd t Route.init c fun r => { r with unavail := if cabAvail a io.now c then 0 else r.unavail + 1 }) a.route
    let a0 := { a with idle := idle, route := rt0, lastPass := n + 1 }
    let lim := idlePasses io
    let rel0 := (idx (nCab m)).filter fun c =>
      let r := routeOf a0 c
      r.st == .bound && (decide (lim ≤ r.unavail) || r.disp.elim false fun d => decide (lim ≤ Tbl.get idle 0 d))
    let rel := order.foldl (fun rel d =>
      let dm := demand a d
      surplus m dm.2 dm.1 (io.fld Reg.ALLOC.ROUTE_CFG 15 8) (boundTo a0 d) (boundTo a0 d) rel) rel0
    let free := ((idx (nCab m)).filter fun c => (routeOf a0 c).st == .free && (routeOf a0 c).shown
        && (routeOf a0 c).query.isNone && cabAvail a io.now c) ++ rel.filter fun c => cabAvail a io.now c
    let p := order.foldl (fun p d =>
      let dm := demand a d
      let need := dm.1 - sumI (((boundTo a0 d).filter fun c => !rel.contains c).map (capacity m dm.2))
      let pre := if io.flag Reg.ALLOC.CTRL 2 then (idx (nCab m)).filter fun c =>
          (routeOf p.a c).st == .bound && cabAvail a io.now c
            && ((routeOf p.a c).disp.elim false fun e => decide (dispClass m d < dispClass m e)) else []
      bindLoop (io.fld Reg.ALLOC.ROUTE_CFG 7 0) pre d dm.2 768 need p) (⟨a0, io, rel, free, 0, false⟩ : Pass)
    let s := overCabs (fun c a1 io1 => startDrain c (if lim ≤ (routeOf a0 c).unavail then 2 else 0) none a1 io1) p.rel p.a p.io
    let served := fun d => (idx (nCab m)).any fun c =>
      let r := routeOf s.1 c
      (r.st == .bound && r.disp == some d) || (r.st == .closing && r.disp == some d) || r.next == some d
    let uns := (idx (nDisp m)).foldl (fun t d =>
      Tbl.set t 0 d (if order.contains d && !served d then Tbl.get a.unserved 0 d + 1 else 0)) a.unserved
    let io2 := s.2.setReg Reg.ALLOC.ROUTE_PTR (w32 s.1.routePtr)
    ({ s.1 with unserved := uns }, if p.did || !p.rel.isEmpty then io2.evt 0x40100000 5 else io2)
  else (a, io)

/-- The routing information of ROUTE_MAP (R76): state code and dispenser. -/
def RState.code : RState → Nat
  | .free => 0 | .bound => 1 | .draining => 2 | .opening => 3 | .closing => 4 | .fault => 5

/-- R328, R70, R76: a CAB_STATUS updates the cabinet's input and its drain test. -/
def cabStatus (p : List Byte) (a : AllocSt) (io : Io) : AllocSt × Io :=
  let c := u16 p 0
  if nCab a.model ≤ c then (a, io)
  else
    let i := s32 p 12
    let ok := decide (i.natAbs ≤ io.fld Reg.ALLOC.ROUTE_NODE 31 16 * 1000)
    let x : CabIn := ⟨true, io.now, u8 p 2, i, u32 p 16, s32 p 20, s16 p 24, bitsN (u8 p 3) 0 0 == 1,
      bitsN (u8 p 3) 1 1 == 1, u32 p 28, u64 p 4⟩
    ({ a with
        cab := Tbl.set a.cab CabIn.init c x,
        route := Tbl.upd a.route Route.init c fun r =>
          if r.st = .draining then { r with drainOk := if ok then r.drainOk + 1 else 0 } else r }, io)

end Sys2Proof.Machine
end

