-- ==== Sys2Proof/Machine/AllocTick.lean ====
section
/-! DEFINITION. Sys2Proof/Machine/AllocTick.lean: step 5 of a tick and its Q0 packet (R43, R54 to R69, R86 to R89). -/
namespace Sys2Proof.Machine

/-- Q0 as ALLOC writes it (R89). -/
def q0 : Io.QDst := ⟨0, 0, Reg.ALLOC.Q0_DROP, 0x40100000, 11⟩

/-- Which sources' bounds come from a relaxed ramp this tick, and which from a ramp term at all. -/
structure TickOut where
  a : AllocSt
  io : Io
  ok : Bool
  rep : Rep
  p : Prob
  relaxed : List Nat
  infeas : Bool
  residual : Bool
  shedChg : Bool
  deriving DecidableEq, Repr

/-- The sessions that have ended leave SHED (R68). -/
def endShed (inp : Tbl DispIn) (a : AllocSt) : AllocSt :=
  { a with shed := a.shed.filter fun e => (Tbl.get inp DispIn.init e.1).sess }

/-- The bounds of one dispenser before the check: R701 for a routed, admitted one, zero otherwise. -/
def dispBounds (a : AllocSt) (served : Tbl Nat) (inp : Tbl DispIn) (d : Nat) : Int × Int :=
  let cabs := (served.filter fun e => e.2 == d + 1).map Prod.fst
  let x := Tbl.get inp DispIn.init d
  r701 a.model cabs x.hi x.lo

def routedD (a : AllocSt) (d : Nat) : Bool := !(boundTo a d).isEmpty

/-- The problem of the tick with the dispensers of `shed` in SHED: one that R63 put there has the bounds [0, 0], one that R65 put
there [0, max(hi_d, 0)] with hi_d of this tick (R68). Assumption log: 24 (DEDUCED). -/
def mkProb (a : AllocSt) (io : Io) (inp : Tbl DispIn) (sin : Tbl SrcIn) (shed : Nat → Bool) : Prob :=
  let served := servedBy a io.now
  let ds := idx (nDisp a.model)
  let sup := fun d => shed d && (Tbl.get a.shed Shed.init d).supply
  let adm := fun d => routedD a d && (!shed d || sup d)
  let bd := fun d => if sup d then (max (dispBounds a served inp d).1 0, 0) else dispBounds a served inp d
  let ss := idx (nSrc a.model)
  let b := fun s => srcBounds a io (Tbl.get sin SrcIn.init s) false false s
  ⟨a.model,
   ds.foldl (fun t d => Tbl.set t 0 d (if adm d then (bd d).1 else 0)) [],
   ds.foldl (fun t d => Tbl.set t 0 d (if adm d then (bd d).2 else 0)) [],
   ss.foldl (fun t s => Tbl.set t 0 s (b s).2.1) [],
   ss.foldl (fun t s => Tbl.set t 0 s (b s).1) [],
   served,
   (idx (nCab a.model)).foldl (fun t c => Tbl.set t false c ((routeOf a c).st != .free)) [],
   ds.foldl (fun t d => Tbl.set t false d (adm d)) []⟩

/-- R69: the one dispenser that may be readmitted on a renewal tick. -/
def readmit (a : AllocSt) (io : Io) (inp : Tbl DispIn) (sin : Tbl SrcIn) : Option Nat :=
  let due := (a.shed.filter fun e => e.2.shed && decide (e.2.hold ≤ io.now)).map Prod.fst
  match lastShed a.model inp due with
  | some d =>
    let p := mkProb a io inp sin fun k => (Tbl.get a.shed Shed.init k).shed && k != d
    if (check p).isNone then some d else none
  | none => none

/-- Step 5 of tick n (R43): swap and cold reset, shedding, the solution, or the failure of R59. Assumption log: 30 (DEDUCED). -/
def allocStep5 (n : Nat) (renewal : Bool) (inp : Tbl DispIn) (sin : Tbl SrcIn) (a : AllocSt) (io : Io) : TickOut :=
  let s0 := modelSwapEffect (n * tickNs) a io
  let a1 := endShed inp (if s0.1.cold then { s0.1 with pi := [], cold := false } else s0.1)
  let io1 := s0.2
  let en := io1.flag Reg.ALLOC.CTRL 0
  let back := if renewal && en then readmit a1 io1 inp sin else none
  let a2 := match back with
    | some d => { a1 with shed := Tbl.set a1.shed Shed.init d Shed.init }
    | none => a1
  let isShed := fun d => (Tbl.get a2.shed Shed.init d).shed
  let p0 := mkProb a2 io1 inp sin isShed
  let bnd := fun s up dn => srcBounds a2 io1 (Tbl.get sin SrcIn.init s) up dn s
  let sh0 : Shedding := ⟨p0, [], [], [], false, false⟩
  let sh := if en then shedLoop bnd inp 400 sh0 else sh0
  let r700 := (idx (nSrc a2.model)).filter fun s => (bnd s (sh.up.contains s) (sh.dn.contains s)).2.2
  let relaxed := r700 ++ sh.up ++ sh.dn
  let stp := io1.fld Reg.ALLOC.SOLVE_CFG 31 16
  let vars := iterN sh.p (io1.fld Reg.ALLOC.SOLVE_CFG 11 8) (io1.fld Reg.ALLOC.SOLVE_CFG 15 12)
    (io1.fld Reg.ALLOC.SOLVE_CFG 7 0) ⟨a2.pd, a2.pc, a2.ps, a2.pi⟩
  let solved := en && !sh.residual
  let rep := if solved then repair sh.p vars.pc stp (quantise sh.p stp vars) else idleSolution sh.p
  let ok := !solved || holds sh.p rep
  let hold := io1.now + io1.fld Reg.ALLOC.SHED_CFG 15 0 * ms
  let a3 := { a2 with
    shed := sh.shed.foldl (fun t e => Tbl.set t Shed.init e.1 ⟨true, hold, e.2⟩) a2.shed,
    pi := if solved then vars.pi else a2.pi }
  let io2 := if sh.shed.isEmpty then io1 else (io1.evt 0x40100000 1).countN Reg.ALLOC.SHED_EVT_CNT sh.shed.length
  let io3 := if back.isSome then io2.evt 0x40100000 2 else io2
  ⟨a3, io3, ok, rep, sh.p, relaxed, sh.infeas, sh.residual, back.isSome || !sh.shed.isEmpty⟩

/-- Bits of a map register: word w, bit by bit. -/
def mapWord (f : Nat → Bool) (w : Nat) : Word :=
  w32 (((idx 32).map fun i => b2n (f (32 * w + i)) * 2 ^ i).foldl (· + ·) 0)

/-- The commit of the solution (R32): the committed powers, prices, bounds and flows, and the registers that show
them. Assumption log: 28 (DEDUCED). -/
def allocCommit (n : Nat) (inp : Tbl DispIn) (t : TickOut) : AllocSt × Io :=
  let a := { t.a with pd := t.rep.pd, pc := t.rep.pc, ps := t.rep.ps, flow := t.rep.fl, hi := t.p.hi, lo := t.p.lo,
                      lastTick := n + 1 }
  let num := (a.shed.filter fun e => e.2.shed).length
  let st := setBits (setBits (t.io.reg Reg.ALLOC.STAT) 15 8 (satU 8 num)) 3 0
    (8 * b2n (!t.relaxed.isEmpty) + 4 * b2n t.residual + 2 * b2n t.infeas + 1)
  let io1 := t.io.setReg Reg.ALLOC.STAT st
  let io2 := if t.infeas then io1.evt 0x40100000 0 else io1
  let io3 := if t.residual then io2.evt 0x40100000 3 else io2
  let io4 := if t.relaxed.isEmpty then io3 else io3.evt 0x40100000 4
  let io5 := if t.rep.any then io4.peak Reg.ALLOC.REPAIR_MAX (satU 32 t.rep.moved.toNat) else io4
  let unr := fun d => (Tbl.get inp DispIn.init d).sess && !routedD a d
  let io6 := (idx 8).foldl (fun io w => (io.setReg (Reg.ALLOC.SHED_MAP w) (mapWord (fun d => (Tbl.get a.shed Shed.init d).shed) w)).setReg
    (Reg.ALLOC.UNROUTED_MAP w) (mapWord unr w)) io5
  (a, io6)

/-- The flags of a DISP record, bits [39:32]. Assumption log: 29 (DEDUCED). -/
def dispFlags (inp : Tbl DispIn) (t : TickOut) (d : Nat) : Nat :=
  let x := Tbl.get inp DispIn.init d
  let p := Tbl.get t.rep.pd 0 d
  let shed := (Tbl.get t.a.shed Shed.init d).shed
  let open_ := t.p.adm d && !shed
  128 * b2n shed + 64 * b2n (x.sess && !routedD t.a d) + 32 * b2n x.staleS
    + 16 * b2n x.staleC + 8 * b2n x.staleL + 4 * b2n (open_ && p == t.p.hiOf d)
    + 2 * b2n (open_ && p == t.p.loOf d) + b2n (t.rep.cut.contains d)

/-- The flags of a SRC record, bits [39:32]. Assumption log: 29 (DEDUCED). -/
def srcFlags (sin : Tbl SrcIn) (t : TickOut) (prev : Tbl Int) (s : Nat) : Nat :=
  let p := Tbl.get t.rep.ps 0 s
  let hi := Tbl.get t.p.shi 0 s
  let lo := Tbl.get t.p.slo 0 s
  let ramp := (p == hi && hi == Tbl.get prev 0 s + odiv (rampUp t.p.m s) 4)
    || (p == lo && lo == Tbl.get prev 0 s - odiv (rampDn t.p.m s) 4)
  128 * b2n (decide (hi ≤ p)) + 64 * b2n (decide (p ≤ lo)) + 32 * b2n ramp + 16 * b2n (t.relaxed.contains s)
    + 8 * b2n (srcKind t.p.m s == 1 && (Tbl.get sin SrcIn.init s).stale)

/-- The flags of a CAB record, bits [37:35]. Assumption log: 29 (DEDUCED). -/
def cabFlags (t : TickOut) (now c : Nat) : Nat :=
  4 * b2n ((routeOf t.a c).st == .draining) + 2 * b2n (!cabAvail t.a now c)
    + b2n (Tbl.get t.rep.pc 0 c == cabMax t.p.m c)

/-- R87: whether an element gets a record. -/
def wantRec (renewal always : Bool) (delta : Nat) (last : Int × Nat) (p : Int) (fl : Nat) : Bool :=
  if renewal then always else fl != last.2 || decide (delta ≤ (p - last.1).natAbs)

/-- Records of a kind for the elements listed: payloads, and what was last recorded. -/
def elemRecs (base : Nat) (want : Nat → Bool) (pow : Nat → Int) (fl : Nat → Nat) (mk : Nat → Nat) (l : List Nat)
    (last : Tbl (Int × Nat)) : List Nat × Tbl (Int × Nat) :=
  l.foldl (fun acc k => if want k then
    (acc.1 ++ [mk k + unS 32 (pow k)], Tbl.set acc.2 (0, 0) (base + k) (pow k, fl k)) else acc) ([], last)

/-- R86 to R88: the packet of the tick. -/
def q0Packet (n : Nat) (renewal rollup : Bool) (inp : Tbl DispIn) (sin : Tbl SrcIn) (prev : Tbl Int) (t : TickOut)
    (a : AllocSt) (io : Io) : AllocSt × Io :=
  let delta := io.fld Reg.ALLOC.Q0_CFG 23 0
  let lst := fun k => Tbl.get a.lastRec (0, 0) k
  let pd := fun d => Tbl.get a.pd 0 d
  let ps := fun s => Tbl.get a.ps 0 s
  let pc := fun c => Tbl.get a.pc 0 c
  let df := dispFlags inp t
  let sf := srcFlags sin t prev
  let cf := cabFlags t io.now
  let r1 := elemRecs 0 (fun d => wantRec renewal (Tbl.get inp DispIn.init d).sess delta (lst d) (pd d) (df d)) pd df
    (fun d => 0x20 * 2 ^ 48 + d * 2 ^ 40 + df d * 2 ^ 32) (idx (nDisp a.model)) a.lastRec
  let r2 := elemRecs 0x1000 (fun s => wantRec renewal true delta (lst (0x1000 + s)) (ps s) (sf s)) ps sf
    (fun s => 0x30 * 2 ^ 48 + s * 2 ^ 40 + sf s * 2 ^ 32) (idx (nSrc a.model)) r1.2
  let r3 := elemRecs 0x2000 (fun c => wantRec renewal ((routeOf a c).st != .free) delta (lst (0x2000 + c)) (pc c) (cf c)) pc cf
    (fun c => 0x40 * 2 ^ 48 + c * 2 ^ 38 + cf c * 2 ^ 35) (idx (nCab a.model)) r2.2
  let rr := a.recs.map fun r => 0x50 * 2 ^ 48 + r.cab * 2 ^ 38 + r.disp.getD 0x1FF * 2 ^ 29 + r.st.code * 2 ^ 26
    + r.reason * 2 ^ 24 + r.id
  let hot := t.infeas || t.residual || t.shedChg || a.recs.any fun r => r.reason == 1 || r.reason == 2
  let tick := 0x10 * 2 ^ 48 + b2n renewal * 2 ^ 47 + b2n rollup * 2 ^ 46 + b2n t.infeas * 2 ^ 45 + b2n t.residual * 2 ^ 44
    + b2n t.shedChg * 2 ^ 43 + b2n (!a.recs.isEmpty) * 2 ^ 42 + b2n t.rep.any * 2 ^ 40 + n % 2 ^ 40
  let num := (a.shed.filter fun e => e.2.shed).length
  let sum := 0x11 * 2 ^ 48 + satU 8 num * 2 ^ 40 + unS 32 (sat32 (sumI ((idx (nDisp a.model)).map pd)))
  ({ a with lastRec := r3.2, recs := [] },
   io.recN q0 0 41 (if hot then 0xC else 4) ([tick, sum] ++ r1.1 ++ r2.1 ++ r3.1 ++ rr))

/-- R68, row SHED_HOLD_EXPIRY: the hold timer of a dispenser has run out. Its deadline is compared with site time
wherever the hold matters, so the expiry itself changes nothing but the timer, which no longer runs. -/
def shedHoldExpiry (d : Nat) (a : AllocSt) (io : Io) : AllocSt :=
  let x := Tbl.get a.shed Shed.init d
  if x.shed && decide (x.hold ≤ io.now) then { a with shed := Tbl.set a.shed Shed.init d { x with hold := 0 } } else a

/-- What the registers of ALLOC show of its committed state. -/
def allocView (a : AllocSt) (k : Nat) : Option Word :=
  if 0x40102000 ≤ k ∧ k < 0x40102400 then some (wS (Tbl.get a.pd 0 ((k - 0x40102000) / 4)))
  else if 0x40102400 ≤ k ∧ k < 0x40103000 then some (wS (Tbl.get a.pc 0 ((k - 0x40102400) / 4)))
  else if 0x40103000 ≤ k ∧ k < 0x40103100 then some (wS (Tbl.get a.ps 0 ((k - 0x40103000) / 4)))
  else if 0x40103100 ≤ k ∧ k < 0x40103900 then some (wS (sat32 (Tbl.get a.flow 0 ((k - 0x40103100) / 4))))
  else if 0x40103900 ≤ k ∧ k < 0x40104100 then some (wS (Tbl.get a.pi 0 ((k - 0x40103900) / 4)))
  else if 0x40104400 ≤ k ∧ k < 0x40105000 then
    let r := routeOf a ((k - 0x40104400) / 4)
    some (w32 (r.st.code * 512 + r.disp.getD 0x1FF))
  else none

end Sys2Proof.Machine
end

