-- ==== Sys2Proof/Machine/Atkai.lean ====
section
/-! DEFINITION. Sys2Proof/Machine/Atkai.lean: receiving an Atkai message (R28, R29, R320 to R333, R705, R706). -/
namespace Sys2Proof.Machine

/-- The queues FAB writes (R366, R369, R370). -/
def q10 : Io.QDst := ⟨10, 10, Reg.FAB.Q10_DROP, 0x40300000, 8⟩

/-- TYPE and SUBTYPE are issued codes of R326 and R327. -/
def issuedType (ty sub : Nat) : Bool :=
  if ty = 8 then decide (1 ≤ sub ∧ sub ≤ 4) || decide (0x80 ≤ sub ∧ sub ≤ 0xFF)
  else (decide (1 ≤ ty ∧ ty ≤ 0xB) || decide (0x80 ≤ ty ∧ ty ≤ 0xFF)) && sub == 0

/-- The kinds that only units send (R324 check 1). -/
def unitOnly (ty sub : Nat) : Bool := ty == 1 || ty == 6 || ty == 7 || ty == 0xB || (ty == 8 && sub == 4)

/-- Check 1 of R324. -/
def AtkMsg.formatOk (m : AtkMsg) : Bool :=
  m.version == 1 && m.rsvZero && decide (m.flags ≤ 1) && m.recvLen == 48 + m.len && decide (m.len ≤ 1404)
    && m.payload.length == m.len && issuedType m.ty m.sub && !unitOnly m.ty m.sub

/-- Check 2 of R324. -/
def AtkMsg.dstOk (m : AtkMsg) (own : Nat) (active : Bool) : Bool :=
  m.dst == own || m.dst == 4 || m.dst == 0xFFFF || (m.dst == 3 && active)

/-- Where the key for a message from `src` is kept (R322): the metering key for METER_BLOCK, the pair key between the
units, the link key of the node otherwise. Assumption log: 133 (DEDUCED). -/
def keySlot (ty src : Nat) : Nat := if ty = 4 then 0x10000 + src else if src = 1 ∨ src = 2 then 0x20000 else src

/-- Whether a key is held under a generation (R323, check 3 of R324). Assumption log: 133 (DEDUCED). -/
def KeyGen.holds (k : KeyGen) (gen now : Nat) : Bool :=
  k.held && (k.gen == gen || (k.prev == some gen && decide (now < k.replacedAt + sec)))

/-- The key of a stream (TYPE, SRC). -/
def streamKey (ty src : Nat) : Nat := ty * 65536 + src

/-- R28 and R705: whether a stream takes a message. -/
def Stream.takes (st : Stream) (seq time now : Nat) : Bool :=
  !st.seen || decide (st.acceptedAt + 2 * sec ≤ now) || (newer seq st.seq && decide (st.time ≤ time))

/-- Check 5 of R324. -/
def AtkMsg.timeOk (m : AtkMsg) (now replayMs : Nat) : Bool :=
  decide (m.time ≤ now + ms) && decide (now ≤ m.time + replayMs * ms)

/-- The counter register and event bit of the first check of R324 that fails; none when every check passes. -/
def atkReject (io : Io) (active : Bool) (m : AtkMsg) : Option (Nat × Option Nat) :=
  if !m.formatOk then some (Reg.FAB.FORMAT_CNT, none)
  else if !m.dstOk io.ownId active then some (Reg.FAB.DST_DROP_CNT, none)
  else if !(Tbl.get io.keys KeyGen.init (keySlot m.ty m.src)).holds m.keyGen io.now then some (Reg.FAB.NOKEY_CNT, some 3)
  else if !m.tagOk then some (Reg.FAB.TAG_FAIL_CNT, some 0)
  else if !m.timeOk io.now (io.fld Reg.FAB.ATK_CFG 9 0) then some (Reg.FAB.TIME_REJ_CNT, some 2)
  else if !(Tbl.get io.streams Stream.init (streamKey m.ty m.src)).takes m.seq m.time io.now then
    some (Reg.FAB.SEQ_REJ_CNT, some 1)
  else none

/-- R331: the entry of the message's source takes the path and address it came by. -/
def learn (io : Io) (m : AtkMsg) : Io :=
  { io with nodes := io.nodes.map fun e => if e.2.id = m.src ∧ e.2.path ≠ 0 then
      (e.1, { e.2 with path := m.via.path, num := m.via.num, bus := m.via.bus, ipv6 := m.via.ipv6, ip := m.via.ip,
                       port := m.via.port, learned := true }) else e }

/-- An accepted message: its stream, its address, RX_MSG_CNT. -/
def atkAccept (io : Io) (m : AtkMsg) : Io :=
  let io1 := learn io m
  let io2 : Io := { io1 with streams := Tbl.set io1.streams Stream.init (streamKey m.ty m.src) ⟨true, m.seq, m.time, io.now⟩ }
  io2.count Reg.FAB.RX_MSG_CNT

/-- R324, R325, R332: what becomes of a received message. `true`: accepted. While FAB.CTRL.EN is 0 it is discarded
before the checks and counted nowhere. -/
def atkReceive (io : Io) (active : Bool) (m : AtkMsg) : Io × Bool :=
  if io.flag Reg.FAB.CTRL 0 then
    match atkReject io active m with
    | some (c, e) =>
      let io1 := io.count c
      (match e with
       | some b => io1.evt 0x40300000 b
       | none => io1, false)
    | none => (atkAccept io m, true)
  else (io, false)

/-- Bytes packed seven to a queue word, byte 0 in [7:0], zero-padded (chapter 08). -/
def pack7 : Nat → List Byte → List Nat
  | 0, _ => []
  | n + 1, bs => leN (bs.take 7) 0 7 :: pack7 n (bs.drop 7)

/-- The data words of a byte string. -/
def dataWords (bs : List Byte) : List Nat := pack7 ((bs.length + 6) / 7) bs

/-- R366: ATK_RX in Q10; GAP is bit 32 of the second record word. -/
def atkRx (io : Io) (m : AtkMsg) : Io :=
  io.recN q10 1 32 4
    ([0xD1 * 2 ^ 48 + m.ty * 2 ^ 40 + m.sub * 2 ^ 32 + m.src * 2 ^ 16 + m.len, m.seq] ++ dataWords m.payload)

end Sys2Proof.Machine
end

