-- ==== Sys2Proof/Machine/Net.lean ====
section
/-! DEFINITION. Sys2Proof/Machine/Net.lean: the fabric, T1S, time and host links of chapter 08, messages as bytes, and what
field nodes check. -/
namespace Sys2Proof.Machine

/-! Messages as bytes (R320, R321, R345, R348). -/

/-- The 32-byte header and the payload of a sent message. -/
def OutMsg.head (m : OutMsg) : List Byte :=
  le 1 1 ++ le 1 m.ty ++ le 1 m.sub ++ le 1 (b2n m.hipri) ++ le 2 m.src ++ le 2 m.dst ++ le 4 m.seq
    ++ le 2 m.payload.length ++ le 2 m.keyGen ++ le 8 m.time ++ zeros 8 ++ m.payload

/-- The whole message. -/
def OutMsg.bytes (m : OutMsg) : List Byte := m.head ++ le 16 m.tag.toNat

/-- PRIO of a type on CAN. -/
def canPrio (ty : Nat) : Nat :=
  match ty with
  | 1 | 2 => 0
  | 6 | 7 | 0xB => 1
  | 8 | 5 => 2
  | 3 | 4 => 3
  | 9 | 0xA => 4
  | _ => 5

/-- The FD data length that holds n bytes. -/
def fdLen (n : Nat) : Nat :=
  if n ≤ 8 then n else if n ≤ 12 then 12 else if n ≤ 16 then 16 else if n ≤ 20 then 20 else if n ≤ 24 then 24
  else if n ≤ 32 then 32 else if n ≤ 48 then 48 else 64

/-- The frames of a message, segment i on. -/
def fdFrames (ctr : Nat) : Nat → Nat → List Byte → List (List Byte)
  | 0, _, _ => []
  | n + 1, i, bs =>
    let last := decide (bs.length ≤ 62)
    let d := le 1 (b2n (i == 0) * 128 + b2n last * 64 + i % 64) ++ le 1 ctr ++ bs.take 62
    let f := d ++ zeros (fdLen d.length - d.length)
    if last then [f] else f :: fdFrames ctr n (i + 1) (bs.drop 62)

/-- R345: the identifier and the frames of a message on CAN FD. -/
def canFd (own mark : Nat) (m : OutMsg) : Nat × List (List Byte) :=
  (canPrio m.ty * 2 ^ 26 + own * 2 ^ 20 + m.bus * 2 ^ 14 + mark, fdFrames m.ctr 64 0 m.bytes)

/-- R348: the priority identifier and the acceptance field of a message on CAN XL. -/
def canXl (own : Nat) (m : OutMsg) : Nat × Nat := (canPrio m.ty * 256 + own * 4, m.dst * 65536 + m.src)

/-- Received bytes as a message; `tagOk`: the tag verifies. The bytes past 48 + LEN are ignored (R347). -/
def parseMsg (bs : List Byte) (tagOk : Bool) (via : Via) : AtkMsg :=
  let len := u16 bs 12
  let got := if 48 + len ≤ bs.length then 48 + len else bs.length
  ⟨u8 bs 0, u8 bs 1, u8 bs 2, u8 bs 3, u16 bs 4, u16 bs 6, u32 bs 8, len, u16 bs 14, u64 bs 16,
   (bs.drop 24).take 8 == zeros 8 && decide (u8 bs 3 < 2), got, tagOk, (bs.drop 32).take len, via⟩

/-! Field nodes as receivers (R28, R29, R705). -/

/-- The key of a node's stream. -/
def nodeStream (node ty src : Nat) : Nat := (node * 256 + ty) * 65536 + src

/-- Whether a field node takes a message: addressed to it or to every node, its tag verifies, TIME in its window (at most
1000 ms), accepted on its stream. Assumption log: 92 (DESIGN CHOICE), 102 (DEDUCED). -/
def nodeTakes (n : NetSt) (node hnow : Nat) (m : AtkMsg) : Bool :=
  m.version == 1 && m.rsvZero && m.payload.length == m.len && m.recvLen == 48 + m.len
    && (m.dst == node || m.dst == 0xFFFF) && m.tagOk && m.timeOk hnow (min 1000 (Config.nodeReplayMs node))
    && (Tbl.get n.nodeStreams Stream.init (nodeStream node m.ty m.src)).takes m.seq m.time hnow

/-- The node's stream after a message it took. -/
def nodeTook (node hnow : Nat) (m : AtkMsg) (n : NetSt) : NetSt :=
  { n with nodeStreams := Tbl.set n.nodeStreams Stream.init (nodeStream node m.ty m.src) ⟨true, m.seq, m.time, hnow⟩ }

/-- R705 at the part: a stream on which nothing was accepted for 2 s is forgotten. -/
def streamForget (ty src : Nat) (io : Io) : Io :=
  let k := streamKey ty src
  let st := Tbl.get io.streams Stream.init k
  if st.seen && decide (st.acceptedAt + 2 * sec ≤ io.now) then { io with streams := Tbl.set io.streams Stream.init k Stream.init } else io

/-- R705 at a field node. -/
def nodeForget (node ty src hnow : Nat) (n : NetSt) : NetSt :=
  let k := nodeStream node ty src
  let st := Tbl.get n.nodeStreams Stream.init k
  if st.seen && decide (st.acceptedAt + 2 * sec ≤ hnow) then
    { n with nodeStreams := Tbl.set n.nodeStreams Stream.init k Stream.init } else n

/-- R323: 1 s after a replacement the previous generation is no longer accepted. Assumption log: 142 (DEDUCED). -/
def keyGenExpiry (slot : Nat) (io : Io) : Io :=
  let k := Tbl.get io.keys KeyGen.init slot
  if k.prev.isSome && decide (k.replacedAt + sec ≤ io.now) then
    { io with keys := Tbl.set io.keys KeyGen.init slot { k with prev := none } } else io

/-! Q10 and Q11 (R329, R366). -/

/-- An APP type of R326 or R327. -/
def appType (ty sub : Nat) : Bool := decide (0x80 ≤ ty ∧ ty ≤ 0xFF) || (ty == 8 && decide (0x80 ≤ sub ∧ sub ≤ 0xFF))

/-- R329: an Atkai message taken from Q11. A SUBTYPE beside a TYPE other than STATUS is sent as zero (R320). Assumption log: 90 (DESIGN CHOICE). -/
def atkTx (ty sub dst : Nat) (payload : List Byte) (io : Io) : Io :=
  if appType ty sub && decide (payload.length ≤ 1404) then io.send ty (if ty = 8 then sub else 0) false dst payload
  else ((io.count Reg.FAB.Q11_REJ_CNT).evt 0x40300000 9).errRec .fab 0 ⟨7, 0, 0, ty % 256, 0, sub, io.now⟩

/-- Whether an Ethernet port runs: fabric ports 0 to 3, T1S segments 4 to 11, the management port 12. Assumption log: 107 (DEDUCED). -/
def portUp (n : NetSt) (io : Io) (p : Nat) : Bool :=
  if p < 4 then io.linkUp 1 p else if p < 12 then io.linkUp 2 (p - 4)
  else p == 12 && io.flag Reg.HOST.MGMT_CTL 31 && n.mgmtUp

/-- R366: a frame of Q11 is sent on the named port. -/
def ethTx (p : Nat) (bs : List Byte) (n : NetSt) (io : Io) : Io :=
  if portUp n io p then io.drive "ETH" p (bs.map fun b => b.toNat) else io

/-- ETH_RX in Q10. Assumption log: 91 (DEDUCED). -/
def ethRx (p : Nat) (bs : List Byte) (io : Io) : Io :=
  io.recN q10 0 43 4 ([0xD0 * 2 ^ 48 + p % 16 * 2 ^ 44 + bs.length % 65536] ++ dataWords bs)

/-- R333, R334, R366: a received frame. The management port hands everything to Q10. A frame longer than 1522 bytes is
discarded and counted; the counter is FORMAT_CNT. Assumption log: 91 (DEDUCED). -/
def ethReceive (p : Nat) (k : EthKind) (bs : List Byte) (n : NetSt) (io : Io) : Io :=
  if !portUp n io p then io
  else if p = 12 then ethRx p bs io
  else match k with
    | .answered => io.drive "ETH_REPLY" p (bs.map fun b => b.toNat)
    | .fragment | .jumbo => io.count Reg.FAB.FORMAT_CNT
    | .pause | .consumed => io
    | .other => ethRx p bs io

/-! Site time (R26, R27, R335 to R341). -/

/-- HELD takes a value; HELD_CHG where it changed (R337). -/
def setHeld (h : Bool) (io : Io) : Io :=
  if io.flag Reg.FAB.PTP_STAT 31 == h then io else (io.setFlag Reg.FAB.PTP_STAT 31 h).evt 0x40300000 6

/-- A rate correction toward the grandmaster, parts per billion: the magnitude, at most 200 ppm, is the servo's own.
Assumption log: 93 (DESIGN CHOICE). -/
def steerRate (ofs : Int) (f : Nat) : Int :=
  if ofs = 0 then 0 else if 0 < ofs then -((Config.freeNat f % 200001 : Nat) : Int) else ((Config.freeNat f % 200001 : Nat) : Int)

/-- R26, R27, R336, R337: a PTP message gives a follower its offset, site time minus the grandmaster's, ns. Before the site
starts one step; while it runs, rate alone. `port`: the follower port. Assumption log: 94 (DEDUCED). -/
def ptpMessage (running : Bool) (ofs : Int) (port : Nat) (n : NetSt) (io : Io) : NetSt × Io :=
  if !(io.flag Reg.FAB.CTRL 3 && io.fld Reg.FAB.CTRL 2 1 == 0) then (n, io)
  else if running then
    let mag := satU 24 ofs.natAbs
    let r := steerRate ofs io.free
    let io1 : Io := { io with clk := { io.clk with rate := r }, free := io.free + 1 }
    let io2 := ((((io1.setReg Reg.FAB.PTP_RATE (wS r)).setFld Reg.FAB.PTP_STAT 23 0 mag).setFld Reg.FAB.PTP_STAT 27 24 port).setFld
      Reg.FAB.PTP_STAT 30 28 2)
    let io3 := setHeld (decide (ofs.natAbs ≤ 1000)) io2
    (n, if 200000 < ofs.natAbs then io3.evt 0x40300000 7 else io3)
  else
    let io1 : Io := { io with clk := { io.clk with now := (io.now - ofs).toNat % 2 ^ 64, frac := 0 } }
    let io2 := ((io1.setFld Reg.FAB.PTP_STAT 23 0 0).setFld Reg.FAB.PTP_STAT 27 24 port).setFld Reg.FAB.PTP_STAT 30 28 2
    ({ n with ptpSteps := n.ptpSteps + 1 }, (setHeld true io2).evt 0x40000000 1)

/-- TIME_SYNC's period on a medium: a CAN controller 0 to 7, or the mesh, 8. -/
def tsPeriod (io : Io) (med : Nat) : Nat := if med < 8 then io.fld (Reg.CAN.TS_MS med) 9 0 else io.fld Reg.SPN.TS_MS 9 0

/-- R339: the payload. Assumption log: 95 (DESIGN CHOICE). -/
def tsPayload (origin seq period : Nat) (locked : Bool) : List Byte := le 8 origin ++ le 4 seq ++ le 2 period ++ le 2 (b2n locked)

/-- R339: TIME_SYNC is due on a medium; `lag`: how long after now its start on the medium comes, ns. The first has no
previous message: ORIGIN and PREV_SEQ are free values. -/
def timeSyncSend (med lag : Nat) (n : NetSt) (io : Io) : NetSt × Io :=
  let ts := Tbl.get n.ts TsMedium.init med
  let per := tsPeriod io med
  if per = 0 ∨ io.now < ts.nextAt ∨ 8 < med then (n, io)
  else
    let f := io.free
    let o := match ts.origin with
      | some x => x
      | none => (Config.freeNat f % 2 ^ 64, Config.freeNat (f + 1) % 2 ^ 32)
    let io0 : Io := if ts.origin.isNone then { io with free := f + 2 } else io
    let path := if med < 8 then 3 else 4
    let seq := Tbl.get io0.txSeq 0 0xB
    let n1 := fun (org : Option (Nat × Nat)) => { n with ts := Tbl.set n.ts TsMedium.init med ⟨org, io.now + per * ms⟩ }
    if io0.flag Reg.FAB.CTRL 0 && io0.linkUp path med then
      (n1 (some (io.now + lag, seq)),
       io0.sendOn path (if med < 8 then med else 0) (if med < 8 then 63 else 0) 0xB 0 false 0xFFFF (tsPayload o.1 o.2 per (io0.flag Reg.FAB.PTP_STAT 31)))
    else (n1 ts.origin, io0.noPath)

/-- A field node's site time. -/
def NodeTime.now (t : NodeTime) (now : Nat) : Nat := ((now : Int) + t.ofs.getD 0).toNat

/-- R340, R341: a node takes its time from TIME_SYNC. `elapsed`: the node's local time since it saw the start of the message
that PREV_SEQ names, none where it saw none. Assumption log: 96 (DESIGN CHOICE), 102 (DEDUCED). -/
def timeSync (node : Nat) (elapsed : Option Nat) (p : List Byte) (n : NetSt) (io : Io) : NetSt :=
  let t := Tbl.get n.nodeTime NodeTime.init node
  match elapsed with
  | none => n
  | some e =>
    let now' := u64 p 0 + e
    let locked := u16 p 14 % 2 == 1
    let t1 : NodeTime := { t with
      ofs := some ((now' : Int) - io.now), lockedAt := if locked then some now' else t.lockedAt,
      periodMs := u16 p 12, held := t.held || locked }
    { n with nodeTime := Tbl.set n.nodeTime NodeTime.init node t1 }

/-- R341: three periods without a locked TIME_SYNC. -/
def timeHoldLoss (node : Nat) (n : NetSt) (io : Io) : NetSt :=
  let t := Tbl.get n.nodeTime NodeTime.init node
  let late := match t.lockedAt with
    | some a => decide (a + 3 * t.periodMs * ms ≤ t.now io.now)
    | none => true
  if t.held && late then { n with nodeTime := Tbl.set n.nodeTime NodeTime.init node { t with held := false } } else n

/-! T1S and links (R334, R342, R343, R361, R365). -/

/-- A segment starts or stops seeing beacons; `ed`: energy detect. -/
def plcaChange (seg : Nat) (ok ed : Bool) (io : Io) : Io :=
  let s := seg % 8
  let io1 := io.setFlag (Reg.T1S.SEG_STAT s) 1 ed
  if io.flag (Reg.T1S.SEG_STAT s) 0 == ok then io1 else (io1.setFlag (Reg.T1S.SEG_STAT s) 0 ok).evt 0x40320000 s

/-- R343: a coordinator segment sees another beacon. -/
def beaconConflict (seg : Nat) (n : NetSt) (io : Io) : NetSt × Io :=
  let s := seg % 8
  if io.flag (Reg.T1S.SEG_CFG s) 31 && io.fld (Reg.T1S.SEG_CFG s) 20 16 == 0 then
    ({ n with t1sQuiet := if n.t1sQuiet.contains s then n.t1sQuiet else s :: n.t1sQuiet }, io.evt 0x40320000 (8 + s))
  else (n, io)

/-- Every enabled fabric port is down; none enabled is no loss. -/
def fabricDown (io : Io) : Bool :=
  io.fld Reg.FAB.CTRL 7 4 != 0 && [0, 1, 2, 3].all fun p => !io.linkUp 1 p

/-- Since when the fabric is down (R547). -/
def fabricMark (n : NetSt) (io : Io) : NetSt :=
  if fabricDown io then { n with fabDownAt := some (n.fabDownAt.getD io.now) } else { n with fabDownAt := none }

/-- A fabric port's link goes up or down (R334). -/
def fabricLink (port : Nat) (up lock : Bool) (n : NetSt) (io : Io) : NetSt × Io :=
  let r := Reg.FAB.PORT_STAT (port % 4)
  let io1 := io.setFlag r 1 lock
  let io2 := if io.flag r 0 == up then io1 else (io1.setFlag r 0 up).evt 0x40300000 5
  (fabricMark n io2, io2)

/-- R361: the PCIe link: up, width 1, 2 or 4, speed 1 to 4, power state 0 (D0) or 3 (D3hot). -/
def pcieLink (up : Bool) (width speed d : Nat) (n : NetSt) (io : Io) : NetSt × Io :=
  let w := if up then w32 (speed % 16 * 16 + width % 8 * 2 + 1) else 0
  let io1 := if io.flag Reg.HOST.PCIE_STAT 0 == up then io else io.evt 0x40340000 0
  let io2 := if n.dState = d then io1 else io1.evt 0x40340000 1
  ({ n with dState := d }, io2.setReg Reg.HOST.PCIE_STAT w)

/-- R365: the management port's link. -/
def mgmtLink (up : Bool) (n : NetSt) (io : Io) : NetSt × Io :=
  if n.mgmtUp == up then (n, io) else ({ n with mgmtUp := up }, io.evt 0x40340000 2)

/-! The node table's window (R330). -/

/-- The words of NODE_WIN for an entry. -/
def nodeWords (e : NodeEnt) : List Nat :=
  [e.id, e.path * 2 ^ 28 + e.num * 2 ^ 24 + b2n e.learned * 2 ^ 23 + b2n e.ipv6 * 2 ^ 22 + e.bus % 64]
    ++ if e.ipv6 then [e.ip, e.ip / 2 ^ 32, e.ip / 2 ^ 64, e.ip / 2 ^ 96] else [e.ip, 0, 0, e.port]

/-- A write of NODE_SEL latches the entry. -/
def fabNodeSel (ok : Guard → Bool) (who : Who) (v : Word) (io : Io) : Io :=
  let io1 := io.write ok who Reg.FAB.NODE_SEL v
  if mayWrite who Reg.FAB.NODE_SEL then
    let e := Tbl.get io.nodes NodeEnt.init (bits v 12 0)
    ((nodeWords e).zip (List.range 6)).foldl (fun (i : Io) w => i.setReg (Reg.FAB.NODE_WIN w.2) (w32 w.1)) io1
  else io1

/-! The host ring (R363, R364). -/

/-- Entries the part has written ahead of the host's read index. -/
def ringAhead (io : Io) : Nat :=
  let size := io.fld Reg.HOST.RING_SIZE 16 0
  (io.fld Reg.HOST.RING_WR 15 0 + size - io.fld Reg.QUE.Q15_OUT_RD 15 0 % max size 1) % max size 1

/-- The ring takes no further word. Assumption log: 101 (DEDUCED). -/
def ringFull (io : Io) : Bool :=
  io.fld Reg.HOST.RING_SIZE 16 0 == 0 || decide (io.fld Reg.HOST.RING_SIZE 16 0 - 1 ≤ ringAhead io)

/-- R363, R364: a write of OUT_HI with the OUT_LO written before it puts a word into the ring, or is refused. A packet is
its length word and as many words as that says; MSI-X vector 0 follows each. Assumption log: 101 (DEDUCED). -/
def hostOut (who : Who) (hi : Word) (n : NetSt) (io : Io) : NetSt × Io :=
  if !mayWrite who Reg.HOST.OUT_HI then (n, io.accessAt 1 who Reg.HOST.OUT_HI hi.toNat)
  else if ringFull io then
    (n, ((io.setFlag Reg.HOST.OUT_STAT 0 true).evt 0x40340000 3).accessAt 4 who Reg.HOST.OUT_HI hi.toNat)
  else
    let lo := (Tbl.get io.stage none Reg.HOST.OUT_LO).getD 0
    let w := lo.toNat + hi.toNat * 2 ^ 32
    let left := if n.ringLeft = 0 then bitsN w 10 0 else n.ringLeft - 1
    let io1 : Io := { io with stage := Tbl.set io.stage none Reg.HOST.OUT_LO none }
    let io2 := io1.setFld Reg.HOST.RING_WR 15 0 ((io.fld Reg.HOST.RING_WR 15 0 + 1) % io.fld Reg.HOST.RING_SIZE 16 0)
    let io3 := (io2.setFlag Reg.HOST.OUT_STAT 0 (ringFull io2)).drive "RING" (io.fld Reg.HOST.RING_WR 15 0) [w]
    ({ n with ring := n.ring ++ [BitVec.ofNat 64 w], ringLeft := left, msix := n.msix + b2n (left == 0) },
     if left = 0 then io3.drive "MSIX" 0 [] else io3)

/-- OUT_STAT.FULL follows the ring when the host moves its read index (R364). -/
def ringView (io : Io) (k : Nat) : Option Word :=
  if k = Reg.HOST.OUT_STAT then some (w32 (b2n (io.fld Reg.HOST.RING_SIZE 16 0 != 0 && ringFull io))) else none

end Sys2Proof.Machine
end

