-- ==== Sys2Proof/Machine/Can.lean ====
section
/-! DEFINITION. Sys2Proof/Machine/Can.lean: the CAN controllers (R344 to R360, R367, R369, R370). -/
namespace Sys2Proof.Machine

def canOf (n : NetSt) (c : Nat) : CanSt := Tbl.get n.can CanSt.init c

def canPut (c : Nat) (x : CanSt) (n : NetSt) : NetSt := { n with can := Tbl.set n.can CanSt.init c x }

/-- The base address of a controller's window. -/
def canBase (c : Nat) : Nat := 0x40310000 + c * 0x1000

/-- Q12 as controller c writes it (R367, R370). -/
def q12 (c : Nat) : Io.QDst := ⟨12, 0x100 + c, Reg.CAN.Q12_DROP c, canBase c, 1⟩

/-- A Q12 record. Assumption log: 98 (PRESUMED). -/
def canRec (c prio payload : Nat) (io : Io) : Io := io.recN (q12 c) 0 35 prio [payload]

/-! Error states (R358 to R360). -/

/-- The state that CTRL.ROM and the error counters give. Assumption log: 98 (PRESUMED). -/
def canStateOf (rom : Bool) (tec rec : Nat) : Nat :=
  if rom then 4 else if 256 ≤ tec then 3 else if 128 ≤ tec ∨ 128 ≤ rec then 2 else if 96 ≤ tec ∨ 96 ≤ rec then 1 else 0

/-- The counters take values, and the state follows: a change writes CAN_STATE (R360). TEC is held at 256 in bus-off. -/
def canSetErr (c tec rec : Nat) (io : Io) : Io :=
  let st := canStateOf (io.flag (Reg.CAN.CTRL c) 4) tec rec
  let old := io.fld (Reg.CAN.STAT c) 31 29
  let io1 := ((io.setFld (Reg.CAN.STAT c) 24 16 (min tec 256)).setFld (Reg.CAN.STAT c) 15 8 (min rec 255)).setFld
    (Reg.CAN.STAT c) 31 29 st
  if st = old then io1
  else
    let io2 := (if st = 3 then (io1.evt (canBase c) 4).setFld (Reg.CAN.STAT c) 7 0 0 else io1).evt (canBase c) 3
    canRec c (if st = 3 then 0xC else 4)
      (0xE2 * 2 ^ 48 + c * 2 ^ 45 + st * 2 ^ 42 + min tec 256 * 2 ^ 16 + min rec 255) io2

def canTec (c : Nat) (io : Io) : Nat := io.fld (Reg.CAN.STAT c) 24 16
def canRecCnt (c : Nat) (io : Io) : Nat := io.fld (Reg.CAN.STAT c) 15 8

/-- The state after CTRL was written. -/
def canSync (c : Nat) (io : Io) : Io := canSetErr c (canTec c io) (canRecCnt c io) io

/-! Receive (R347, R349 to R353). -/

/-- The identifier word of a frame as TX_ID and RX_ID show it. -/
def CanFrame.idWord (f : CanFrame) : Nat := b2n f.xtd * 2 ^ 31 + f.fmt * 2 ^ 29 + f.id % 2 ^ 29

/-- Whether filter k matches. FMT: 0 an 11-bit, 1 a 29-bit identifier, 2 an XL priority identifier, 3 any. -/
def fltMatch (io : Io) (c k : Nat) (f : CanFrame) : Bool :=
  let cfg := Reg.CAN.FLT_CFG c k
  let kind := io.fld cfg 30 29
  io.flag cfg 31
    && (kind == 3 || (kind == 2 && f.fmt == 2) || (kind == 1 && f.xtd && f.fmt != 2) || (kind == 0 && !f.xtd && f.fmt != 2))
    && Nat.land (Nat.xor f.id (io.reg (Reg.CAN.FLT_ID c k)).toNat) (io.reg (Reg.CAN.FLT_MASK c k)).toNat == 0

/-- R349: the action of the lowest-numbered enabled filter that matches. -/
def fltAction (io : Io) (c : Nat) (f : CanFrame) : Option Nat :=
  ((List.range 64).find? fun k => fltMatch io c k f).map fun k => io.fld (Reg.CAN.FLT_CFG c k) 28 27

/-- The lowest-numbered free receive entry. -/
def rxFree (x : CanSt) : Option Nat := (List.range 64).find? fun e => (Tbl.get x.rx none e).isNone

/-- R351, R352: a frame for the receive queue. -/
def canRxq (c : Nat) (f : CanFrame) (n : NetSt) (io : Io) : NetSt × Io :=
  let x := canOf n c
  match rxFree x with
  | some e =>
    (canPut c { x with rx := Tbl.set x.rx none e (some f) } n,
     canRec c 4 (0xE0 * 2 ^ 48 + c * 2 ^ 45 + e * 2 ^ 39 + f.fmt * 2 ^ 37 + b2n f.xtd * 2 ^ 36 + f.id % 2 ^ 29) (io.evt (canBase c) 0))
  | none => (canPut c { x with ovrRun := x.ovrRun + 1 } n, (io.count (Reg.CAN.RX_OVR_CNT c)).evt (canBase c) 5)

/-- R350: a frame for the high-priority buffer raises the controller's high-priority interrupt. Assumption log: 103 (DEDUCED). -/
def canHp (c : Nat) (f : CanFrame) (n : NetSt) (io : Io) : NetSt × Io :=
  let lost := io.flag (Reg.CAN.HP_CTL c) 31
  let io1 := if lost then (io.count (Reg.CAN.HP_LOST_CNT c)).evt (canBase c) 6 else io
  (canPut c { canOf n c with hp := some f } n,
   ((io1.setFlag (Reg.CAN.HP_CTL c) 31 true).setFld (Reg.CAN.HP_CTL c) 6 0 f.data.length).drive "CAN_HP_IRQ" c [])

/-- A partly received message is discarded (R347). -/
def segDrop (c id : Nat) (n : NetSt) (io : Io) : NetSt × Io :=
  let x := canOf n c
  (canPut c { x with seg := Tbl.set x.seg none id none } n, (io.count (Reg.CAN.ATK_SEG_DROP_CNT c)).evt (canBase c) 7)

/-- R345 to R347: one segment; the complete message's bytes where it is the last. -/
def canSegment (c : Nat) (f : CanFrame) (n : NetSt) (io : Io) : (NetSt × Io) × Option (List Byte) :=
  let b0 := u8 f.data 0
  let ctr := u8 f.data 1
  let first := decide (128 ≤ b0)
  let last := bitsN b0 6 6 == 1
  let idx := b0 % 64
  let part := Tbl.get (canOf n c).seg none f.id
  let fits := match part with
    | some s => !first && s.next == idx && s.ctr == ctr
    | none => false
  let t := if part.isSome && !fits then segDrop c f.id n io else (n, io)
  let keep := fun (bs : List Byte) (since : Nat) =>
    canPut c { canOf t.1 c with seg := Tbl.set (canOf t.1 c).seg none f.id (some ⟨idx + 1, ctr, bs, since⟩) } t.1
  let gone := canPut c { canOf t.1 c with seg := Tbl.set (canOf t.1 c).seg none f.id none } t.1
  match part, fits with
  | some s, true =>
    let bs := s.bytes ++ f.data.drop 2
    if last then ((gone, t.2), some bs) else ((keep bs s.since, t.2), none)
  | _, _ =>
    if first && idx == 0 then
      (if last then (t, some (f.data.drop 2)) else ((keep (f.data.drop 2) io.now, t.2), none))
    else (t, none)

/-- Whether the controller's settings let it take a frame of this format. -/
def canTakes (io : Io) (c : Nat) (f : CanFrame) : Bool :=
  io.flag (Reg.CAN.CTRL c) 0 && (f.fmt == 0 || (f.fmt == 1 && io.flag (Reg.CAN.CTRL c) 2) || (f.fmt == 2 && io.flag (Reg.CAN.CTRL c) 3))
    && io.fld (Reg.CAN.STAT c) 31 29 != 3

/-- A good frame lowers the receive error counter: one less, and from above 127 to a value from 119 to 127 (ISO 11898-1).
Assumption log: 98 (PRESUMED). -/
def recDown (r f : Nat) : Nat := if r = 0 then 0 else if 127 < r then 119 + Config.freeNat f % 9 else r - 1

/-- R349: a frame received without error; the message bytes where it completes an Atkai message. Assumption log: 97 (DEDUCED). -/
def canReceive (c : Nat) (f : CanFrame) (n : NetSt) (io : Io) : (NetSt × Io) × Option (List Byte) :=
  if !(decide (c < 8) && canTakes io c f) then ((n, io), none)
  else
    let io0 := io.count (Reg.CAN.RX_CNT c)
    let r := canRecCnt c io0
    let io1 : Io := if io0.flag (Reg.CAN.CTRL c) 4 then io0
      else canSetErr c (canTec c io0) (recDown r io0.free) (if 127 < r then { io0 with free := io0.free + 1 } else io0)
    match fltAction io1 c f with
    | none => ((n, io1.count (Reg.CAN.FLT_MISS_CNT c)), none)
    | some 0 => (canRxq c f n io1, none)
    | some 1 => (if f.fmt = 2 ∧ 64 < f.data.length then canRxq c f n io1 else canHp c f n io1, none)
    | some 2 => if f.fmt = 2 then ((n, io1), some f.data) else canSegment c f n io1
    | some _ => ((n, io1), none)

/-- How a message came over CAN: the source bus address of its identifier (R345, R348). -/
def canVia (c : Nat) (f : CanFrame) : Via := ⟨3, c, if f.fmt = 2 then f.id / 4 % 64 else f.id / 2 ^ 20 % 64, false, 0, 0⟩

/-- R347: SEG_TMO_MS without the LAST segment of the message with identifier `id`. Assumption log: 104 (DEDUCED). -/
def segTimeout (c id : Nat) (n : NetSt) (io : Io) : NetSt × Io :=
  match Tbl.get (canOf n c).seg none id with
  | some s => if s.since + io.fld (Reg.CAN.ATK_CFG c) 7 0 * ms ≤ io.now then segDrop c id n io else (n, io)
  | none => (n, io)

/-- R351 to R353: a write of RX_ACK. A freed entry ends a run of drops. -/
def canRxAck (who : Who) (c : Nat) (v : Word) (n : NetSt) (io : Io) : NetSt × Io :=
  let a := Reg.CAN.RX_ACK c
  let x := canOf n c
  let e := bits v 5 0
  if !mayWrite who a then (n, io.accessAt 1 who a v.toNat)
  else if (Tbl.get x.rx none e).isNone then (n, io.accessAt 4 who a v.toNat)
  else
    let io1 := if x.ovrRun = 0 then io else canRec c 0xC (0xE3 * 2 ^ 48 + c * 2 ^ 45 + satU 32 x.ovrRun) io
    (canPut c { x with rx := Tbl.set x.rx none e none, ovrRun := 0 } n, io1)

/-! Transmit (R354 to R357). -/

def canTx (x : CanSt) (e : Nat) : CanTx := Tbl.get x.tx CanTx.init e

/-- The order of arbitration: a lower value wins. A 29-bit identifier loses to the 11-bit one that equals its first eleven
bits. Assumption log: 100 (DEDUCED). -/
def arbKey (w : Word) : Nat :=
  if bit w 31 then bits w 28 18 * 2 ^ 19 + 2 ^ 18 + bits w 17 0 else bits w 10 0 * 2 ^ 19

/-- R354: the ready entry that arbitrates next. Assumption log: 100 (DEDUCED). -/
def canNext (c : Nat) (n : NetSt) (io : Io) : Option Nat :=
  let key := fun e => arbKey (io.reg (Reg.CAN.TX_ID c e))
  ((List.range 32).filter fun e => (canTx (canOf n c) e).ready).foldl
    (fun (b : Option Nat) e => match b with
      | some k => if key e < key k then some e else some k
      | none => some e) none

/-- Ready entries (TXQ_CTL.READY_NUM). -/
def readyNum (x : CanSt) : Nat := (x.tx.filter fun e => e.2.ready).length

/-- R357: an entry ends with a result: freed, and a CAN_TX record. -/
def canEnd (c e result : Nat) (n : NetSt) (io : Io) : NetSt × Io :=
  let x := canOf n c
  (canPut c { x with tx := Tbl.set x.tx CanTx.init e CanTx.init } n,
   canRec c 4 (0xE1 * 2 ^ 48 + c * 2 ^ 45 + e * 2 ^ 40 + result * 2 ^ 38 + satU 8 (canTx x e).attempts) (io.evt (canBase c) 2))

/-- The frame of an entry goes out whole. -/
def canSent (c e : Nat) (n : NetSt) (io : Io) : NetSt × Io :=
  let x := canOf n c
  let t := canTx x e
  let ctl := io.reg (Reg.CAN.TX_CTL c e)
  let n1 := canPut c { x with tx := Tbl.set x.tx CanTx.init e { t with attempts := t.attempts + 1 } } n
  let io1 := (io.count (Reg.CAN.TX_CNT c)).drive "CAN" c
    ((io.reg (Reg.CAN.TX_ID c e)).toNat :: ctl.toNat :: (t.data.take (bits ctl 10 0)).map fun b => b.toNat)
  canEnd c e 0 n1 (canSetErr c (canTec c io1 - 1) (canRecCnt c io1) io1)

/-- R356: the cancel rule for one entry. -/
def canCancel (c e : Nat) (ph : CanPhase) (n : NetSt) (io : Io) : NetSt × Io :=
  let x := canOf n c
  if (canTx x e).ready then
    match ph with
    | .waiting => canEnd c e 1 n io
    | .arbitrating | .won => (canPut c { x with tx := Tbl.set x.tx CanTx.init e { canTx x e with cancel := true } } n, io)
    | .completed => canSent c e n io
  else (n, io)

/-- A write of TXQ_CTL: ENTRY, then READY, CANCEL and FLUSH. `ph`: where the entry on the bus, `busy`, stands. Assumption log: 99 (DEDUCED). -/
def canTxqWrite (ok : Guard → Bool) (who : Who) (c : Nat) (v : Word) (busy : Option Nat) (ph : CanPhase) (n : NetSt) (io : Io) :
    NetSt × Io :=
  let a := Reg.CAN.TXQ_CTL c
  let io1 := io.write ok who a (setBits v 0 0 0)
  if !mayWrite who a then (n, io1)
  else
    let e := bits v 12 8
    let phase := fun k => if busy = some k then ph else CanPhase.waiting
    let x := canOf n c
    let t0 := (if bit v 0 then canPut c { x with tx := Tbl.set x.tx CanTx.init e { canTx x e with ready := true } } n else n, io1)
    let t1 := if bit v 1 then canCancel c e (phase e) t0.1 t0.2 else t0
    if bit v 2 then (List.range 32).foldl (fun (t : NetSt × Io) k => canCancel c k (phase k) t.1 t.2) t1 else t1

/-- Whether a controller sends: it runs, not in restricted operation, not in bus-off. -/
def canSends (io : Io) (c : Nat) : Bool := io.flag (Reg.CAN.CTRL c) 0 && decide (io.fld (Reg.CAN.STAT c) 31 29 < 3)
  && !io.flag (Reg.CAN.CTRL c) 4

/-- The attempt of an entry, or of the one that R354 picks, ends without an error. Assumption log: 99 (DEDUCED). -/
def canComplete (c : Nat) (e : Option Nat) (r : CanEnd) (n : NetSt) (io : Io) : NetSt × Io :=
  match e <|> canNext c n io with
  | some k =>
    let t := canTx (canOf n c) k
    if !(t.ready && canSends io c) then (n, io)
    else match r with
      | .sent => canSent c k n io
      | .lost => if t.cancel then canEnd c k 1 n io else (n, io)
  | none => (n, io)

/-- R355, R358, R359: a bus error: of the attempt of a ready entry (the one that R354 picks where none is named), or, with
`rx`, while receiving. A transmit error adds 8 to TEC, a receive error 1 to REC (ISO 11898-1). -/
def canBusError (c : Nat) (e : Option Nat) (rx : Bool) (n : NetSt) (io : Io) : NetSt × Io :=
  if !(io.flag (Reg.CAN.CTRL c) 0) || io.fld (Reg.CAN.STAT c) 31 29 == 3 then (n, io)
  else
    let io0 := io.count (Reg.CAN.ERR_FRAME_CNT c)
    if io.flag (Reg.CAN.CTRL c) 4 then (n, io0)
    else if rx then (n, canSetErr c (canTec c io0) (canRecCnt c io0 + 1) io0)
    else match e <|> canNext c n io with
      | some k =>
        let x := canOf n c
        let t := canTx x k
        let retry := io.fld (Reg.CAN.TX_CTL c k) 31 28
        let n1 := canPut c { x with tx := Tbl.set x.tx CanTx.init k { t with attempts := t.attempts + 1 } } n
        let t1 := if !t.ready then (n, io0)
          else if t.cancel then canEnd c k 1 n1 io0
          else if retry != 15 && decide (retry < t.attempts + 1) then canEnd c k 2 n1 io0
          else (n1, io0)
        (t1.1, canSetErr c (canTec c t1.2 + 8) (canRecCnt c t1.2) t1.2)
      | none => (n, canSetErr c (canTec c io0 + 8) (canRecCnt c io0) io0)

/-- R359: `seqs` sequences of 11 recessive bits have been seen in bus-off; after 128 the controller resumes. -/
def canRecover (c seqs : Nat) (io : Io) : Io :=
  if io.fld (Reg.CAN.STAT c) 31 29 != 3 then io
  else if seqs < 128 then io.setFld (Reg.CAN.STAT c) 7 0 seqs
  else canSetErr c 0 0 (io.setFld (Reg.CAN.STAT c) 7 0 128)

/-! Registers with an effect of their own. -/

/-- A write of TX_DATA: four bytes of the selected entry, ignored and logged while it is ready. -/
def canTxData (who : Who) (c : Nat) (v : Word) (n : NetSt) (io : Io) : NetSt × Io :=
  let e := io.fld (Reg.CAN.TXQ_CTL c) 12 8
  let x := canOf n c
  let t := canTx x e
  let a := canBase c + 0x20C
  if !mayWrite who a then (n, io.accessAt 1 who a v.toNat)
  else if t.ready then (n, io.accessAt 4 who a v.toNat)
  else (canPut c { x with tx := Tbl.set x.tx CanTx.init e { t with data := t.data ++ le 4 v.toNat } } n, io)

/-- A write of RX_SEL resets the data pointer. -/
def canRxSel (c : Nat) (n : NetSt) : NetSt := canPut c { canOf n c with rxPtr := 0 } n

/-- A read of RX_DATA advances the data pointer. -/
def canRxRead (c : Nat) (n : NetSt) : NetSt := canPut c { canOf n c with rxPtr := (canOf n c).rxPtr + 4 } n

/-- RX_CTL of a full entry. -/
def CanFrame.ctlWord (f : CanFrame) : Nat :=
  2 ^ 31 + f.fmt * 2 ^ 29 + b2n f.rtr * 2 ^ 28 + b2n f.brs * 2 ^ 27 + b2n f.esi * 2 ^ 26 + f.data.length % 2048

/-- What a controller's registers show. Assumption log: 103 (DEDUCED). -/
def canView (n : NetSt) (io : Io) (k : Nat) : Option Word :=
  let c := (k - 0x40310000) / 0x1000
  let o := (k - 0x40310000) % 0x1000
  if k < 0x40310000 ∨ 0x40318000 ≤ k then none
  else
    let x := canOf n c
    let f := Tbl.get x.rx none (io.fld (Reg.CAN.RX_SEL c) 5 0)
    let rx := fun (g : CanFrame → Nat) => some (w32 ((f.map g).getD 0))
    match o with
    | 0x200 => some (setBits (io.reg k) 21 16 (readyNum x))
    | 0x304 => rx CanFrame.idWord
    | 0x308 => rx CanFrame.ctlWord
    | 0x30C => rx CanFrame.time
    | 0x310 => rx fun g => g.time / 2 ^ 32
    | 0x314 => rx fun g => leN g.data x.rxPtr 4
    | 0x320 => some (w32 (((List.range 32).map fun e => b2n (Tbl.get x.rx none e).isSome * 2 ^ e).foldl (· + ·) 0))
    | 0x324 => some (w32 (((List.range 32).map fun e => b2n (Tbl.get x.rx none (32 + e)).isSome * 2 ^ e).foldl (· + ·) 0))
    | 0x400 => some (w32 ((x.hp.map CanFrame.idWord).getD 0))
    | _ =>
      if 0x440 ≤ o ∧ o < 0x480 then some (w32 ((x.hp.map fun g => leN g.data (o - 0x440) 4).getD 0)) else none

end Sys2Proof.Machine
end

