-- ==== Sys2Proof/Machine/Cot.lean ====
section
/-! DEFINITION. Sys2Proof/Machine/Cot.lean: the two constant-on-time regulators (chapter 15, R623 to R641): AUX is 0, CORE 1. -/
namespace Sys2Proof.Machine

def railOf (p : PowSt) (r : Nat) : Rail := Tbl.get p.rail Rail.init r
def PowSt.putRail (p : PowSt) (r : Nat) (x : Rail) : PowSt := { p with rail := Tbl.set p.rail Rail.init r x }

/-- A register of RG[r], by its place in the window. -/
def rg (r o : Nat) : Nat := 0x40810100 + 0x80 * r + o

/-- An event of RG[r]. -/
def cotEvt (io : Io) (r i : Nat) : Io := io.evt 0x40810000 (8 * r + i)

/-- VREF in nV; it moves every 1 µs (R629). -/
def Rail.vref (x : Rail) (now : Nat) : Nat :=
  let d := (now / us - x.t0 / us) * (x.rate * us)
  if x.v0 ≤ x.target then min x.target (x.v0 + d) else max x.target (x.v0 - d)

/-- VREF turns toward a value, in mV, at a rate in mV per ms, from where it is (R627). -/
def Rail.ramp (x : Rail) (now rate mV : Nat) : Rail :=
  { x with v0 := x.vref now, t0 := now, rate := rate, target := mV * 1000000 }

/-- VREF stands. -/
def Rail.hold (x : Rail) (nV : Nat) : Rail := { x with v0 := nV, rate := 0, target := nV }

/-- The phases that are not dropped. -/
def phasesLeft (io : Io) (r : Nat) (x : Rail) : List Nat :=
  (List.range (io.fld (rg r 0x0C) 31 28)).filter fun k => x.dropped.all fun e => e.1 != k

/-- The active phases: none in OFF and FAULT. -/
def phasesOn (io : Io) (r : Nat) (x : Rail) : List Nat := if x.st = .off ∨ x.st = .fault then [] else phasesLeft io r x

def maskOf (l : List Nat) : Nat := (l.map fun k => 2 ^ k).foldl (· + ·) 0

def vset (io : Io) (r : Nat) : Nat := io.fld (rg r 4) 15 0
def ssRate (io : Io) (r : Nat) : Nat := io.fld (rg r 8) 31 16
def slewRate (io : Io) (r : Nat) : Nat := io.fld (rg r 8) 15 0

/-- R624, R630, R636, R639: EN goes from 0 to 1. -/
def railStart (r : Nat) (p : PowSt) (io : Io) : PowSt :=
  let x := railOf p r
  let y := if x.st = .softStop then x else x.hold (x.vout * 1000000)
  p.putRail r { y.ramp io.now (ssRate io r) (vset io r) with
    st := .softStart, dropped := if r = 0 then [] else x.dropped, uv := false, ov := false, cl := false }

/-- R625: EN goes from 1 to 0. Where the phases stop at once, the spec does not say what VREF then reads: a free value.
Assumption log: 175 (DESIGN CHOICE). -/
def railStop (r : Nat) (soft : Bool) (p : PowSt) (io : Io) : PowSt × Io :=
  let x := railOf p r
  if x.st = .off ∨ x.st = .fault then (p, io)
  else if soft then (p.putRail r { x.ramp io.now (ssRate io r) 0 with st := .softStop }, io)
  else
    let f := io.fresh
    (p.putRail r { x.hold (Config.freeNat f.1 % 65536 * 1000000) with st := .off }, f.2)

/-- A write of CTL (R624, R625, R631). Rows REG_ENABLE and REG_DISABLE. -/
def cotCtlWrite (who : Who) (r : Nat) (v : Word) (p : PowSt) (io : Io) : PowSt × Io :=
  let a := rg r 0
  if r < 2 then
    if mayWrite who a then
      if r = 1 ∧ bit v 31 = false then (p, (io.setFlag a 30 (bit v 30)).access .cot 0 4 who a v.toNat)
      else
        let was := io.flag a 31
        let io1 := (io.setFlag a 31 (bit v 31)).setFlag a 30 (bit v 30)
        if !was && bit v 31 then (railStart r p io1, io1)
        else if was && !bit v 31 then railStop r (bit v 30) p io1
        else (p, io1)
    else (p, io.accessAt 1 who a v.toNat)
  else (p, io)

/-- Row REG_ENABLE: a write of 1 to EN with the output at `vout` mV (R624). -/
def regEnable (who : Who) (r : Nat) (v : Word) (vout : Nat) (p : PowSt) (io : Io) : PowSt × Io :=
  if bit v 31 then cotCtlWrite who r v (p.putRail r { railOf p r with vout := vout }) io else (p, io)

/-- Row REG_DISABLE: a write of 0 to EN (R625). -/
def regDisable (who : Who) (r : Nat) (v : Word) (p : PowSt) (io : Io) : PowSt × Io :=
  if bit v 31 then (p, io) else cotCtlWrite who r v p io

/-- The range of VSET (R623). -/
def vsetOk (r mV : Nat) : Bool :=
  if r = 0 then decide (12000 ≤ mV) && decide (mV ≤ 28000) else decide (720 ≤ mV) && decide (mV ≤ 780)

/-- R626 to R628, row VSET_WRITE. Assumption log: 178 (DEDUCED). -/
def vsetWrite (who : Who) (r : Nat) (v : Word) (p : PowSt) (io : Io) : PowSt × Io :=
  let a := rg r 4
  if r < 2 then
    if mayWrite who a then
      if vsetOk r (bits v 15 0) then
        let io1 := io.setFld a 15 0 (bits v 15 0)
        let x := railOf p r
        match x.st with
        | .regulating | .slewing =>
          (p.putRail r { x.ramp io.now (slewRate io r) (bits v 15 0) with st := .slewing }, io1)
        | .softStart => (p.putRail r (x.ramp io.now (ssRate io r) (bits v 15 0)), io1)
        | .off | .softStop | .fault => (p, io1)
      else (p, io.access .cot 0 2 who a v.toNat)
    else (p, io.accessAt 1 who a v.toNat)
  else (p, io)

/-- R624, row SOFT_START_DONE. Assumption log: 178 (DEDUCED). -/
def softStartDone (r : Nat) (p : PowSt) (io : Io) : PowSt × Io :=
  let x := railOf p r
  if r < 2 ∧ x.st = .softStart ∧ x.vref io.now = x.target then
    (p.putRail r { x.hold x.target with st := .regulating }, cotEvt io r 7)
  else (p, io)

/-- R626, row SLEW_DONE. -/
def slewDone (r : Nat) (p : PowSt) (io : Io) : PowSt × Io :=
  let x := railOf p r
  if r < 2 ∧ x.st = .slewing ∧ x.vref io.now = x.target then
    (p.putRail r { x.hold x.target with st := .regulating }, cotEvt io r 1)
  else (p, io)

/-- R625, row SOFT_STOP_DONE. -/
def softStopDone (r : Nat) (p : PowSt) (io : Io) : PowSt × Io :=
  let x := railOf p r
  if r < 2 ∧ x.st = .softStop ∧ x.vref io.now = 0 then (p.putRail r { x.hold 0 with st := .off }, io) else (p, io)

/-- R638: the reaction. AUX enters FAULT; for CORE the cause and the phases go to CORE_LAST, and the part is held in power-on
reset (the third component). In FAULT the spec does not say what VREF reads: a free value. Assumption log: 175 (DESIGN CHOICE), 177 (DEDUCED). -/
def railFault (r : Nat) (cause : Option Nat) (uv ov : Bool) (p : PowSt) (io : Io) : PowSt × Io × Bool :=
  let x := railOf p r
  if r = 0 then
    let f := io.fresh
    (p.putRail 0 { x.hold (Config.freeNat f.1 % 65536 * 1000000) with st := .fault, uv := uv, ov := ov },
      cotEvt f.2 0 6, false)
  else match cause with
    | some c => (p, io.setReg Reg.COT.CORE_LAST (w32 (c * 2 ^ 24 + maskOf (phasesOn io 1 x) * 2 ^ 16)), true)
    | none => (p, io, false)

/-- R638, row REG_FAULT: a condition as seen. -/
def regFault (r : Nat) (c : RegCond) (p : PowSt) (io : Io) : PowSt × Io × Bool :=
  let x := railOf p r
  let lim := io.reg (rg r 0x10)
  let v := x.vref io.now
  if r < 2 ∧ x.st ≠ .off ∧ x.st ≠ .fault then
    match c with
    | .ovr mV ns =>
      if v * (100 + bits lim 23 16) < mV * 100000000 ∧ 2000 ≤ ns then
        railFault r (some 1) false true p (cotEvt io r 4) else (p, io, false)
    | .under mV ns =>
      if mV * 100000000 < v * (100 - bits lim 15 8) ∧ bits lim 7 0 * ms ≤ ns then
        railFault r (some 2) true false p (cotEvt io r 3) else (p, io, false)
    | .phases =>
      let n := (phasesLeft io r x).length
      if n = 0 then railFault r (some 3) false false p io
      else if r = 0 ∧ n < io.fld (rg 0 0x0C) 27 24 then railFault 0 none false false p io
      else (p, io, false)
    | .temp t => if 15000 ≤ t then railFault r (some 4) false false p io else (p, io, false)
    | .vin mV ns => if r = 0 ∧ mV < 36000 ∧ ms ≤ ns then railFault 0 none false false p io else (p, io, false)
  else (p, io, false)

/-- R638, row REG_OT_WARN: a stage's TMON, 0.01 °C. -/
def regOtWarn (r : Nat) (t : Int) (p : PowSt) (io : Io) : PowSt × Io × Bool :=
  if r < 2 then regFault r (.temp t) p (if 12500 ≤ t then cotEvt io r 5 else io) else (p, io, false)

/-- R634: the condition that drops a phase, if one does. -/
def dropCause (io : Io) (r : Nat) (o : PhaseObs) : Option PhCause :=
  let ilim : Int := (io.fld (rg r 0x10) 31 24 * 1000 : Nat)
  if o.flt then some .stage
  else if (4 * o.imon < -ilim ∨ 3 * ilim < 2 * o.imon) ∧ 8 ≤ o.cycles then some .sense
  else if 10 * o.imon < o.mean ∧ ilim ≤ 8 * o.mean ∧ 64 ≤ o.cycles then some .openPh
  else none

/-- R634, R635, row PHASE_DROP: what the controller sees of its phases in one cycle; too few phases left is a fault (R638).
Assumption log: 177 (DEDUCED). -/
def phaseDrop (r : Nat) (l : List PhaseObs) (p : PowSt) (io : Io) : PowSt × Io × Bool :=
  let x := railOf p r
  let new := l.filterMap fun o =>
    if (phasesOn io r x).contains o.phase then (dropCause io r o).map fun c => (o.phase, c) else none
  if r < 2 ∧ new ≠ [] then
    let one := new.foldl (fun (acc : List (Nat × PhCause)) e => if acc.any fun a => a.1 == e.1 then acc else acc ++ [e]) x.dropped
    regFault r .phases (p.putRail r { x with dropped := one }) (cotEvt io r 0)
  else (p, io, false)

/-- R637, row CURRENT_LIMIT: consecutive cycles on which a phase limits, and for how long none has. -/
def currentLimit (r cycles quiet : Nat) (p : PowSt) (io : Io) : PowSt × Io :=
  let x := railOf p r
  if r < 2 ∧ phasesOn io r x ≠ [] then
    if 16 ≤ cycles then (p.putRail r { x with cl := true }, if x.cl then io else cotEvt io r 2)
    else if ms ≤ quiet then (p.putRail r { x with cl := false }, io)
    else (p, io)
  else (p, io)

/-- A signed peak register keeps the larger value. Assumption log: 176 (DEDUCED). -/
def peakS (io : Io) (a : Nat) (v : Int) : Io := if sW (io.reg a) < v then io.setReg a (wS v) else io

/-- R640, row TELEMETRY_WINDOW: the averages of a window of 2^AVG_SH ms at its end, and the peaks. Assumption log: 176 (DEDUCED). -/
def telemetry (r : Nat) (t : Telem) (p : PowSt) (io : Io) : PowSt × Io :=
  let win := io.now / (2 ^ io.fld (rg r 0x0C) 7 4 * ms) + 1
  let x := railOf p r
  if r < 2 ∧ x.win ≠ win then
    let io1 := ((((io.setReg (rg r 0x20) (w32 t.v)).setReg (rg r 0x28) (wS t.i)).setReg (rg r 0x30) (wS t.p)).setReg (rg r 0x38)
      (w32 (unS 16 t.t))).setReg (rg r 0x40) (w32 t.vin)
    let io2 := peakS (peakS (peakS io1 (rg r 0x24) t.vPk) (rg r 0x2C) t.iPk) (rg r 0x34) t.pPk
    let io3 := if sxt 16 (io2.fld (rg r 0x3C) 15 0) < t.tPk then io2.setReg (rg r 0x3C) (w32 (unS 16 t.tPk)) else io2
    (p.putRail r { x with win := win, vout := t.v },
      (List.range 6).foldl (fun (io : Io) k =>
        io.setReg (rg r (0x44 + 4 * k)) (if k < io.fld (rg r 0x0C) 31 28 then wS ((t.ph[k]?).getD 0) else 0)) io3)
  else (p, io)

/-- STAT. -/
def Rail.statWord (io : Io) (r : Nat) (x : Rail) : Word :=
  w32 (x.st.code * 2 ^ 29 + b2n x.cl * 2 ^ 28 + b2n x.uv * 2 ^ 27 + b2n x.ov * 2 ^ 26 + maskOf (phasesOn io r x) * 2 ^ 20
    + maskOf (x.dropped.map Prod.fst) * 2 ^ 14)

/-- What COT's registers show. -/
def cotView (p : PowSt) (io : Io) (a : Nat) : Option Word :=
  if 0x40810100 ≤ a ∧ a < 0x40810200 then
    let r := (a - 0x40810100) / 0x80
    let x := railOf p r
    match a % 0x80 with
    | 0x14 => some (x.statWord io r)
    | 0x18 => some (w32 ((x.dropped.map fun e => e.2.code * 2 ^ (2 * e.1)).foldl (· + ·) 0))
    | 0x1C => some (w32 (odiv (x.vref io.now : Nat) 1000000).toNat)
    | _ => none
  else none

end Sys2Proof.Machine
end

