-- ==== Sys2Proof/Machine/Profile.lean ====
section
/-! DEFINITION. Sys2Proof/Machine/Profile.lean: the time-optimal jerk-limited motion of R165 to R169, in fixed point with
96 fractional bits. -/
namespace Sys2Proof.Machine

/-- One, in fixed point. -/
def fx1 : Int := 79228162514264337593543950336

def fxMul (a b : Int) : Int := a * b / fx1

def fxSqrt (a : Int) : Int := isqrt (a * fx1).toNat

/-- A state of motion: position, velocity, acceleration. -/
structure Motion where
  x : Int
  v : Int
  a : Int
  deriving DecidableEq, Repr

/-- The motion t later under a constant jerk. -/
def Motion.after (m : Motion) (jerk t : Int) : Motion :=
  let j := jerk * fx1
  ⟨m.x + fxMul m.v t + fxMul (fxMul m.a t) t / 2 + fxMul (fxMul (fxMul j t) t) t / 6,
   m.v + fxMul m.a t + fxMul (fxMul j t) t / 2, m.a + fxMul j t⟩

/-- The motion t into a plan; past its end the plan's last state. -/
def Motion.along (m : Motion) : List Leg → Nat → Motion
  | [], _ => m
  | s :: r, t => if t < s.dur then m.after s.jerk t else (m.after s.jerk s.dur).along r (t - s.dur)

/-- The motion at the end of a plan. -/
def Motion.finish (m : Motion) (p : List Leg) : Motion := p.foldl (fun m s => m.after s.jerk s.dur) m

def Motion.neg (m : Motion) : Motion := ⟨-m.x, -m.v, -m.a⟩

def Leg.neg (s : Leg) : Leg := ⟨s.dur, -s.jerk⟩

/-- A segment of length t under a jerk. -/
def leg (t jerk : Int) : Leg := ⟨t.toNat, jerk⟩

/-- The velocity once the acceleration has been brought to zero at the jerk limit. -/
def relaxed (J : Int) (v a : Int) : Int := v + (if 0 ≤ a then fxMul a a else -(fxMul a a)) / (2 * J)

/-- The shortest change of velocity by dv upward, ending at zero acceleration, from acceleration a: three phases. Used
where the relaxed velocity is below the goal. -/
def riseLegs (J A : Int) (dv a : Int) : List Leg :=
  let p := fxSqrt (J * dv + fxMul a a / 2)
  if p ≤ A * fx1 then [leg ((p - a) / J) J, leg 0 0, leg (p / J) (-J)]
  else [leg ((A * fx1 - a) / J) J, leg ((dv + fxMul a a / (2 * J) - fxMul (A * fx1) (A * fx1) / J) / A) 0, leg (A * fx1 / J) (-J)]

/-- The shortest change from velocity v and acceleration a to velocity w and zero acceleration. -/
def velLegs (J A : Int) (v a w : Int) : List Leg :=
  let r := relaxed J v a
  if r = w then [leg ((a.natAbs : Int) / J) (if 0 ≤ a then -J else J)]
  else if r < w then riseLegs J A (w - v) a
  else (riseLegs J A (v - w) (-a)).map Leg.neg

/-- R169: the acceleration is brought inside its limit, then the velocity inside its own. -/
def reduceLegs (V A J : Int) (m : Motion) : List Leg :=
  let s1 : List Leg := if A * fx1 < m.a then [leg ((m.a - A * fx1) / J) (-J)]
    else if m.a < -(A * fx1) then [leg ((-m.a - A * fx1) / J) J] else []
  let m1 := m.finish s1
  let r := relaxed J m1.v m1.a
  s1 ++ (if V * fx1 < r then velLegs J A m1.v m1.a (V * fx1)
    else if r < -(V * fx1) then velLegs J A m1.v m1.a (-(V * fx1)) else [])

/-- Where a motion comes to rest when it brakes at once. -/
def stopAt (J A : Int) (m : Motion) : Int := (m.finish (velLegs J A m.v m.a 0)).x

/-- The first t of a plan. -/
def takeLegs : List Leg → Nat → List Leg
  | [], _ => []
  | s :: r, t => if t ≤ s.dur then [⟨t, s.jerk⟩] else s :: takeLegs r (t - s.dur)

/-- How long the rising phase lasts before braking, by halving: the plan comes to rest nearest below the goal. -/
def halve (J A goal : Int) (m : Motion) (up : List Leg) : Nat → Nat → Nat → Nat
  | 0, lo, _ => lo
  | k + 1, lo, hi =>
    let mid := (lo + hi) / 2
    if stopAt J A (m.finish (takeLegs up mid)) ≤ goal then halve J A goal m up k mid hi else halve J A goal m up k lo mid

/-- The plan toward a goal not below the stopping position: rise, cruise at V, brake. -/
def upPlan (V A J : Int) (m : Motion) (goal : Int) : List Leg :=
  let rise := velLegs J A m.v m.a (V * fx1)
  let top := m.finish rise
  let brake := velLegs J A (V * fx1) 0 0
  let reach := (top.finish brake).x
  if reach ≤ goal then rise ++ [leg ((goal - reach) / V) 0] ++ brake
  else
    let up := rise.take 2
    let total := (up.map Leg.dur).foldl (· + ·) 0
    let p := takeLegs up (halve J A goal m up 128 0 total)
    let m1 := m.finish p
    p ++ velLegs J A m1.v m1.a 0

/-- The time-optimal plan of R165 from a state to rest at a goal: the reduction of R169, and the rest. Assumption log: 39 (DEDUCED). -/
def planTo (V A J : Int) (m : Motion) (goal : Int) : List Leg × List Leg :=
  let red := reduceLegs V A J m
  let m1 := m.finish red
  if stopAt J A m1 ≤ goal then (red, upPlan V A J m1 goal) else (red, (upPlan V A J m1.neg (-goal)).map Leg.neg)

/-- R168, judged after the reduction: the goal lies ahead at less than the stopping distance. A difference below 2^-20 of
a unit is none. -/
def overshoots (A J : Int) (m : Motion) (goal : Int) : Bool :=
  let tol := fx1 / 1048576
  let s := stopAt J A m
  (decide (0 < m.v) && decide (m.x < goal) && decide (goal + tol < s))
    || (decide (m.v < 0) && decide (goal < m.x) && decide (s + tol < goal))

/-- Nearest integer of a fixed-point number. Assumption log: 39 (DEDUCED). -/
def fxRound (a : Int) : Int := (2 * a + fx1) / (2 * fx1)

/-- The length of a plan. Assumption log: 39 (DEDUCED). -/
def planLen (p : List Leg) : Nat := (p.map Leg.dur).foldl (· + ·) 0

/-- A length in ns, to nearest. -/
def fxToNs (t : Nat) : Nat := (2 * t * 1000000000 + 79228162514264337593543950336) / (2 * 79228162514264337593543950336)

/-- Nanoseconds as a length. -/
def nsToFx (n : Nat) : Nat := n * 79228162514264337593543950336 / 1000000000

/-- Planned arrival, site time (T_ARR). -/
def Gen.arrival (g : Gen) : Nat := g.t0 + fxToNs (planLen g.plan)

/-- The trajectory of a generator at a time. From its planned arrival on it rests at its goal. -/
def Gen.motion (g : Gen) (t : Nat) : Motion :=
  if g.plan = [] then ⟨g.x0, g.v0, g.a0⟩
  else if g.arrival ≤ t then ⟨g.goal * fx1, 0, 0⟩
  else (⟨g.x0, g.v0, g.a0⟩ : Motion).along g.plan (nsToFx (t - g.t0))

/-- R165: the published position, within one unit of the trajectory; which of the integers there is open. Assumption log: 38 (DESIGN CHOICE). -/
def publishX (m : Motion) (free : Int) : Int :=
  let lo := -((fx1 - m.x) / fx1)
  let hi := (m.x + fx1) / fx1
  max lo (min hi (fxRound m.x + free))

end Sys2Proof.Machine
end

