-- ==== Sys2Proof/Machine/Ctle.lean ====
section
/-! DEFINITION. Sys2Proof/Machine/Ctle.lean: slots, their schedule, their coefficients, the generators, SETPOINT
(chapter 04). Register words of slots and generators are kept in the register file, one bank per slot or generator. -/
namespace Sys2Proof.Machine

/-- Q2 as CTLE writes it (R182, R186). -/
def q2 : Io.QDst := ⟨2, 2, Reg.CTLE.Q2_DROP, 0x40120000, 9⟩

/-- R182, R184: a Q2 record about slot s. -/
def q2Slot (io : Io) (ty prio s mid low : Nat) : Io :=
  io.rec1 q2 35 prio (ty * 2 ^ 48 + s % 1024 * 2 ^ 38 + mid * 2 ^ 36 + low)

/-- R182: GEN_LIMIT. -/
def q2GenLimit (io : Io) (g : Nat) (x : Int) : Io :=
  (io.rec1 q2 35 4 (0x78 * 2 ^ 48 + g % 512 * 2 ^ 39 + unS 32 x)).evt 0x40120000 8

def slotOf (c : CtleSt) (s : Nat) : Slot := Tbl.get c.slot Slot.init s
def genOf (c : CtleSt) (g : Nat) : Gen := Tbl.get c.gen Gen.init g
def CtleSt.putSlot (c : CtleSt) (s : Nat) (x : Slot) : CtleSt := { c with slot := Tbl.set c.slot Slot.init s x }
def CtleSt.putGen (c : CtleSt) (g : Nat) (x : Gen) : CtleSt := { c with gen := Tbl.set c.gen Gen.init g x }

def slotEn (io : Io) (s : Nat) : Bool := io.flag (Reg.CTLE.CTL s) 31
def slotFrozen (io : Io) (s : Nat) : Bool := io.flag (Reg.CTLE.CTL s) 30
def slotDiv (io : Io) (s : Nat) : Nat := io.fld (Reg.CTLE.CTL s) 28 24
def slotPhase (io : Io) (s : Nat) : Nat := io.fld (Reg.CTLE.CTL s) 23 19
def sinkKind (io : Io) (s : Nat) : Nat := io.fld (Reg.CTLE.SINK s) 31 28
def sinkSel (io : Io) (s : Nat) : Nat := io.fld (Reg.CTLE.SINK s) 27 0
def genEn (io : Io) (g : Nat) : Bool := io.flag (Reg.CTLE.GCTL g) 31

/-- Tick-bound: a sink of kind 1, 2, 5 or 6. -/
def tickBound (io : Io) (s : Nat) : Bool := [1, 2, 5, 6].contains (sinkKind io s)

/-- The enabled slots, ascending: EN resets to 0, so they are among the banks of CTL that the register file lists. -/
def enabledSlots (io : Io) : List Nat :=
  io.regs.filterMap fun e =>
    if e.1 % 0x10000000000 = 0x40120100 ∧ 0x10000000000 ≤ e.1 ∧ bit e.2 31 then some (e.1 / 0x10000000000 - 1) else none

/-- The enabled generators, ascending. -/
def enabledGens (io : Io) : List Nat :=
  io.regs.filterMap fun e =>
    if e.1 % 0x10000000000 = 0x40120200 ∧ 0x10000000000 ≤ e.1 ∧ bit e.2 31 then some (e.1 / 0x10000000000 - 1) else none

/-! Schedule (R144 to R152). -/

/-- R144, R145: whether a slot of period p and phase h is due in tick or frame n. -/
def dueAt (p h n : Nat) : Bool := decide (0 < p) && n % p == h % p

/-- The period of a slot, in ticks for a tick-bound slot, in frames for another. -/
def slotPeriod (io : Io) (s : Nat) : Nat := if tickBound io s then slotDiv io s / 5 else slotDiv io s

/-- Slots of a list due in tick or frame n. -/
def dueIn (io : Io) (l : List Nat) (n : Nat) : List Nat := l.filter fun s => dueAt (slotPeriod io s) (slotPhase io s) n

/-- The common period of the slots of a list, a multiple of k. -/
def commonPeriod (io : Io) (k : Nat) (l : List Nat) : Nat :=
  l.foldl (fun p s => if slotPeriod io s = 0 then p else Nat.lcm p (slotPeriod io s)) k

/-- The greatest number of slots of a list due in any tick or frame that satisfies `want`. -/
def maxDue (io : Io) (k : Nat) (l : List Nat) (want : Nat → Bool) : Nat :=
  (List.range (commonPeriod io k l)).foldl (fun m n => if want n then max m (dueIn io l n).length else m) 0

/-- The three counts of R150 for a set of slots: tick-bound in a tick, background in a first frame, in any other. Assumption log: 44 (DEDUCED). -/
def loads (io : Io) (l : List Nat) : Nat × Nat × Nat :=
  let tb := l.filter (tickBound io)
  let bg := l.filter fun s => !tickBound io s
  (maxDue io 1 tb fun _ => true, maxDue io 5 bg fun f => f % 5 == 0, maxDue io 5 bg fun f => f % 5 != 0)

/-- R150. Assumption log: 44 (DEDUCED). -/
def admitted (x : Nat × Nat × Nat) : Bool := decide (x.1 ≤ 456) && decide (x.2.1 ≤ 224) && decide (x.2.2 ≤ 704)

/-- R146. -/
def phaseOk (io : Io) (s : Nat) : Bool :=
  (!tickBound io s || [5, 10, 20].contains (slotDiv io s)) && decide (slotPhase io s < slotPeriod io s)

/-- What makes two sinks the same (R134): kind and selector, TX_MS apart. Assumption log: 45 (DEDUCED). -/
def sinkKey (io : Io) (s : Nat) : Nat × Nat :=
  let k := sinkKind io s
  let x := sinkSel io s
  (k, match k with
    | 3 => x % 32
    | 4 => bitsN x 8 8 * 64 + x % 64
    | 5 | 6 => x % 64
    | 7 => bitsN x 27 12 * 256 + x % 256
    | 8 => x % 512
    | _ => x)

/-- An enabled circuit other than `except` routes an actuator to a load-switch channel (R205). -/
def circuitDrives (io : Io) (except ch : Nat) : Bool :=
  (List.range 64).any fun k =>
    let w := io.reg (Reg.THRM.CCTL k)
    k != except && bit w 31
      && ((bits w 30 29 == 1 && bits w 20 16 == ch) || (bits w 28 27 == 1 && bits w 12 8 == ch))

/-- R134: the sink is held. Assumption log: 45 (DEDUCED). -/
def sinkHeld (io : Io) (s : Nat) : Bool :=
  let k := sinkKind io s
  decide (3 ≤ k) &&
    ((enabledSlots io).any (fun o => o != s && sinkKey io o == sinkKey io s)
      || (k == 3 && circuitDrives io 64 (sinkSel io s % 32)))

/-- R151: the SCHED_REJ record. Where both frame limits break, the first frame's count is given. Assumption log: 44 (DEDUCED). -/
def schedRej (io : Io) (s : Nat) (x : Nat × Nat × Nat) : Io :=
  let n := if 224 < x.2.1 then x.2.1 else if 704 < x.2.2 then x.2.2 else max x.2.1 x.2.2
  (q2Slot io 0x79 8 s 0 (satU 16 n * 2 ^ 16 + satU 16 x.1)).evt 0x40120000 7

/-! Coefficients (R159 to R164). -/

/-- The register of a shadowed word by its place 0 to 8, and back. -/
def shadowReg (place s : Nat) : Nat := bankKey (0x40120120 + 4 * place) s

/-- The active set with one word changed. -/
def Coef.put (c : Coef) (place : Nat) (w : Word) : Coef :=
  match place with
  | 0 => { c with kp := sW w }
  | 1 => { c with ki := sW w }
  | 2 => { c with kd := sW w }
  | 3 => { c with kf := sW w }
  | 4 => { c with outMin := sW w }
  | 5 => { c with outMax := sW w }
  | 6 => { c with iMin := sW w }
  | 7 => { c with iMax := sW w }
  | 8 => { c with deadband := bits w 31 16, dsh := bits w 3 0 }
  | _ => c

/-- The whole shadow set. -/
def shadowSet (io : Io) (s : Nat) : Coef := (List.range 9).foldl (fun c p => c.put p (io.reg (shadowReg p s))) Coef.init

/-- The changes that have become effective by time t (R159, R163). Assumption log: 48 (DEDUCED). -/
def Slot.settle (x : Slot) (t : Nat) : Slot :=
  let y := (x.pend.filter fun e => decide (e.1 ≤ t)).foldl (fun x e =>
    match e.2 with
    | .word p w => { x with act := x.act.put p w }
    | .all c none => { x with act := c }
    | .all c (some i) => { x with act := c, i := i }) x
  { y with pend := x.pend.filter fun e => decide (t < e.1) }

/-- R159, R162: a write of a shadowed word. -/
def shadowWrite (ok : Guard → Bool) (who : Who) (s place : Nat) (v : Word) (c : CtleSt) (io : Io) : CtleSt × Io :=
  match regDesc (0x40120120 + 4 * place) with
  | none => (c, io)
  | some d =>
    let io1 := io.writeAs d ok who (shadowReg place s) (0x40120120 + 4 * place) v
    if slotFrozen io s then (c, io1)
    else
      let x := slotOf c s
      (c.putSlot s { x with pend := x.pend ++ [(io.now + 40, .word place (io1.reg (shadowReg place s)))] }, io1)

/-- R163: the commit. -/
def freezeCommit (s : Nat) (c : CtleSt) (io : Io) : CtleSt × Io :=
  let x := slotOf c s
  let ver := (x.actVer + 1) % 65536
  (c.putSlot s { x with pend := x.pend ++ [(io.now + 40, .all (shadowSet io s) x.iSh)], iSh := none, actVer := ver },
   (q2Slot io 0x77 4 s 0 ver).evt 0x40120000 6)

/-- R162, R164: a 64-bit value is written to the integrator. -/
def integratorSet (who : Who) (s : Nat) (v : Int) (c : CtleSt) (io : Io) : CtleSt × Io :=
  let x := slotOf c s
  if !slotEn io s then (c.putSlot s { x with i := v, iSh := none }, io)
  else if slotFrozen io s then (c.putSlot s { x with iSh := some v }, io)
  else (c, io.access .ctle 0 4 who 0x4012015C (unS 32 v))

/-- What I_LO and I_HI show (R162). -/
def integratorSeen (io : Io) (c : CtleSt) (s : Nat) : Int :=
  let x := slotOf c s
  match x.iSh with
  | some v => if slotFrozen io s then v else (x.settle io.now).i
  | none => (x.settle io.now).i

/-- R14, R164: a write of I_LO waits for I_HI. -/
def integratorWrite (who : Who) (s : Nat) (hi : Bool) (v : Word) (c : CtleSt) (io : Io) : CtleSt × Io :=
  if hi then
    let lo := match Tbl.get io.stage none 0x40120158 with
      | some w => w.toNat
      | none => unS 32 (integratorSeen io c s)
    let io1 : Io := { io with stage := Tbl.set io.stage none 0x40120158 none }
    integratorSet who s (sxt 64 (v.toNat * 2 ^ 32 + lo)) c io1
  else if slotEn io s && !slotFrozen io s then (c, io.access .ctle 0 4 who 0x40120158 v.toNat)
  else (c, { io with stage := Tbl.set io.stage none 0x40120158 (some v) })

/-! Enabling and disabling. -/

/-- R143: a slot starts. Assumption log: 46 (DEDUCED). -/
def slotStart (s : Nat) (c : CtleSt) : CtleSt :=
  c.putSlot s { slotOf c s with dstate := 0, pvPrev := none, fault := false, held := none, invLim := false, sat := 0, sentWin := 0 }

/-- R134, R146, R151: EN has been written 1. Refused, it stays 0. -/
def slotEnable (who : Who) (v : Word) (s : Nat) (c : CtleSt) (io : Io) : CtleSt × Io :=
  let off := io.setFlag (Reg.CTLE.CTL s) 31 false
  let x := loads io (enabledSlots io)
  if !phaseOk io s || sinkHeld io s then (c, off.access .ctle 0 4 who 0x40120100 v.toNat)
  else if !admitted x then (c, schedRej off s x)
  else (slotStart s c, io)

/-- R137, R708: a slot has been disabled. An ALLOC limit keeps its last output; a generator takes its offset in. -/
def slotDisable (s : Nat) (c : CtleSt) (io : Io) : CtleSt :=
  if sinkKind io s = 8 then
    let g := sinkSel io s % 512
    c.putGen g { genOf c g with drop := true }
  else c

/-- A write of CTL: the fields, then FREEZE (R162, R163), then EN (R134, R143, R146, R151). -/
def ctlWrite (ok : Guard → Bool) (who : Who) (s : Nat) (v : Word) (c : CtleSt) (io : Io) : CtleSt × Io :=
  match regDesc 0x40120100 with
  | none => (c, io)
  | some d =>
    let io1 := io.writeAs d ok who (Reg.CTLE.CTL s) 0x40120100 v
    let r := if slotFrozen io s && !slotFrozen io1 s then freezeCommit s c io1
      else if !slotFrozen io s && slotFrozen io1 s then (c.putSlot s { slotOf c s with iSh := none }, io1)
      else (c, io1)
    if !slotEn io s && slotEn io1 s then slotEnable who v s r.1 r.2
    else if slotEn io s && !slotEn io1 s then (slotDisable s r.1 r.2, r.2)
    else r

/-! The evaluation (R138 to R142, R153 to R156). -/

/-- rnd of R139 applied to a quotient by 2^16: nearest, ties away from zero. -/
def rnd16 (a : Int) : Int := if 0 ≤ a then (2 * a + 65536) / 131072 else -((-2 * a + 65536) / 131072)

/-- R131: the setpoint. -/
def slotSp (c : CtleSt) (io : Io) (s : Nat) : Int :=
  let w := io.reg (Reg.CTLE.SP_SRC s)
  match bits w 31 28 with
  | 0 => sW (io.reg (Reg.CTLE.SP s))
  | 1 => sat32 ((genOf c (bits w 8 0)).x + (genOf c (bits w 8 0)).ofs)
  | 2 => (slotOf c (bits w 9 0)).out
  | _ => 0

/-- R130, R149: the measurement; kinds other than none and slot come from `ext`. -/
def slotPv (ext : Word → Meas) (c : CtleSt) (io : Io) (s : Nat) : Meas :=
  let w := io.reg (Reg.CTLE.PV_SRC s)
  match bits w 31 28 with
  | 0 => ⟨0, none, false⟩
  | 9 =>
    let o := slotOf c (bits w 9 0)
    ⟨o.out, some o.lastT, !o.done⟩
  | _ => ext w

/-- R153. -/
def Meas.old (m : Meas) (t staleMs : Nat) : Bool :=
  m.stale || match m.at_ with
    | some a => decide (a + staleMs * ms < t)
    | none => false

/-- A measurement's age, µs. -/
def Meas.ageUs (m : Meas) (t : Nat) : Nat :=
  match m.at_ with
  | some a => satU 32 ((t - a) / us)
  | none => 0xFFFFFFFF

/-- A load-switch channel takes a duty from its owner; a hold after a lost link ends there (R599, R621). -/
def engineDuty (io : Io) (ch d : Nat) : Io :=
  if ch < 24 then io.setReg (Reg.LSW.CH_DUTY ch) (w32 (d % 2 ^ 14)) else io

/-- A demand in 0.01 %. -/
def clampPct (u : Int) : Nat := (max 0 (min 10000 u)).toNat

/-- R173: the payload of SETPOINT. -/
def setpointBytes (s chan txMs fall flags t : Nat) (u : Int) : List Byte :=
  le 2 chan ++ le 2 s ++ leS 4 u ++ le 8 (t + max (4 * txMs) 5 * ms) ++ le 2 fall ++ le 2 flags

/-- R132, R136, R173: an output goes to the sink. -/
def ctlePublish (t s : Nat) (u : Int) (flags : Nat) (c : CtleSt) (io : Io) : CtleSt × Io :=
  let sel := sinkSel io s
  let x := { slotOf c s with out := u }
  let c1 := c.putSlot s x
  match sinkKind io s with
  | 3 => (c1, engineDuty io (sel % 32) (clampPct u))
  | 5 => (c1, io.setReg (Reg.ALLOC.SRC_IMP_LIM (sel % 64)) (wS (max 0 u)))
  | 6 => (c1, io.setReg (Reg.ALLOC.SRC_EXP_LIM (sel % 64)) (wS (max 0 u)))
  | 7 =>
    let tx := bitsN sel 11 8
    let win := t / (max tx 1 * ms) + 1
    if x.sentWin = win then (c1, io)
    else
      (c.putSlot s { x with sentWin := win },
       io.send 8 4 false (bitsN sel 27 12)
        (setpointBytes s (sel % 256) tx (io.fld (Reg.CTLE.STALE s) 31 26) flags t u))
  | 8 =>
    let g := sel % 512
    (c1.putGen g { genOf c g with ofs := u }, io)
  | _ => (c1, io)

/-- R156, row MISS_ALARM: the run of misses has reached 4 and has no record yet. -/
def missAlarm (s : Nat) (c : CtleSt) (io : Io) : CtleSt × Io :=
  let x := slotOf c s
  if 4 ≤ x.missRun ∧ !x.alarmed then
    (c.putSlot s { x with alarmed := true }, (q2Slot io 0x75 0xC s 0 (satU 32 x.missRun)).evt 0x40120000 4)
  else (c, io)

/-- R155: a due evaluation is skipped. -/
def evalMiss (s : Nat) (c : CtleSt) (io : Io) : CtleSt × Io :=
  let x := slotOf c s
  missAlarm s (c.putSlot s { x with missRun := x.missRun + 1 }) (io.count Reg.CTLE.MISS_CNT)

/-- R142, R177: a slot enters FAULT; cause 0 residue, 1 memory. Assumption log: 47 (DESIGN CHOICE). -/
def slotFault (s cause : Nat) (c : CtleSt) (io : Io) : CtleSt × Io :=
  let io1 := (q2Slot io 0x74 0xC s cause (io.reg (Reg.CTLE.SAFE s)).toNat).evt 0x40120000 2
  let io2 := if cause = 0 then io1.evt 0x40120000 3 else io1
  (c.putSlot s { slotOf c s with fault := true },
   io2.errRec .ctle 0 ⟨if cause = 0 then 4 else 3, 0, 0, 0, Reg.CTLE.CTL s % 0x10000000000, s, io.now⟩)

/-- R141: SAFE is published in place of an evaluation. -/
def publishSafe (t s : Nat) (c : CtleSt) (io : Io) : CtleSt × Io := ctlePublish t s (sW (io.reg (Reg.CTLE.SAFE s))) 2 c io

/-- A completed evaluation (EVAL_CNT, MISS_RUN). Assumption log: 42 (DEDUCED). -/
def Slot.complete (x : Slot) (t : Nat) : Slot :=
  { x with evalCnt := (x.evalCnt + 1) % 2 ^ 32, missRun := 0, alarmed := false, lastT := t, done := true }

/-- R154: the output is held. A held evaluation counts as completed (DEDUCED: SETPOINT carries HELD). Assumption log: 42 (DEDUCED). -/
def holdSlot (t s : Nat) (m : Meas) (c : CtleSt) (io : Io) : CtleSt × Io :=
  let x := slotOf c s
  let y := x.complete t
  match x.held with
  | some n => ctlePublish t s x.out 1 (c.putSlot s { y with held := some (n + 1) }) io
  | none => ctlePublish t s x.out 1 (c.putSlot s { y with held := some 1 })
      ((q2Slot io 0x72 8 s 0 (m.ageUs t)).evt 0x40120000 1)

/-- R154: the run of staleness ends. -/
def freshSlot (s : Nat) (c : CtleSt) (io : Io) : CtleSt × Io :=
  let x := slotOf c s
  match x.held with
  | some n => (c.putSlot s { x with held := none }, q2Slot io 0x73 4 s 0 (satU 32 n))
  | none => (c, io)

/-- R161: an inverted pair of limits. -/
def invSlot (t s : Nat) (c : CtleSt) (io : Io) : CtleSt × Io :=
  let x := slotOf c s
  let a := x.act
  let mid := 2 * b2n (decide (a.outMax < a.outMin)) + b2n (decide (a.iMax < a.iMin))
  let io1 := if x.invLim then io else (q2Slot io 0x76 8 s mid 0).evt 0x40120000 5
  ctlePublish t s x.out 0 (c.putSlot s { x.complete t with invLim := true }) io1

/-- The arithmetic of R138: the new slot, and u_sum. -/
def Slot.step (x : Slot) (sp pv : Int) : Slot × Int :=
  let a := x.act
  let e0 := sat32 (sp - pv)
  let e := if e0.natAbs ≤ a.deadband then 0 else e0
  let f := rnd16 (a.kf * sp)
  let p := rnd16 (a.kp * e)
  let dv : Int := match x.pvPrev with
    | some q => -(pv - q)
    | none => 0
  let dstate := x.dstate + (a.kd * dv - x.dstate) / ((2 ^ a.dsh : Nat) : Int)
  let d := rnd16 dstate
  let uPre := f + p + d + rnd16 x.i
  let hold := (decide (a.outMax ≤ uPre) && decide (0 < e)) || (decide (uPre ≤ a.outMin) && decide (e < 0))
  let i := if hold then x.i else max (a.iMin * 65536) (min (a.iMax * 65536) (x.i + a.ki * e))
  let u := f + p + d + rnd16 i
  ({ x with err := e, pv := pv, pvPrev := some pv, dstate := dstate, i := i, iHeld := hold, invLim := false,
            sat := if a.outMax < u then 1 else if u < a.outMin then 2 else 0 }, u)

/-- R183: SAT when a run of saturated evaluations begins, SAT_END when it ends. Assumption log: 43 (DEDUCED). -/
def satRecords (s was is : Nat) (uSum u : Int) (io : Io) : Io :=
  if !io.flag (Reg.CTLE.CTL s) 18 then io
  else if was = 0 ∧ is ≠ 0 then (q2Slot io 0x70 4 s (2 * b2n (is == 1)) (unS 32 (sat32 uSum))).evt 0x40120000 0
  else if was ≠ 0 ∧ is = 0 then q2Slot io 0x71 4 s 0 (unS 32 u)
  else io

/-- R138: the evaluation proper, on a fresh measurement and limits in order. -/
def evalFresh (t s : Nat) (pv : Int) (c : CtleSt) (io : Io) : CtleSt × Io :=
  let x := slotOf c s
  let r := x.step (slotSp c io s) pv
  let u := max x.act.outMin (min x.act.outMax r.2)
  ctlePublish t s u 0 (c.putSlot s (r.1.complete t)) (satRecords s x.sat r.1.sat r.2 u io)

/-- One due evaluation at time t (R138 to R142, R153 to R156, R161). -/
def evaluate (ext : Word → Meas) (ev : CtlEv) (t s : Nat) (c0 : CtleSt) (io : Io) : CtleSt × Io :=
  let c := c0.putSlot s ((slotOf c0 s).settle t)
  if ev.miss.contains s || !io.flag Reg.CTLE.CTRL 0 then evalMiss s c0 io
  else if (slotOf c s).fault then publishSafe t s c io
  else if ev.memSlot.contains s then
    let r := slotFault s 1 c io
    publishSafe t s r.1 r.2
  else if ev.residue.contains s then
    let r := slotFault s 0 c io
    publishSafe t s r.1 r.2
  else
    let m := slotPv ext c io s
    if m.old t (io.fld (Reg.CTLE.STALE s) 7 0) then holdSlot t s m c io
    else
      let r := freshSlot s c io
      let a := (slotOf r.1 s).act
      if a.outMax < a.outMin ∨ a.iMax < a.iMin then invSlot t s r.1 r.2 else evalFresh t s m.val r.1 r.2

/-- Evaluations one after another, ascending. -/
def evaluateAll (ext : Word → Meas) (ev : CtlEv) (t : Nat) (l : List Nat) (s : CtleSt × Io) : CtleSt × Io :=
  l.foldl (fun s k => evaluate ext ev t k s.1 s.2) s

/-- R147: step 4 of tick n. -/
def ctleTick (active : Bool) (ext : Word → Meas) (ev : CtlEv) (n : Nat) (c : CtleSt) (io : Io) : CtleSt × Io :=
  if active then
    evaluateAll ext ev (n * tickNs) (dueIn io ((enabledSlots io).filter (tickBound io)) n) ({ c with lastTick := n + 1 }, io)
  else (c, io)

/-- R155: the tick was abandoned before step 4. -/
def ctleTickMissed (active : Bool) (n : Nat) (c : CtleSt) (io : Io) : CtleSt × Io :=
  if active then
    (dueIn io ((enabledSlots io).filter (tickBound io)) n).foldl (fun s k => evalMiss k s.1 s.2) ({ c with lastTick := n + 1 }, io)
  else (c, io)

/-! Generators. -/

/-- The trajectory's limits. -/
def genLim (io : Io) (g : Nat) : Int × Int × Int :=
  ((io.reg (Reg.CTLE.VMAX g)).toNat, (io.reg (Reg.CTLE.AMAX g)).toNat, (io.reg (Reg.CTLE.JMAX g)).toNat)

/-- R165, R166, R169: a generator replans at time t. Assumption log: 40 (DEDUCED). -/
def Gen.replanAt (x : Gen) (t : Nat) (lim : Int × Int × Int) (goal : Int) : Gen :=
  let m := x.motion t
  let p := planTo lim.1 lim.2.1 lim.2.2 m (goal * fx1)
  { x with t0 := t, x0 := m.x, v0 := m.v, a0 := m.a, plan := p.1 ++ p.2, goal := goal, replan := false,
           ovr := overshoots lim.2.1 lim.2.2 (m.finish p.1) (goal * fx1), reduce := fxToNs (planLen p.1) }

/-- A generator stops where it is, v and a zero, at its published position. Assumption log: 41 (DEDUCED). -/
def Gen.halt (x : Gen) : Gen :=
  { x with x0 := x.x * fx1, v0 := 0, a0 := 0, plan := [], replan := false, ovr := false, reduce := 0 }

/-- R708 at a frame start for a generator whose plan may be at rest: the shifted motion. -/
def Gen.shift (x : Gen) (t : Nat) : Gen :=
  let m := x.motion t
  { x with t0 := t, x0 := m.x + x.ofs * fx1, v0 := m.v, a0 := m.a, plan := [], ofs := 0, drop := false, replan := true }

/-- R165, R177: one generator's step at the frame start t. Assumption log: 40 (DEDUCED), 47 (DESIGN CHOICE). -/
def genStep (ev : CtlEv) (t g : Nat) (c : CtleSt) (io : Io) : CtleSt × Io :=
  let x := genOf c g
  if ev.memGen.contains g then
    (c.putGen g x.halt,
     ((q2GenLimit ((io.setFlag (Reg.CTLE.GCTL g) 31 false).setReg (Reg.CTLE.X g) (wS x.x)) g x.x).errRec .ctle 0
       ⟨3, 0, 0, 0, Reg.CTLE.GCTL g % 0x10000000000, g, io.now⟩))
  else
    let y := if x.drop then x.shift t else x
    let z := if y.replan then y.replanAt t (genLim io g) (sW (io.reg (Reg.CTLE.TARGET g))) else y
    let m := z.motion t
    if z.arrival ≤ t ∨ z.plan = [] then (c.putGen g { z with x := fxRound m.x }, io)
    else
      let f := io.fresh
      (c.putGen g { z with x := publishX m (Config.freeInt f.1) }, f.2)

/-- Row CTLE_FRAME: the frame that site time is in, once (R148, R165). -/
def ctleFrame (active : Bool) (ext : Word → Meas) (ev : CtlEv) (c : CtleSt) (io : Io) : CtleSt × Io :=
  let f := io.now / 50000
  if active && decide (c.lastFrame ≤ f) then
    let t := f * 50000
    let r := if io.flag Reg.CTLE.CTRL 8 then
        (enabledGens io).foldl (fun s g => genStep ev t g s.1 s.2) ({ c with lastFrame := f + 1 }, io)
      else ({ c with lastFrame := f + 1 }, io)
    evaluateAll ext ev t (dueIn io ((enabledSlots io).filter fun s => !tickBound io s) f) r
  else (c, io)

/-- R171: GCTL is written. A disabled generator keeps its position. Assumption log: 41 (DEDUCED). -/
def genEnable (ok : Guard → Bool) (who : Who) (g : Nat) (v : Word) (c : CtleSt) (io : Io) : CtleSt × Io :=
  match regDesc 0x40120200 with
  | none => (c, io)
  | some d =>
    let io1 := io.writeAs d ok who (Reg.CTLE.GCTL g) 0x40120200 v
    let x := genOf c g
    if !genEn io g && genEn io1 g then
      let p := sW (io.reg (Reg.CTLE.X g))
      (c.putGen g { x with x0 := p * fx1, v0 := 0, a0 := 0, plan := [], goal := p, x := p, replan := true, ovr := false, reduce := 0 }, io1)
    else if genEn io g && !genEn io1 g then (c.putGen g x.halt, io1.setReg (Reg.CTLE.X g) (wS x.x))
    else (c, io1)

/-- R172: ALLOC owns the TARGET of a BUFFER or GEN source's generator. -/
def allocOwns (m : Tbl Byte) (g : Nat) : Bool :=
  decide (256 ≤ g) && decide (g - 256 < nSrc m) && srcKind m (g - 256) != 0

/-- R166, R167, R172: software writes TARGET. -/
def genTarget (m : Tbl Byte) (who : Who) (g : Nat) (v : Word) (c : CtleSt) (io : Io) : CtleSt × Io :=
  if allocOwns m g then (c, io.access .ctle 0 4 who 0x40120204 v.toNat)
  else (c.putGen g { genOf c g with replan := (genOf c g).replan || genEn io g }, io.setReg (Reg.CTLE.TARGET g) v)

/-- R172: ALLOC writes the committed power of each BUFFER and GEN source. -/
def allocTargets (m : Tbl Byte) (ps : Tbl Int) (c : CtleSt) (io : Io) : CtleSt × Io :=
  ((List.range (nSrc m)).filter fun s => srcKind m s != 0).foldl (fun r s =>
    let g := 256 + s
    let v := wS (sat32 (Tbl.get ps 0 s))
    if r.2.reg (Reg.CTLE.TARGET g) = v then r
    else (r.1.putGen g { genOf r.1 g with replan := (genOf r.1 g).replan || genEn r.2 g }, r.2.setReg (Reg.CTLE.TARGET g) v)) (c, io)

/-- R166, R169: a write of VMAX, AMAX or JMAX (which 0, 1, 2). Assumption log: 40 (DEDUCED). -/
def genLimit (ok : Guard → Bool) (who : Who) (g which : Nat) (v : Word) (c : CtleSt) (io : Io) : CtleSt × Io :=
  let a := 0x40120208 + 4 * which
  match regDesc a with
  | none => (c, io)
  | some d =>
    let io1 := io.writeAs d ok who (bankKey a g) a v
    let x := genOf c g
    let m := x.motion io.now
    let below := genEn io g && decide (v ≠ 0)
      && ((which == 0 && decide ((v.toNat : Int) * fx1 < (m.v.natAbs : Int)))
        || (which == 1 && decide ((v.toNat : Int) * fx1 < (m.a.natAbs : Int))))
    (c.putGen g { x with replan := x.replan || (genEn io g && decide (v ≠ 0)) }, if below then q2GenLimit io1 g x.x else io1)

/-- CTRL.GEN_EN is written: to 0, every generator stops at its present position; to 1, each replans. Assumption log: 41 (DEDUCED). -/
def genGate (old new : Word) (c : CtleSt) (io : Io) : CtleSt :=
  if bit old 8 && !bit new 8 then (enabledGens io).foldl (fun c g => c.putGen g (genOf c g).halt) c
  else if !bit old 8 && bit new 8 then
    (enabledGens io).foldl (fun c g => c.putGen g { genOf c g with replan := true }) c
  else c

/-! What the windows show. -/

/-- SLOT_STAT of a slot. -/
def Slot.statWord (x : Slot) : Word :=
  w32 (satU 8 x.missRun * 65536 + b2n x.invLim * 64 + b2n x.fault * 32 + b2n x.held.isSome * 16 + b2n x.iHeld * 8
    + b2n (x.sat == 2) * 4 + b2n (x.sat == 1) * 2)

/-- The computed words of a slot's window, by offset. -/
def slotView (c : CtleSt) (io : Io) (s o : Nat) : Option Word :=
  let x := slotOf c s
  match o with
  | 0x100 => some (setBits (io.reg (Reg.CTLE.CTL s)) 29 29 (b2n (tickBound io s)))
  | 0x150 => some (wS x.out)
  | 0x154 => some (wS x.err)
  | 0x158 => some (w32 (unS 64 (integratorSeen io c s)))
  | 0x15C => some (w32 (unS 64 (integratorSeen io c s) / 2 ^ 32))
  | 0x160 => some (wS (sat32 x.dstate))
  | 0x164 => some (wS x.pv)
  | 0x168 => some x.statWord
  | 0x16C => some (w32 x.evalCnt)
  | 0x170 => some (w32 x.lastT)
  | 0x174 => some (w32 (x.lastT / 2 ^ 32))
  | 0x178 => some (w32 x.actVer)
  | _ => none

/-- GSTAT. -/
def genStat (x : Gen) (io : Io) (g : Nat) : Word :=
  let moving := genEn io g && (x.replan || (decide (x.plan ≠ []) && decide (io.now < x.arrival)))
  let pos := if genEn io g then x.x else sW (io.reg (Reg.CTLE.X g))
  let there := !moving && pos == sW (io.reg (Reg.CTLE.TARGET g))
  w32 (b2n (moving && decide (io.now < x.t0 + x.reduce)) * 8 + b2n (moving && x.ovr) * 4 + b2n moving * 2 + b2n there)

/-- The computed words of a generator's window, by offset. V and A are sampled at the last frame start. -/
def genView (c : CtleSt) (io : Io) (g o : Nat) : Option Word :=
  let x := genOf c g
  let m := x.motion ((c.lastFrame - 1) * 50000)
  match o with
  | 0x214 => if genEn io g then some (wS x.x) else none
  | 0x218 => some (wS (fxRound m.v))
  | 0x21C => some (wS (fxRound m.a))
  | 0x220 => some (genStat x io g)
  | 0x224 => some (w32 (if x.plan = [] then 0 else x.arrival))
  | 0x228 => some (w32 (if x.plan = [] then 0 else x.arrival / 2 ^ 32))
  | 0x22C => some (wS x.ofs)
  | _ => none

/-- What CTLE's registers show. -/
def ctleView (active : Bool) (c : CtleSt) (io : Io) (k : Nat) : Option Word :=
  let a := k % 0x10000000000
  let w := k / 0x10000000000 - 1
  if 0x10000000000 ≤ k then
    (if 0x40120100 ≤ a ∧ a < 0x40120180 then slotView c io w (a - 0x40120000)
     else if 0x40120200 ≤ a ∧ a < 0x40120240 then genView c io w (a - 0x40120000) else none)
  else if a = Reg.CTLE.STAT then
    some (w32 ((c.slot.filter fun e => e.2.fault).length * 65536 + b2n (!active) * 2 + (io.reg a).toNat % 2))
  else if a = Reg.CTLE.LOAD then
    let x := loads io (enabledSlots io)
    some (w32 (x.2.1 * 2 ^ 22 + x.2.2 * 2 ^ 12 + x.1))
  else if 0x40120300 ≤ a ∧ a < 0x40120380 then
    some (w32 (((c.slot.filter fun e => e.2.fault && decide (e.1 / 32 = (a - 0x40120300) / 4)).map fun e => 2 ^ (e.1 % 32)).foldl (· + ·) 0))
  else none

/-! Loop outputs toward ALLOC (R39, R40, R133). -/

/-- The slots that bound a dispenser. -/
def loopSlots (io : Io) (d : Nat) : List Nat :=
  (enabledSlots io).filter fun s => (sinkKind io s == 1 || sinkKind io s == 2) && sinkSel io s % 256 == d

/-- A slot's output in watts at a voltage in mV (R45), and its current bound where it is a current. -/
def loopBound (c : CtleSt) (io : Io) (v s : Nat) : Int × Option Int :=
  let u := (slotOf c s).out
  if sinkKind io s = 1 then (tdiv (u * v) 1000000, some u) else (u, none)

/-- R39: four evaluations missed. -/
def loopStale (c : CtleSt) (io : Io) (d : Nat) : Bool := (loopSlots io d).any fun s => decide (4 ≤ (slotOf c s).missRun)

/-! SETPOINT receivers (R174 to R176). -/

/-- R174, R175: an accepted message gives its channel a value. -/
def setpointApply (node : Nat) (p : List Byte) (c : CtleSt) : CtleSt :=
  { c with rx := Tbl.set c.rx SetpRx.init (node * 65536 + u16 p 0) ⟨s32 p 4, u64 p 8, u16 p 16, none⟩ }

/-- R176: VALID_UNTIL has passed at the receiver. -/
def setpointExpiry (node ch hnow : Nat) (c : CtleSt) : CtleSt :=
  let k := node * 65536 + ch
  let x := Tbl.get c.rx SetpRx.init k
  match x.zeroAt with
  | some _ => c
  | none => if x.until_ ≤ hnow then
      { c with rx := Tbl.set c.rx SetpRx.init k { x with zeroAt := some (x.until_ + x.fall * ms) } } else c

end Sys2Proof.Machine
end

