-- ==== Sys2Proof/Machine/Thrm.lean ====
section
/-! DEFINITION. Sys2Proof/Machine/Thrm.lean: cable and connector observers, credit, coolant circuits (chapter 05). The
words of an observer's record and of a circuit are kept in the register file, one bank per observer or circuit. -/
namespace Sys2Proof.Machine

/-- Q3 as THRM writes it (R215, R217). -/
def q3 : Io.QDst := ⟨3, 3, Reg.THRM.Q3_DROP, 0x40130000, 9⟩

/-- R215, R216: a Q3 record about observer o. -/
def q3Obs (io : Io) (ty prio o mid low : Nat) : Io := io.rec1 q3 35 prio (ty * 2 ^ 48 + o % 512 * 2 ^ 39 + mid + low)

def obsOf (h : ThrmSt) (o : Nat) : Obs := Tbl.get h.obs Obs.init o
def circOf (h : ThrmSt) (k : Nat) : Circ := Tbl.get h.circ Circ.init k
def ThrmSt.putObs (h : ThrmSt) (o : Nat) (x : Obs) : ThrmSt := { h with obs := Tbl.set h.obs Obs.init o x }
def ThrmSt.putCirc (h : ThrmSt) (k : Nat) (x : Circ) : ThrmSt := { h with circ := Tbl.set h.circ Circ.init k x }

/-! The image words of an observer (R187), by offset. -/

def obsWord (io : Io) (o x : Nat) : Word := io.reg (bankKey (0x40130100 + x) o)
def obsU (io : Io) (o x : Nat) : Nat := (obsWord io o x).toNat
def obsS (io : Io) (o x : Nat) : Int := sW (obsWord io o x)
def obsEn (io : Io) (o : Nat) : Bool := bit (obsWord io o 0) 31
def credSel (io : Io) (o : Nat) : Nat := bits (obsWord io o 0) 29 28
def measSel (io : Io) (o : Nat) : Nat := bits (obsWord io o 0) 27 26
def obsCirc (io : Io) (o : Nat) : Nat := bits (obsWord io o 0) 21 16
def tLim (io : Io) (o : Nat) : Int := sxt 16 (bits (obsWord io o 0x4C) 31 16)
def tMargin (io : Io) (o : Nat) : Nat := bits (obsWord io o 0x4C) 15 0
def tTrip (io : Io) (o : Nat) : Int := sxt 16 (bits (obsWord io o 0x50) 31 16)
def fCred (io : Io) (o : Nat) : Nat := obsU io o 0x60

/-- The word of an input's point (R187): inlet 1, outlet 2, flow 3, ambient 4, direct 5. -/
def inWord (io : Io) (o i : Nat) : Word := obsWord io o (4 * i)
def inUse (io : Io) (o i : Nat) : Bool := bit (inWord io o i) 31

/-- The enabled observers, ascending. -/
def enabledObs (io : Io) : List Nat :=
  io.regs.filterMap fun e =>
    if e.1 % 0x10000000000 = 0x40130100 ∧ 0x10000000000 ≤ e.1 ∧ bit e.2 31 then some (e.1 / 0x10000000000 - 1) else none

/-- The enabled circuits, ascending. -/
def enabledCircs (io : Io) : List Nat :=
  io.regs.filterMap fun e =>
    if e.1 % 0x10000000000 = 0x40130200 ∧ 0x10000000000 ≤ e.1 ∧ bit e.2 31 then some (e.1 / 0x10000000000 - 1) else none

/-- T_AMB_WORST. -/
def ambWorst (io : Io) : Int := sxt 16 (io.fld Reg.THRM.PLAUS2 31 16)

/-- The fallback credit, mA (R195). -/
def fallbackCred (io : Io) (o : Nat) : Nat := obsU io o 0x58 * obsU io o 0x5C / 65536 / 1000 * 1000

/-- What the current input offers: magnitude of the reported current, whether it is fresh, the magnitude of I_CEIL_MA in
force. -/
structure CurIn where
  mA : Int
  fresh : Bool
  ceil : Int
  deriving DecidableEq, Repr

def inOf (x : Obs) (i : Nat) : ObsIn := Tbl.get x.ins ObsIn.init i
def Obs.putIn (x : Obs) (i : Nat) (n : ObsIn) : Obs := { x with ins := Tbl.set x.ins ObsIn.init i n }
def Obs.isLost (x : Obs) (i : Nat) : Bool := (inOf x i).lost.isSome

/-- R196: an input at a step at time t. `cond`: the condition that holds now, if any; `v`: its value. Assumption log: 52 (DEDUCED). -/
def trackInput (t o i : Nat) (cond : Option Nat) (v : Int) (x : Obs) (io : Io) : Obs × Io :=
  let n := inOf x i
  match cond, n.lost with
  | some _, some _ => (x.putIn i { n with good := none }, io)
  | some c, none => (x.putIn i { n with lost := some c, good := none },
      (q3Obs io 0x80 8 o (i * 2 ^ 36 + c * 2 ^ 32) (unS 32 (n.last.getD 0))).evt 0x40130000 0)
  | none, none => (x.putIn i { n with last := some v }, io)
  | none, some _ =>
    let since := n.good.getD t
    if i = 0 ∨ since + sec ≤ t then (x.putIn i ⟨none, none, some v⟩, q3Obs io 0x81 4 o (i * 2 ^ 36) (unS 32 v))
    else (x.putIn i { n with good := some since }, io)

/-- The conditions of R196 on a point input other than inversion and residual. Assumption log: 52 (DEDUCED). -/
def pointCond (io : Io) (t i : Nat) (p : Option PtIn) : Option Nat :=
  match p with
  | none => some 0
  | some q =>
    let limit := 250 * (1 + io.fld Reg.THRM.PLAUS1 15 12) * ms
    if q.time + limit < t ∨ q.stale then some 0
    else if q.bad then some 1
    else if i = 3 then (if ((io.fld Reg.THRM.PLAUS1 23 16 * 1000 : Nat) : Int) < q.val then some 2 else none)
    else if q.val < sxt 16 (io.fld Reg.THRM.PLAUS0 15 0) ∨ sxt 16 (io.fld Reg.THRM.PLAUS0 31 16) < q.val then some 2
    else none

def ptVal (p : Option PtIn) : Int :=
  match p with
  | some q => q.val
  | none => 0

/-- How long a condition has held in a row. Assumption log: 53 (DEDUCED). -/
def runSince (t : Nat) (holds : Bool) (since : Option Nat) : Option Nat := if holds then some (since.getD t) else none

/-- A condition that has held in a row for `len`. Assumption log: 53 (DEDUCED). -/
def heldFor (t len : Nat) (since : Option Nat) : Bool :=
  match since with
  | some s => decide (s + len ≤ t)
  | none => false

/-- The inversion condition of R196 at this instant. -/
def inverted (io : Io) (o : Nat) (cur : Int) (tin tout : Option PtIn) : Bool :=
  inUse io o 1 && inUse io o 2 && tin.isSome && tout.isSome
    && decide (ptVal tout + io.fld Reg.THRM.PLAUS1 31 24 < ptVal tin) && decide ((obsU io o 0x58 : Int) < 4 * cur)

/-- R191: what a temperature or flow input supplies. -/
def supplied (io : Io) (o i : Nat) (p : Option PtIn) (x : Obs) : Int :=
  let dflt : Int := if i = 3 then 0 else ambWorst io
  if !inUse io o i then dflt
  else if x.isLost i then (if i = 4 then ambWorst io else (inOf x i).last.getD dflt)
  else ptVal p

/-- The correcting measurement of R190: its input code. -/
def measInput (io : Io) (o : Nat) : Option Nat :=
  match measSel io o with
  | 1 => some 2
  | 2 => some 5
  | _ => none

/-- R191, R196: the inputs of a step, residual apart: the observer, and the current used. Assumption log: 52 (DEDUCED). -/
def judge (t o : Nat) (cur : CurIn) (pt : Nat → Option PtIn) (x : Obs) (io : Io) : (Obs × Io) × Int :=
  let r0 := trackInput t o 0 (if cur.fresh then none else some 0) cur.mA x io
  let i := if r0.1.isLost 0 then cur.ceil else cur.mA
  let inv := inverted io o i (pt 1) (pt 2)
  let since := runSince t inv x.invSince
  let cond := fun k : Nat =>
    match pointCond io t k (pt k) with
    | some c => some c
    | none => if k = 2 ∧ inv ∧ heldFor t (2 * sec) since then some 3 else none
  let r1 := [1, 2, 3, 4, 5].foldl (fun (s : Obs × Io) (k : Nat) =>
    if inUse io o k then
      (if measInput io o == some k && (cond k).isNone && (inOf s.1 k).lost == some 4 then s
       else trackInput t o k (cond k) (ptVal (pt k)) s.1 s.2)
    else s) ({ r0.1 with invSince := since, iUsed := i }, r0.2)
  (r1, i)

/-- The network of R190: exact arithmetic, each new temperature and r rounded to nearest. `i` mA, `f` mL/min, `tin` and
`tamb` 0.01 °C. Assumption log: 50 (DEDUCED). -/
def network (io : Io) (o : Nat) (i f tin tamb : Int) (x : Obs) : Obs :=
  let w := obsS io o
  let r21 : Int := obsU io o 0x3C
  let r := max (rdiv (r21 * (4294967296 + w 0x40 * (x.t1 - 1310720))) 4294967296) (rdiv r21 2)
  let q12 := (w 0x24 * 1000 + w 0x28 * f) * (x.t1 - x.t2)
  let q13 := w 0x2C * (x.t1 - x.t3)
  let q23 := w 0x30 * (x.t2 - x.t3)
  let q3a := w 0x34 * (100 * x.t3 - 65536 * tamb)
  let qad := w 0x38 * f * (100 * x.t2 - 65536 * tin)
  { x with
    t1 := x.t1 + rdiv (i * i * r * 4294967296 - q12 * 1000000000000 - q13 * 1000000000000000) (1000000000000000000 * obsU io o 0x18)
    t2 := x.t2 + rdiv (q12 * 100 - q23 * 100000 - qad) (100000000 * obsU io o 0x1C)
    t3 := x.t3 + rdiv (q13 * 100 + q23 * 100 - q3a) (100000 * obsU io o 0x20)
    rNow := r, fUsed := f }

/-- R190, R196, R198: the residual, its check and the correction. Assumption log: 50 (DEDUCED). -/
def correct (t o : Nat) (tin : Int) (pt : Nat → Option PtIn) (x : Obs) (io : Io) : Obs × Io :=
  match measInput io o with
  | none => (x, io)
  | some k =>
    let usable := inUse io o k && (!x.isLost k || (inOf x k).lost == some 4) && (pointCond io t k (pt k)).isNone
    if usable then
      let m := ptVal (pt k)
      let e := if k = 2 then rdiv (65536 * m - (200 * x.t2 - 65536 * tin)) 100 else rdiv (65536 * m - 100 * x.t2) 100
      let ovr := decide (io.fld Reg.THRM.PLAUS2 15 8 * 65536 < e.natAbs)
      let since := runSince t ovr x.resSince
      let cond : Option Nat := if ovr ∧ heldFor t (io.fld Reg.THRM.PLAUS2 7 0 * 10 * ms) since then some 4
        else if ovr ∧ x.isLost k then some 4 else none
      let y := { x with resid := e, resSince := since }
      let r := if cond.isSome || y.isLost k then trackInput t o k cond m y io else (y, io)
      if r.1.isLost k then r
      else
        ({ r.1 with t1 := r.1.t1 + max 0 (rdiv (obsS io o 0x44 * e) 65536), t2 := r.1.t2 + rdiv (obsS io o 0x48 * e) 65536 }, r.2)
    else ({ x with resSince := none }, io)

/-- R_CRED, nΩ (R194). -/
def rCred (io : Io) (o : Nat) : Int :=
  rdiv ((obsU io o 0x3C : Int) * (6553600 + obsS io o 0x40 * (tLim io o - 2000))) 6553600

/-- The credit of one horizon before its limits, whole A; `b` the offset of its block. -/
def horizon (io : Io) (o b : Nat) (tin tamb : Int) (x : Obs) : Nat :=
  let w := obsS io o
  let head := (tLim io o - tMargin io o) * 4294967296
    - 100 * (w b * x.t1 + w (b + 4) * x.t2 + w (b + 8) * x.t3) - 65536 * (w (b + 12) * tin + w (b + 16) * tamb)
  if head ≤ 0 then 0
  else isqrt (head.toNat * 1000000000000000000 / (429496729600 * obsU io o (b + 20) * (rCred io o).toNat))

/-- R194. -/
def credits (io : Io) (o : Nat) (tin tamb : Int) (x : Obs) : Obs :=
  let c1 := min (horizon io o 0x64 tin tamb x) (obsU io o 0x54 / 1000)
  let c2 := min (horizon io o 0x7C tin tamb x) c1
  let c3 := min (horizon io o 0x94 tin tamb x) c2
  { x with cred1 := c1 * 1000, cred10 := c2 * 1000, cred60 := c3 * 1000 }

/-- R195. Assumption log: 55 (DEDUCED). -/
def fallbackCredits (io : Io) (o : Nat) (x : Obs) : Obs :=
  let f := fallbackCred io o
  { x with cred1 := f, cred10 := f, cred60 := f }

/-- The published hot spot, 0.01 °C. -/
def Obs.hot (x : Obs) : Int := max (-32768) (min 32767 (rdiv (x.t1 * 100) 65536))

/-- A hot spot at or above T_LIM - T_MARGIN. -/
def hotHigh (io : Io) (o : Nat) (x : Obs) : Bool := decide ((tLim io o - tMargin io o) * 65536 ≤ x.t1 * 100)

/-- R211: the trip flags of a step; R215: HS_HIGH once per run. -/
def flagsStep (io : Io) (o : Nat) (pt : Nat → Option PtIn) (x : Obs) : Obs × Io :=
  let run := if tTrip io o * 65536 ≤ x.t1 * 100 then x.tripRun + 1 else 0
  let est := decide (bits (obsWord io o 0x50) 15 0 ≤ run) && decide (0 < run)
  let meas := inUse io o 5 && !x.isLost 5 && decide (tTrip io o ≤ ptVal (pt 5))
  let io1 := if (est && !x.tripEst) || (meas && !x.tripMeas) then io.evt 0x40130000 5 else io
  let high := hotHigh io o x
  let io2 := if high && !x.high then (q3Obs io1 0x85 0xC o 0 (unS 16 x.hot)).evt 0x40130000 4 else io1
  ({ x with tripRun := run, tripEst := est, tripMeas := meas, high := high }, io2)

/-- R197: an observer enters FALLBACK. -/
def toFallback (o : Nat) (x : Obs) (io : Io) : Obs × Io :=
  ({ x with st := .fallback }, (q3Obs io 0x82 0xC o 0 (fallbackCred io o)).evt 0x40130000 1)

/-- An input other than ambient is lost, or flow is low (R197). -/
def Obs.bad (x : Obs) : Bool := x.low || [0, 1, 2, 3, 5].any x.isLost

/-- R193, row OBSERVER_FAULT: three failed steps in a row. -/
def observerFault (o : Nat) (h : ThrmSt) (io : Io) : ThrmSt × Io :=
  let x := obsOf h o
  if 3 ≤ x.resFail ∧ x.st ≠ .fault then
    (h.putObs o (fallbackCredits io o { x with st := .fault }),
     (q3Obs io 0x86 0xC o 0 (io.reg Reg.THRM.RESIDUE_CNT).toNat).evt 0x40130000 6)
  else (h, io)

/-- R192: a step fails its residue check. -/
def failedStep (o : Nat) (h : ThrmSt) (io : Io) : ThrmSt × Io :=
  let x := obsOf h o
  let io1 := ((io.count Reg.THRM.RESIDUE_CNT).evt 0x40130000 7).errRec .thrm 0 ⟨4, 0, 0, 0, 0x40130100, o, io.now⟩
  observerFault o (h.putObs o (fallbackCredits io o { x with resFail := x.resFail + 1 })) io1

/-- The inputs a credit uses: inlet and ambient. -/
def tinOf (io : Io) (o : Nat) (pt : Nat → Option PtIn) (x : Obs) : Int := supplied io o 1 (pt 1) x
def tambOf (io : Io) (o : Nat) (pt : Nat → Option PtIn) (x : Obs) : Int := supplied io o 4 (pt 4) x

/-- R197, row RECOVER_EXPIRY: the timer of RECOVERING has expired. -/
def recoverExpiry (o : Nat) (pt : Nat → Option PtIn) (h : ThrmSt) (io : Io) : ThrmSt × Io :=
  let x := obsOf h o
  if x.st = .recovering ∧ x.timer ≤ io.now then
    let y := credits io o (tinOf io o pt x) (tambOf io o pt x) { x with st := .normal }
    (h.putObs o y, (q3Obs io 0x83 4 o 0 y.cred1).evt 0x40130000 2)
  else (h, io)

/-- R199, R200: the first step after a reset. Assumption log: 51 (DEDUCED). -/
def firstStep (t o : Nat) (pt : Nat → Option PtIn) (x : Obs) (io : Io) : Obs × Io :=
  let l := [1, 2, 5].filterMap fun i => if inUse io o i && !x.isLost i then some (ptVal (pt i)) else none
  let y := { x with started := true }
  match l with
  | v :: r =>
    let q := rdiv ((r.foldl max v) * 65536) 100
    (fallbackCredits io o { y with t1 := q, t2 := q, t3 := q, st := .recovering,
                                   timer := t + io.fld Reg.THRM.PLAUS1 7 0 * sec }, io)
  | [] =>
    let q := rdiv ((tLim io o - tMargin io o) * 65536) 100
    let r := toFallback o { y with t1 := q, t2 := q, t3 := q } io
    (fallbackCredits io o r.1, r.2)

/-- LOW_FLOW (R196, R215): flow below F_CRED, once per run. -/
def lowFlow (o : Nat) (f : Int) (x : Obs) (io : Io) : Obs × Io :=
  let low := inUse io o 3 && !x.isLost 3 && decide (f < fCred io o)
  let io1 := if low && !x.low then (q3Obs io 0x84 8 o 0 (unS 32 f)).evt 0x40130000 3 else io
  ({ x with low := low }, io1)

/-- R197: the state of an observer after its inputs have been judged. -/
def obsState (t o : Nat) (x : Obs) (io : Io) : Obs × Io :=
  match x.st with
  | .normal => if x.bad then toFallback o x io else (x, io)
  | .recovering => if x.bad then toFallback o x io else (x, io)
  | .fallback =>
    if !x.bad && !x.isLost 4 then
      ({ x with st := .recovering, timer := t + 1000 * (1 + io.fld Reg.THRM.PLAUS1 11 8) * ms }, io)
    else (x, io)
  | .fault => (x, io)

/-- One step of an observer at time t (R190 to R200, R211). Assumption log: 51 (DEDUCED), 55 (DEDUCED). -/
def obsStep (t o : Nat) (cur : CurIn) (pt : Nat → Option PtIn) (h : ThrmSt) (io : Io) : ThrmSt × Io :=
  let x0 := { obsOf h o with resFail := 0 }
  let j := judge t o cur pt x0 io
  let x1 := j.1.1
  if x1.st = .fault then
    let r := flagsStep j.1.2 o pt (fallbackCredits io o x1)
    (h.putObs o r.1, r.2)
  else if !x1.started then
    let a := firstStep t o pt x1 j.1.2
    let r := flagsStep a.2 o pt a.1
    (h.putObs o r.1, r.2)
  else
    let fIn := supplied io o 3 (pt 3) x1
    let a := lowFlow o fIn x1 j.1.2
    let tin := tinOf io o pt x1
    let tamb := tambOf io o pt x1
    let b := correct t o tin pt (network io o j.2 (min fIn (4 * fCred io o)) tin tamb a.1) a.2
    let c := obsState t o b.1 b.2
    let d := recoverExpiry o pt (h.putObs o c.1) c.2
    let y := obsOf d.1 o
    let z := if y.st = .normal then credits io o tin tamb y else fallbackCredits io o y
    let r := flagsStep d.2 o pt z
    (d.1.putObs o r.1, r.2)

/-! Coolant circuits (R203 to R207). -/

/-- The demand of the slot that sinks to a circuit's actuator, 0 where none does (R132, R203). -/
def slotDemand (c : CtleSt) (io : Io) (k : Nat) (valve : Bool) : Nat :=
  match (enabledSlots io).find? fun s =>
      sinkKind io s == 4 && sinkSel io s % 64 == k && bitsN (sinkSel io s) 8 8 == b2n valve with
  | some s => clampPct (slotOf c s).out
  | none => 0

/-- R207: a COOL_CMD goes to the circuit's node. -/
def coolCmd (k : Nat) (h : ThrmSt) (io : Io) : Io :=
  let x := circOf h k
  let n := io.reg (Reg.THRM.CNODE k)
  let l := io.reg (Reg.THRM.LOSS k)
  io.send 6 0 x.forced (bits n 31 16)
    (le 2 (bits n 7 0) ++ le 2 x.pump ++ le 2 x.valve ++ le 2 (b2n x.forced + 2 * b2n x.active + 4 * b2n x.runon)
      ++ le 8 (io.now + 4 * bits n 15 8 * ms) ++ le 2 (bits l 31 16) ++ le 2 (bits l 15 0) ++ zeros 4)

/-- An actuator of the circuit goes by COOL_CMD. -/
def coolRouted (io : Io) (k : Nat) : Bool :=
  io.fld (Reg.THRM.CCTL k) 30 29 == 2 || io.fld (Reg.THRM.CCTL k) 28 27 == 2

/-- R205: demands reach load-switch channels when they change. -/
def deliverLsw (k : Nat) (was is : Circ) (io : Io) : Io :=
  let w := io.reg (Reg.THRM.CCTL k)
  let io1 := if bits w 30 29 = 1 ∧ was.pump ≠ is.pump then engineDuty io (bits w 20 16) (min is.pump 10000) else io
  if bits w 28 27 = 1 ∧ was.valve ≠ is.valve then engineDuty io1 (bits w 12 8) (min is.valve 10000) else io1

/-- The COOL_MS window a time is in, plus one. -/
def coolWin (io : Io) (k : Nat) : Nat := io.now / (max (io.fld (Reg.THRM.CNODE k) 15 8) 1 * ms) + 1

/-- R203: a circuit's demands for its present flags. -/
def demands (c : CtleSt) (io : Io) (k : Nat) (x : Circ) : Circ :=
  let sp := slotDemand c io k false
  let sv := slotDemand c io k true
  if x.forced then { x with pump := io.fld (Reg.THRM.PUMP_LIM k) 15 0, valve := io.fld (Reg.THRM.VALVE_LIM k) 15 0 }
  else if x.active then
    { x with pump := max sp (io.fld (Reg.THRM.PUMP_LIM k) 31 16), valve := max sv (io.fld (Reg.THRM.VALVE_LIM k) 31 16) }
  else { x with pump := sp, valve := sv }

/-- R203: one circuit at a step at time t. Assumption log: 54 (DEDUCED). -/
def circStep (c : CtleSt) (t k : Nat) (h : ThrmSt) (io : Io) : ThrmSt × Io :=
  let x := circOf h k
  let bound := (enabledObs io).filter fun o => obsCirc io o == k
  let forced := bound.any fun o => (obsOf h o).st != .normal || (obsOf h o).high
  let direct := bound.any fun o =>
    decide (((io.reg (Reg.THRM.I_COOL_ON k)).toNat : Int) < (obsOf h o).iUsed)
      || decide (sxt 16 (io.fld (Reg.THRM.ON k) 31 16) * 65536 < (obsOf h o).t1 * 100)
  let last := if direct then some t else x.lastOn
  let active := match last with
    | some s => direct || decide (t < s + io.fld (Reg.THRM.ON k) 15 0 * sec)
    | none => false
  let y := demands c io k { x with forced := forced, active := active, runon := active && !direct, lastOn := last }
  let io1 := deliverLsw k x y io
  let change := forced != x.forced
  let io2 := if change then
      (io1.rec1 q3 35 8 (0x87 * 2 ^ 48 + k * 2 ^ 42 + b2n forced * 2 ^ 34 + y.pump)).evt 0x40130000 8
    else io1
  let h1 := h.putCirc k y
  if coolRouted io k && change then (h1, coolCmd k h1 io2) else (h1, io2)

/-- R203, row CIRC_RUNON_END: RUNON_S has passed after the last active step. Assumption log: 54 (DEDUCED). -/
def runonEnd (c : CtleSt) (k : Nat) (h : ThrmSt) (io : Io) : ThrmSt × Io :=
  let x := circOf h k
  match x.lastOn with
  | some s =>
    if x.active ∧ x.runon ∧ s + io.fld (Reg.THRM.ON k) 15 0 * sec ≤ io.now then
      let y := demands c io k { x with active := false, runon := false }
      (h.putCirc k y, deliverLsw k x y io)
    else (h, io)
  | none => (h, io)

/-- R207, row COOL_CMD_SEND: once per COOL_MS window. -/
def coolCmdSend (active : Bool) (k : Nat) (h : ThrmSt) (io : Io) : ThrmSt × Io :=
  let x := circOf h k
  let win := coolWin io k
  if active && io.flag (Reg.THRM.CCTL k) 31 && coolRouted io k && x.sentWin != win then
    let h1 := h.putCirc k { x with sentWin := win }
    (h1, coolCmd k h1 io)
  else (h, io)

/-- Row THRM_STEP: step k at site time k ms, once, for every enabled observer and then every enabled circuit. -/
def thrmStep (active : Bool) (c : CtleSt) (residue : List Nat) (cur : Nat → CurIn) (pt : Nat → Option PtIn)
    (h : ThrmSt) (io : Io) : ThrmSt × Io :=
  let k := io.now / ms
  if active && decide (h.lastStep ≤ k) then
    let t := k * ms
    let r := (enabledObs io).foldl (fun (s : ThrmSt × Io) o =>
      if residue.contains o && (obsOf s.1 o).st != .fault then failedStep o s.1 s.2
      else obsStep t o (cur (o % 256)) (fun i => pt (bits (inWord io o i) 24 0)) s.1 s.2)
      ({ h with lastStep := k + 1 }, io)
    let r2 := (enabledCircs io).foldl (fun (s : ThrmSt × Io) k => circStep c t k s.1 s.2) r
    (r2.1, r2.2.setPair Reg.THRM.PUB_TIME_LO t)
  else (h, io)

/-- R206, row CIRC_ENABLE: a write of CCTL; enabling is refused where a load-switch channel is already driven. -/
def circEnable (ok : Guard → Bool) (who : Who) (k : Nat) (v : Word) (io : Io) : Io :=
  match regDesc 0x40130200 with
  | none => io
  | some d =>
    let was := io.flag (Reg.THRM.CCTL k) 31
    let io1 := io.writeAs d ok who (Reg.THRM.CCTL k) 0x40130200 v
    let w := io1.reg (Reg.THRM.CCTL k)
    let taken := fun ch : Nat => circuitDrives io1 k ch
      || (enabledSlots io1).any fun s => sinkKind io1 s == 3 && sinkSel io1 s % 32 == ch
    if !was && bit w 31 && ((bits w 30 29 == 1 && taken (bits w 20 16)) || (bits w 28 27 == 1 && taken (bits w 12 8))) then
      (io1.setFlag (Reg.THRM.CCTL k) 31 false).access .thrm 0 4 who 0x40130200 v.toNat
    else io1

/-! Published values. -/

/-- R711, R195: a credit of an observer, `sel` 0, 1 or 2 for 1 s, 10 s, 60 s. -/
def credit (h : ThrmSt) (io : Io) (o sel : Nat) : Nat :=
  if obsEn io o then
    (match sel with
     | 0 => (obsOf h o).cred1
     | 1 => (obsOf h o).cred10
     | _ => (obsOf h o).cred60)
  else if h.lastStep = 0 then 0
  else if obsU io o 0x54 = 0 then 0xFFFFFFFF else obsU io o 0x54

def OState.code : OState → Nat
  | .normal => 0 | .fallback => 1 | .recovering => 2 | .fault => 3

def Obs.degraded (x : Obs) : Bool := [0, 1, 2, 3, 4, 5].any x.isLost

/-- The HS word; zero for a disabled observer (R711). -/
def hsWord (h : ThrmSt) (io : Io) (o : Nat) : Word :=
  let x := obsOf h o
  if obsEn io o then
    w32 (b2n x.tripEst * 2 ^ 31 + b2n x.tripMeas * 2 ^ 30 + x.st.code * 2 ^ 27 + b2n x.degraded * 2 ^ 26 + b2n x.high * 2 ^ 25
      + unS 16 x.hot)
  else 0

/-- The run-time words of an observer's window, by offset. -/
def obsView (h : ThrmSt) (io : Io) (o a : Nat) : Option Word :=
  let x := obsOf h o
  match a with
  | 0x1C0 => some (wS x.t1)
  | 0x1C4 => some (wS x.t2)
  | 0x1C8 => some (wS x.t3)
  | 0x1CC => some (wS x.iUsed)
  | 0x1D0 => some (wS x.fUsed)
  | 0x1D4 => some (wS x.rNow)
  | 0x1D8 => some (w32 (credit h io o 0))
  | 0x1DC => some (w32 (credit h io o 1))
  | 0x1E0 => some (w32 (credit h io o 2))
  | 0x1E4 => some (wS (sat32 x.resid))
  | 0x1E8 => some (w32 (x.st.code * 2 ^ 29 + b2n x.degraded * 2 ^ 28 + b2n x.high * 512 + b2n x.low * 256
      + (((List.range 6).filter x.isLost).map fun i => 2 ^ i).foldl (· + ·) 0))
  | 0x1EC => some (wS (sat32 (rCred io o)))
  | 0x1F0 => some (w32 (if x.st = .recovering then (x.timer - io.now) / ms else 0))
  | _ => none

/-- The computed words of a circuit's window. -/
def circView (h : ThrmSt) (k a : Nat) : Option Word :=
  let x := circOf h k
  match a with
  | 0x220 => some (w32 x.pump)
  | 0x224 => some (w32 x.valve)
  | 0x228 => some (w32 (4 * b2n x.runon + 2 * b2n x.active + b2n x.forced))
  | _ => none

/-- What THRM's registers show. -/
def thrmView (active : Bool) (h : ThrmSt) (io : Io) (k : Nat) : Option Word :=
  let a := k % 0x10000000000
  let w := k / 0x10000000000 - 1
  if 0x10000000000 ≤ k then
    (if 0x401301C0 ≤ a ∧ a < 0x40130200 then obsView h io w (a - 0x40130000)
     else if 0x40130220 ≤ a ∧ a < 0x40130230 then circView h w (a - 0x40130000) else none)
  else if a = Reg.THRM.STAT then
    let n := fun p : Obs → Bool => ((enabledObs io).filter fun o => p (obsOf h o)).length
    some (w32 (n (fun x => x.st == .fault) * 2 ^ 20 + n (fun x => x.st == .fallback || x.st == .recovering) * 1024
      + b2n (!active) * 2 + (io.reg a).toNat % 2))
  else if 0x40131000 ≤ a ∧ a < 0x40131800 then some (hsWord h io ((a - 0x40131000) / 4))
  else if 0x40132000 ≤ a ∧ a < 0x40132800 then some (w32 (credit h io ((a - 0x40132000) / 4) 0))
  else if 0x40132800 ≤ a ∧ a < 0x40133000 then some (w32 (credit h io ((a - 0x40132800) / 4) 1))
  else if 0x40133000 ≤ a ∧ a < 0x40133800 then some (w32 (credit h io ((a - 0x40133000) / 4) 2))
  else if 0x40133800 ≤ a ∧ a < 0x40133900 then
    let x := circOf h ((a - 0x40133800) / 4)
    some (w32 (x.valve * 65536 + x.pump))
  else none

/-- The credit ALLOC takes from an observer, mA, with R39: fallback where the publication is older than 4 ms. -/
def allocCredit (h : ThrmSt) (io : Io) (t o : Nat) : Nat × Bool :=
  if io.pair Reg.THRM.PUB_TIME_LO + 4 * ms < t then
    ((if obsEn io o then fallbackCred io o else if obsU io o 0x54 = 0 then 0xFFFFFFFF else fallbackCred io o), true)
  else (credit h io o (credSel io o), false)

/-- R188: the checks on an enabled observer's record. -/
def obsRecordOk (io : Io) (o : Nat) : Bool :=
  let w := obsS io o
  let u := obsU io o
  let unit := fun x : Nat => decide (u x ≤ 65536)
  let block := fun b : Nat =>
    unit b && unit (b + 4) && unit (b + 8) && unit (b + 12) && unit (b + 16) && decide (0 < u (b + 20))
      && decide (((u b + u (b + 4) + u (b + 8) + u (b + 12) + u (b + 16) : Nat) - (65536 : Int)).natAbs ≤ 16)
  let f4 := 4 * fCred io o
  let g12 := u 0x24 * 1000 + u 0x28 * f4
  let stable := fun (g c : Nat) => decide (4 * g ≤ 1000000 * c)
  bit (obsWord io o 0) 30 == decide (256 ≤ o) && decide (credSel io o ≤ 2) && decide (measSel io o ≤ 2)
    && bits (obsWord io o 0) 25 22 == 0 && bits (obsWord io o 0) 15 0 == 0
    && [1, 2, 3, 4, 5].all (fun i => bits (inWord io o i) 30 25 == 0)
    && [0x18, 0x1C, 0x20].all (fun x => decide (0 < w x))
    && [0x24, 0x28, 0x2C, 0x30, 0x34, 0x38, 0x40].all (fun x => decide (0 ≤ w x))
    && unit 0x44 && unit 0x48 && unit 0x5C
    && decide (tLim io o ≤ tTrip io o) && decide (1 ≤ bits (obsWord io o 0x50) 15 0) && decide (bits (obsWord io o 0x50) 15 0 ≤ 1000)
    && decide (1 ≤ u 0x54) && decide (u 0x54 ≤ 3000000) && decide (u 0x58 ≤ u 0x54)
    && block 0x64 && block 0x7C && block 0x94 && decide (u 0x78 ≤ u 0x90) && decide (u 0x90 ≤ u 0xA8)
    && [0xAC, 0xB0, 0xB4, 0xB8, 0xBC].all (fun x => u x == 0)
    && (match measInput io o with
        | some k => inUse io o k
        | none => true)
    && stable (g12 + u 0x2C * 1000) (u 0x18) && stable (g12 + u 0x30 * 1000 + u 0x38 * f4) (u 0x1C)
    && stable ((u 0x2C + u 0x30 + u 0x34) * 1000) (u 0x20)
    && (fCred io o == 0 || (inUse io o 1 && inUse io o 3))

/-! COOL_CMD receivers (R208 to R210). -/

/-- R209: an accepted message. -/
def coolApply (node : Nat) (p : List Byte) (h : ThrmSt) : ThrmSt :=
  { h with rx := Tbl.set h.rx CoolRx.init (node * 65536 + u16 p 0) ⟨true, u16 p 2, u16 p 4, u64 p 8, u16 p 16, u16 p 18, false⟩ }

/-- R210: VALID_UNTIL has passed at the receiver. -/
def coolExpiry (node ch hnow : Nat) (h : ThrmSt) : ThrmSt :=
  let k := node * 65536 + ch
  let x := Tbl.get h.rx CoolRx.init k
  if x.seen ∧ !x.loss ∧ x.until_ ≤ hnow then { h with rx := Tbl.set h.rx CoolRx.init k { x with loss := true } } else h

end Sys2Proof.Machine
end

