-- ==== Sys2Proof/Machine/TyGnt.lean ====
section
/-! DEFINITION. Sys2Proof/Machine/TyGnt.lean: what Gauntlet and the die's safety side hold (chapter 12). -/
namespace Sys2Proof.Machine

/-- The states of an output pair (R516). Assumption log: 146 (DEDUCED). -/
inductive PState where
  | locked | closing | on | stopping | faulted
  deriving DecidableEq, Repr

def PState.code : PState → Nat
  | .locked => 0 | .closing => 1 | .on => 2 | .stopping => 3 | .faulted => 4

/-- A safe stop (R524): t0, T_STOP in ms, and for each mapped dispenser I0 in mA, DECEL, T_DELAY, ENV_A, and the fresh reports
in a row at or below ENV_A. -/
structure StopD where
  d : Nat
  i0 : Nat
  decel : Nat
  delay : Nat
  envA : Nat
  low : Nat
  deriving DecidableEq, Repr

structure Stop where
  t0 : Nat
  tStop : Nat
  ds : List StopD
  deriving DecidableEq, Repr

/-- An output pair: state, last cause, since when it is open, the safe stop, the coil current, the time of the last test. -/
structure Pair where
  st : PState
  cause : Nat
  openAt : Nat
  stop : Option Stop
  mA : Nat
  testAt : Nat
  deriving DecidableEq, Repr

def Pair.init : Pair := ⟨.locked, 0, 0, none, 0, 0⟩

/-- A safety input: the filtered level reads 0, it demands, its fault (0 none), recent glitches, test pulses passed in a row
since the fault, the pair's progress under R509 (0, 1 demanded together, 2 closed together; kept on the even input), whether
an acknowledgement has been accepted since the fault, and on the even input since when one of the two has demanded alone. -/
structure Inp where
  low : Bool
  dem : Bool
  fault : Nat
  glitch : List Nat
  passes : Nat
  together : Nat
  acked : Bool
  alone : Option Nat
  deriving DecidableEq, Repr

def Inp.init : Inp := ⟨false, false, 0, [], 0, 0, false, none⟩

/-- A dispenser as Gauntlet sees it: MEAS_TIME and current of the last fresh report, R39 armed (R520), reports in a row with
low insulation and over the lease, since when the current has been over the credit. -/
structure GDisp where
  last : Option (Nat × Int)
  armed : Bool
  iso : Nat
  l5 : Nat
  sf4 : Option Nat
  deriving DecidableEq, Repr

def GDisp.init : GDisp := ⟨none, false, 0, 0, none⟩

/-- Gauntlet. `press`: when SAFE_ACK was pressed; `winEnd`: end of the acknowledgement window, 0 none; `die`: one bit per pair
that the die holds closed; `dieSf2`: pairs the die keeps open by R510; `laneAt`: the last safety-lane frame; `lane`: its
sequence number. -/
structure GntSt where
  pair : Tbl Pair
  inp : Tbl Inp
  disp : Tbl GDisp
  press : Option Nat
  stuck : Bool
  winEnd : Nat
  sealed : Bool
  halted : Bool
  die : Nat
  dieSf2 : Nat
  laneAt : Nat
  lane : Nat
  laneOk : Bool
  deriving DecidableEq, Repr

def GntSt.init : GntSt := ⟨[], [], [], none, false, 0, false, false, 0, 0, 0, 0, false⟩

end Sys2Proof.Machine
end

