-- ==== Sys2Proof/Machine/Gnt.lean ====
section
/-! DEFINITION. Sys2Proof/Machine/Gnt.lean: Gauntlet (R16, R17, R499 to R536, R597). Every function acts on the pair of
Gauntlet's state and `Io`; `fb` says for which pairs the feedback conditions apply (R558). -/
namespace Sys2Proof.Machine

def gEvt (i : Nat) (io : Io) : Io := io.evt 0x40600000 i
def q9Dst : Io.QDst := ⟨9, 9, Reg.GNT.Q9_DROP, 0x40600000, 6⟩

/-- A Q9 record; GAP is bit 35. -/
def q9Rec (prio payload : Nat) (io : Io) : Io := io.rec1 q9Dst 35 prio payload

def pairOf (g : GntSt) (p : Nat) : Pair := Tbl.get g.pair Pair.init p
def inpOf (g : GntSt) (n : Nat) : Inp := Tbl.get g.inp Inp.init n
def gDispOf (g : GntSt) (d : Nat) : GDisp := Tbl.get g.disp GDisp.init d
def GntSt.putPair (g : GntSt) (p : Nat) (x : Pair) : GntSt := { g with pair := Tbl.set g.pair Pair.init p x }
def GntSt.putInp (g : GntSt) (n : Nat) (x : Inp) : GntSt := { g with inp := Tbl.set g.inp Inp.init n x }
def GntSt.putDisp (g : GntSt) (d : Nat) (x : GDisp) : GntSt := { g with disp := Tbl.set g.disp GDisp.init d x }

/-! Configuration. -/

def inEn (io : Io) (n : Nat) : Bool := io.flag (Reg.GNT.IN_CFG n) 31
def inUseOf (io : Io) (n : Nat) : Nat := io.fld (Reg.GNT.IN_CFG n) 30 29
def inTp (io : Io) (n : Nat) : Bool := io.flag (Reg.GNT.IN_CFG n) 28
def inSf1 (io : Io) (n : Nat) : Bool := io.flag (Reg.GNT.IN_CFG n) 26
/-- The even input of a pair that n belongs to. -/
def inPair (io : Io) (n : Nat) : Option Nat := if io.flag (Reg.GNT.IN_CFG (n - n % 2)) 27 then some (n - n % 2) else none
def inActs (io : Io) (n p : Nat) : Bool := io.flag (Reg.GNT.IN_MASK n) p
def pairEn (io : Io) (p : Nat) : Bool := io.flag (Reg.GNT.OUT_CFG p) 31
def dispEn (io : Io) (d : Nat) : Bool := io.flag (Reg.GNT.DISP_CFG d) 31
def dispPair (io : Io) (d : Nat) : Nat := io.fld (Reg.GNT.DISP_CFG d) 30 26
/-- R521. -/
def dispPeriod (io : Io) (d : Nat) : Nat := io.fld (Reg.GNT.DISP_CFG d) 3 0 * ms
/-- The enabled dispensers mapped to a pair. -/
def pairDisps (io : Io) (p : Nat) : List Nat := (List.range 256).filter fun d => dispEn io d && dispPair io d == p
/-- The enabled pairs in a mask. -/
def maskPairs (io : Io) (a : Nat) : List Nat := (List.range 32).filter fun p => io.flag a p && pairEn io p

def PState.live (s : PState) : Bool := s == .on || s == .stopping

/-! The states of a pair (R516). -/

/-- A pair enters a state: PAIR_STATE, and what leaving ON and STOPPING ends. -/
def pairGo (p : Nat) (new : PState) (t : GntSt × Io) : GntSt × Io :=
  let x := pairOf t.1 p
  if x.st = new then t
  else
    let opens := x.st.live && !new.live
    let g1 := t.1.putPair p { x with
      st := new, openAt := if opens then t.2.now else x.openAt,
      stop := if new = .stopping then x.stop else none, mA := if new.live then x.mA else 0 }
    let g2 := if opens then (pairDisps t.2 p).foldl (fun (g : GntSt) d => g.putDisp d { gDispOf g d with armed := false }) g1 else g1
    let io1 := q9Rec (if new = .faulted then 0xC else 4) (9 * 2 ^ 48 + p * 2 ^ 43 + new.code * 2 ^ 40 + x.st.code * 2 ^ 37) t.2
    (g2, if new = .faulted then gEvt 3 io1 else io1)

/-- Whole amperes of a current. -/
def ampere (mA : Int) : Nat := satU 16 (odiv mA.natAbs 1000).toNat

/-- A TRIP record. Assumption log: 144 (DEDUCED). -/
def tripRec (p fn cause src : Nat) (i : Int) (io : Io) : Io :=
  (gEvt 0 (q9Rec 0xC (8 * 2 ^ 48 + p * 2 ^ 43 + fn * 2 ^ 40 + cause * 2 ^ 24 + src % 256 * 2 ^ 16 + ampere i) io)).count Reg.GNT.TRIP_CNT

/-- The end of a safe stop: 0 current, 1 T_STOP, 2 a trip; in whole ms since t0. -/
def sf1End (p how : Nat) (t : GntSt × Io) : GntSt × Io :=
  match (pairOf t.1 p).stop with
  | some s =>
    (t.1, gEvt 1 (q9Rec 4 (0xC * 2 ^ 48 + p * 2 ^ 43 + 2 ^ 42 + how * 2 ^ 40 + satU 32 (odiv ((t.2.now - s.t0 : Nat) : Int) ms).toNat) t.2))
  | none => t

/-- R524: the envelopes of a safe stop that begins now. T_STOP is the least of the mapped dispensers' profiles. Assumption log: 147 (DEDUCED). -/
def stopOf (p : Nat) (t : GntSt × Io) : Stop :=
  let io := t.2
  let ds := (pairDisps io p).map fun d =>
    let e := io.fld (Reg.GNT.DISP_CFG d) 18 16
    ((⟨d, ((gDispOf t.1 d).last.elim 0 fun l => l.2.natAbs), io.fld (Reg.GNT.ENV0 e) 31 16, io.fld (Reg.GNT.ENV0 e) 15 8,
      io.fld (Reg.GNT.ENV1 e) 15 0, 0⟩ : StopD), io.fld (Reg.GNT.ENV1 e) 31 16)
  ⟨io.now, (ds.map Prod.snd).foldl (fun (a : Nat) x => if a = 0 then x else min a x) 0, ds.map Prod.fst⟩

/-- R516, R518, R526: a demand on a pair. `sf1`: its reaction is SF1. Assumption log: 144 (DEDUCED). -/
def tripPair (fn cause src : Nat) (i : Int) (sf1 : Bool) (p : Nat) (t : GntSt × Io) : GntSt × Io :=
  let x := pairOf t.1 p
  if t.1.halted || x.st == .locked || x.st == .faulted || (sf1 && x.st == .stopping) then t
  else
    let io1 := tripRec p fn cause src i t.2
    if sf1 && x.st == .on then
      let s := stopOf p t
      let u := pairGo p .stopping (t.1.putPair p { x with cause := cause, stop := some s }, io1)
      (u.1, gEvt 1 (q9Rec 4 (0xC * 2 ^ 48 + p * 2 ^ 43 + s.tStop) u.2))
    else pairGo p .locked (sf1End p 2 (t.1.putPair p { x with cause := cause }, io1))

/-- A demand on the enabled pairs of a mask. -/
def tripMask (mask fn cause src : Nat) (sf1 : Bool) (t : GntSt × Io) : GntSt × Io :=
  (maskPairs t.2 mask).foldl (fun (u : GntSt × Io) p => tripPair fn cause src 0 sf1 p u) t

/-- R513: a pair whose switch fails. Assumption log: 144 (DEDUCED). -/
def switchFault (p : Nat) (t : GntSt × Io) : GntSt × Io :=
  let x := pairOf t.1 p
  if t.1.halted || x.st == .faulted then t
  else
    let io1 := if x.st.live then tripRec p 6 0x10 0 0 t.2 else t.2
    pairGo p .faulted (sf1End p 2 (t.1.putPair p { x with cause := 0x10 }, io1))

/-! Inputs (R504 to R510). -/

/-- R510: the die opens an input's pairs itself. Assumption log: 149 (DEDUCED). -/
def dieOpens (n : Nat) (t : GntSt × Io) : GntSt × Io :=
  if inUseOf t.2 n == 0 && !inSf1 t.2 n then
    let m := (t.2.reg (Reg.GNT.IN_MASK n)).toNat
    ({ t.1 with die := Nat.land t.1.die (0xFFFFFFFF - m), dieSf2 := Nat.lor t.1.dieSf2 m }, t.2)
  else t

/-- R508: an input fault is set, which is a demand. -/
def inFault (n cause : Nat) (t : GntSt × Io) : GntSt × Io :=
  let x := inpOf t.1 n
  if x.fault ≠ 0 then t
  else
    let g1 := t.1.putInp n { x with fault := cause, passes := 0, acked := false }
    let e := n - n % 2
    let g2 := g1.putInp e { inpOf g1 e with together := 0 }
    let u := dieOpens n (g2, gEvt 2 (q9Rec 8 (0xA * 2 ^ 48 + n * 2 ^ 43 + 2 ^ 42 + cause) t.2))
    tripMask (Reg.GNT.IN_MASK n) 6 cause n false u

/-- R509 without the acknowledgement. Where no pulse is sent to the input, no pulse is asked of it. -/
def faultDone (g : GntSt) (io : Io) (n : Nat) : Bool :=
  let x := inpOf g n
  (!inTp io n || decide (2 ≤ x.passes)) && (match inPair io n with
    | some e => (inpOf g e).together == 2
    | none => true)

/-- R509: the fault of an input clears when nothing more is asked. -/
def faultClear (n : Nat) (t : GntSt × Io) : GntSt × Io :=
  let x := inpOf t.1 n
  if x.fault != 0 && x.acked && faultDone t.1 t.2 n then
    (t.1.putInp n { x with fault := 0, acked := false }, q9Rec 8 (0xA * 2 ^ 48 + n * 2 ^ 43 + x.fault) t.2)
  else t

/-- The two inputs of a pair move on under R509. -/
def pairStep (n : Nat) (t : GntSt × Io) : GntSt × Io :=
  match inPair t.2 n with
  | some e =>
    let a := inpOf t.1 e
    let b := inpOf t.1 (e + 1)
    let s := if a.together = 0 && a.dem && b.dem then 1
      else if a.together = 1 && !a.dem && !b.dem && !a.low && !b.low then 2 else a.together
    (t.1.putInp e { a with together := s }, t.2)
  | none => t

/-- R504, R506, R510, R518: a filtered input reads 0. A feedback input demands nothing. -/
def inputDemand (n : Nat) (t : GntSt × Io) : GntSt × Io :=
  let x := inpOf t.1 n
  if t.1.halted || !inEn t.2 n || decide (32 ≤ n) || x.low then t
  else if inUseOf t.2 n = 1 then (t.1.putInp n { x with low := true }, t.2)
  else
    let g1 := t.1.putInp n { x with low := true, dem := true }
    let g2 := match inPair t.2 n with
      | some e =>
        let other := inpOf g1 (if n = e then e + 1 else e)
        g1.putInp e { inpOf g1 e with alone := if other.dem then none else some ((inpOf g1 e).alone.getD t.2.now) }
      | none => g1
    let u := dieOpens n (pairStep n (g2, t.2))
    let imd := inUseOf t.2 n == 2
    tripMask (Reg.GNT.IN_MASK n) (if imd then 3 else if inSf1 t.2 n then 1 else 2) (if imd then 6 else 1) n (inSf1 t.2 n) u

/-- R509: an input closes again. -/
def inputClosed (n : Nat) (t : GntSt × Io) : GntSt × Io :=
  let x := inpOf t.1 n
  if t.1.halted || !inEn t.2 n || decide (32 ≤ n) || !x.low then t
  else faultClear n (pairStep n (t.1.putInp n { x with low := false, dem := false }, t.2))

/-- R507: a glitch on an input that closes again before a demand. -/
def inputGlitch (n : Nat) (t : GntSt × Io) : GntSt × Io :=
  let x := inpOf t.1 n
  if t.1.halted || !inEn t.2 n || inUseOf t.2 n == 1 || decide (32 ≤ n) || x.low then t
  else
    let now := t.2.now
    let g := (x.glitch.filter fun a => decide (now < a + t.2.fld (Reg.GNT.IN_CFG n) 7 0 * ms)) ++ [now]
    if 3 ≤ g.length then inFault n 5 (t.1.putInp n { x with glitch := [] }, t.2) else (t.1.putInp n { x with glitch := g }, t.2)

/-- R505: a test pulse of input n ends. `held`: the input still reads 1; `crossed`: the inputs that read 0 throughout the pulse
and 1 on either side. Assumption log: 150 (DEDUCED). -/
def testPulse (n : Nat) (held : Bool) (crossed : List Nat) (t : GntSt × Io) : GntSt × Io :=
  let x := inpOf t.1 n
  if t.1.halted || !inEn t.2 n || !inTp t.2 n || decide (32 ≤ n) then t
  else
    let u : GntSt × Io := if x.low then (t.1.putInp n { x with passes := 0 }, t.2)
      else if held then inFault n 2 (t.1, t.2.count Reg.GNT.TP_FAIL_CNT)
      else (t.1.putInp n { x with passes := x.passes + 1 }, t.2)
    let hit := crossed.filter fun k => k != n && decide (k < 32) && inEn t.2 k && !(inpOf t.1 k).low
    let v := hit.foldl (fun (w : GntSt × Io) k => inFault k 3 w) u
    faultClear n (if hit.isEmpty then v else inFault n 3 v)

/-- R506: the other input of a pair has not demanded in time. Assumption log: 150 (DEDUCED). -/
def discTimeout (n : Nat) (t : GntSt × Io) : GntSt × Io :=
  match inPair t.2 n with
  | some e =>
    let a := inpOf t.1 e
    let lone := if a.dem then e else e + 1
    (match a.alone with
     | some s =>
       if !t.1.halted && decide (s + t.2.fld (Reg.GNT.IN_CFG lone) 23 16 * ms ≤ t.2.now) then
         inFault (e + 1) 4 (inFault e 4 (t.1.putInp e { a with alone := none }, t.2))
       else t
     | none => t)
  | none => t

/-! Tests of the outputs (R511 to R516). -/

def testDue (x : Pair) (now : Nat) : Bool := x.testAt == 0 || decide (x.testAt + 10 * sec ≤ now)

/-- R511: `ok`: both nodes have followed. Assumption log: 151 (DESIGN CHOICE). -/
def darkTest (p : Nat) (ok : Bool) (mA : Nat) (t : GntSt × Io) : GntSt × Io :=
  let x := pairOf t.1 p
  if !t.1.halted && pairEn t.2 p && x.st == .on && testDue x t.2.now then
    let u : GntSt × Io := (t.1.putPair p { x with testAt := t.2.now, mA := mA }, t.2)
    if ok then u else switchFault p u
  else t

/-- R512: the test of a LOCKED pair, and the test that CLOSING runs. Assumption log: 151 (DESIGN CHOICE). -/
def lightTest (p : Nat) (follows : Bool) (mA : Nat) (t : GntSt × Io) : GntSt × Io :=
  let x := pairOf t.1 p
  if !t.1.halted && pairEn t.2 p && (x.st == .closing || (x.st == .locked && testDue x t.2.now)) then
    let u : GntSt × Io := (t.1.putPair p { x with testAt := t.2.now }, t.2)
    if follows && decide (mA < 20) then u else switchFault p u
  else t

/-- R516: the tests of a CLOSING pair have passed. -/
def testsPass (p : Nat) (t : GntSt × Io) : GntSt × Io :=
  if !t.1.halted && (pairOf t.1 p).st == .closing then pairGo p .on t else t

/-- R514. Assumption log: 151 (DESIGN CHOICE). -/
def coilOc (p mA : Nat) (t : GntSt × Io) : GntSt × Io :=
  let x := pairOf t.1 p
  if x.st.live then tripPair 6 0x11 0 0 false p (t.1.putPair p { x with mA := mA }, t.2) else t

/-- The feedback input of a pair reads 1. -/
def feedback (g : GntSt) (io : Io) (p : Nat) : Bool := !(inpOf g (io.fld (Reg.GNT.OUT_CFG p) 28 24)).low

/-- The feedback condition of R516 and R531. -/
def feedbackOk (fb : Nat → Bool) (g : GntSt) (io : Io) (p : Nat) : Bool := !io.flag (Reg.GNT.OUT_CFG p) 29 || !fb p || feedback g io p

/-- R515. Assumption log: 146 (DEDUCED). -/
def weldCheck (fb : Nat → Bool) (p : Nat) (t : GntSt × Io) : GntSt × Io :=
  let x := pairOf t.1 p
  if !t.1.halted && pairEn t.2 p && (x.st == .locked || x.st == .faulted) && t.2.flag (Reg.GNT.OUT_CFG p) 29 && fb p && !feedback t.1 t.2 p
      && decide (x.openAt + t.2.fld (Reg.GNT.OUT_CFG p) 23 16 * ms ≤ t.2.now) then
    (t.1.putPair p { x with cause := 0xE }, t.2)
  else t

/-- R516: T_STOP has elapsed. Assumption log: 147 (DEDUCED). -/
def stopTimeout (p : Nat) (t : GntSt × Io) : GntSt × Io :=
  match (pairOf t.1 p).stop with
  | some s =>
    if !t.1.halted && (pairOf t.1 p).st == .stopping && decide (s.t0 + s.tStop * ms ≤ t.2.now) then pairGo p .locked (sf1End p 1 t) else t
  | none => t

/-! Head reports (R212, R518 to R525). -/

/-- A report is fresh (R39, R521). -/
def gFresh (io : Io) (d meas : Nat) : Bool := decide (io.now ≤ meas + 4 * dispPeriod io d)

/-- The envelope limit at a time, in units of 1 µA (R524). Assumption log: 147 (DEDUCED). -/
def envLimit (t0 t : Nat) (s : StopD) : Nat :=
  let from_ := t0 + s.delay * ms
  (if t ≤ from_ then s.i0 * 1000 else s.i0 * 1000 - s.decel * (t - from_)) + s.envA * 1000000

/-- R212: the observers that bound a dispenser's current: the cable's and the connector's, where they are enabled or have an
I_ABS. -/
def sf4Obs (io : Io) (d : Nat) : List Nat := [d, 256 + d].filter fun o => obsEn io o || obsU io o 0x54 != 0

/-- R212: the credit SF4 uses: CRED1, or the fallback where the step is older than 4 ms. -/
def sf4Credit (h : ThrmSt) (io : Io) (o : Nat) : Nat :=
  if io.pair Reg.THRM.PUB_TIME_LO + 4 * ms < io.now then fallbackCred io o else credit h io o 0

/-- A dispenser's pair takes a demand of SF3, SF4 or SF5; `bit_`: its REACT bit. -/
def dispTrip (d fn cause bit_ : Nat) (i : Int) (t : GntSt × Io) : GntSt × Io :=
  tripPair fn cause d i (t.2.flag (Reg.GNT.DISP_CFG d) bit_) (dispPair t.2 d) t

/-- R519: the current is over the threshold of the allowed interval. -/
def overLease (io : Io) (allow : Int × Int) (i : Int) : Bool :=
  let c : Nat := if 0 < i then allow.2.toNat else if i < 0 then (-allow.1).toNat else 0
  decide (c * (100 + io.fld Reg.GNT.SF_CFG0 23 16) + io.fld Reg.GNT.SF_CFG2 31 12 * 100 < i.natAbs * 100)

/-- R525, R516: a fresh report of a dispenser whose pair is STOPPING. -/
def stopReport (d meas : Nat) (i : Int) (t : GntSt × Io) : GntSt × Io :=
  let p := dispPair t.2 d
  let x := pairOf t.1 p
  match x.stop with
  | some s =>
    if x.st ≠ .stopping then t
    else if s.ds.any fun e => e.d == d && decide (envLimit s.t0 meas e < i.natAbs * 1000) then tripPair 1 0xD d i false p t
    else
      let ds := s.ds.map fun e => if e.d = d then { e with low := if i.natAbs ≤ e.envA * 1000 then e.low + 1 else 0 } else e
      let u : GntSt × Io := (t.1.putPair p { x with stop := some { s with ds := ds } }, t.2)
      if ds.all fun e => decide (2 ≤ e.low) then pairGo p .locked (sf1End p 0 u) else u
  | none => t

/-- Gauntlet takes a HEAD_STATUS: SF3, SF4, SF5, the safe stop. `allow`: the current allowed at MEAS_TIME (R41, R42, R113). -/
def gntHead (d : Nat) (h : HeadIn) (allow : Int × Int) (th : ThrmSt) (t : GntSt × Io) : GntSt × Io :=
  let io := t.2
  if t.1.halted || !dispEn io d || decide (256 ≤ d) || !gFresh io d h.meas then t
  else
    let x := gDispOf t.1 d
    let live := (pairOf t.1 (dispPair io d)).st.live
    let i := h.iOut
    let a := i.natAbs
    let pct := 100 + io.fld Reg.GNT.SF_CFG0 31 24
    let isoBad := (h.pos || h.neg) && h.imd && decide (h.iso < io.fld Reg.GNT.SF_CFG3 31 16)
    let iso := if isoBad then x.iso + 1 else 0
    let obs := sf4Obs io d
    let over4 := obs.any fun o => decide (sf4Credit th io o * pct + io.fld Reg.GNT.SF_CFG1 31 12 * 100 < a * 100)
    let since := if over4 then some (x.sf4.getD h.meas) else none
    let ripe := match since with
      | some s => decide (s + io.fld Reg.GNT.SF_CFG0 15 0 * ms ≤ h.meas)
      | none => false
    let absBad := obs.any fun o => decide (obsU io o 0x54 * pct < a * 100)
    let l5 := if overLease io allow i then x.l5 + 1 else 0
    let t0 : GntSt × Io := (t.1.putDisp d ⟨some (h.meas, i), x.armed || live, iso, l5, since⟩, io)
    let t1 := if decide (io.fld Reg.GNT.SF_CFG2 11 8 ≤ iso) && isoBad then dispTrip d 3 7 23 i t0 else t0
    let t2 := if ripe then dispTrip d 4 9 22 i t1 else t1
    let t3 := if absBad then dispTrip d 4 0xA 22 i t2 else t2
    let t4 := if l5 != 0 && decide (io.fld Reg.GNT.SF_CFG1 3 0 ≤ l5) then dispTrip d 5 0xB 21 i t3 else t3
    stopReport d h.meas i t4

/-- R39, R520: the last report of a dispenser whose pair is ON or STOPPING has grown stale. -/
def gntHeadStale (d : Nat) (t : GntSt × Io) : GntSt × Io :=
  let x := gDispOf t.1 d
  match x.last with
  | some l =>
    if !t.1.halted && dispEn t.2 d && x.armed && (pairOf t.1 (dispPair t.2 d)).st.live && !gFresh t.2 d l.1 then
      tripPair 6 0xC d 0 false (dispPair t.2 d) t
    else t
  | none => t

/-- R212, R523: step 8 of a tick: the trip flags of THRM. -/
def gntTick (th : ThrmSt) (t : GntSt × Io) : GntSt × Io :=
  (List.range 256).foldl (fun (u : GntSt × Io) d =>
    if dispEn u.2 d && (pairOf u.1 (dispPair u.2 d)).st.live && [d, 256 + d].any (fun o =>
        obsEn u.2 o && ((obsOf th o).tripEst || (obsOf th o).tripMeas)) then
      dispTrip d 4 8 22 ((gDispOf u.1 d).last.elim 0 Prod.snd) u
    else u) t

/-! Escalations and the halt (R527, R528, R597). -/

/-- Bits [23:16] of the window base of the block with a log key. -/
def logWin (k : Nat) : Nat :=
  match k with
  | 0 => 0x00 | 1 => 0x01 | 2 => 0x02 | 3 => 0x03 | 4 => 0x04 | 5 => 0x10 | 6 => 0x11 | 7 => 0x12 | 8 => 0x13 | 9 => 0x14
  | 10 => 0x20 | 11 => 0x21 | 12 => 0x30 | 13 => 0x32 | 14 => 0x33 | 15 => 0x34 | 16 => 0x70 | 17 => 0x80 | 18 => 0x81
  | 19 => 0xF0 | 20 => 0x40 | 21 => 0x50 | 22 => 0x60 | _ => 0x31

/-- R527: an ESC record and ESC_REACT. -/
def escReact (src : Nat) (t : GntSt × Io) : GntSt × Io :=
  let r := t.2.fld Reg.GNT.SF_CFG3 1 0
  let u : GntSt × Io := (t.1, gEvt 5 (q9Rec 8 (0xD * 2 ^ 48 + src * 2 ^ 40 + r * 2 ^ 38) t.2))
  (List.range 32).foldl (fun (v : GntSt × Io) p =>
    if r = 1 ∧ (pairOf v.1 p).st = .on then tripPair 1 0x13 0 0 true p v
    else if r = 2 then tripPair 2 0x13 0 0 false p v else v) u

/-- R528: Gauntlet halts. Assumption log: 152 (DEDUCED). -/
def gntHalt (t : GntSt × Io) : GntSt × Io := ({ t.1 with halted := true, laneOk := false }, t.2.setFlag Reg.GNT.STAT 31 false)

/-- R527, R528, R597: Gauntlet takes the oldest escalation, then those that found the buffer full. The Boolean: it has
halted. Assumption log: 152 (DEDUCED). -/
def escalation (t : GntSt × Io) : (GntSt × Io) × Bool :=
  if t.1.halted then (t, false)
  else match t.2.esc with
    | k :: r =>
      let io1 : Io := { t.2 with esc := r }
      if k = 22 then (gntHalt (t.1, io1), true) else (escReact (logWin k) (t.1, io1), false)
    | [] => if 0 < t.2.escOver then (escReact 0xFF (t.1, { t.2 with escOver := t.2.escOver - 1 }), false) else (t, false)

/-! The safety lane (R16, R17). -/

/-- One bit per pair that Gauntlet commands closed. -/
def laneMask (g : GntSt) : Nat := (List.range 32).foldl (fun (a : Nat) p => if (pairOf g p).st.live then a + 2 ^ p else a) 0

/-- The die releases a pair that it opened under R510 once no input of the pair demands or has a fault. -/
def dieHolds (g : GntSt) (io : Io) : Nat :=
  (List.range 32).foldl (fun (a : Nat) n =>
    if inEn io n && inUseOf io n == 0 && !inSf1 io n && ((inpOf g n).dem || (inpOf g n).fault != 0) then
      Nat.lor a (io.reg (Reg.GNT.IN_MASK n)).toNat
    else a) 0

/-- R16: Gauntlet sends a safety-lane frame. Assumption log: 149 (DEDUCED). -/
def laneFrame (t : GntSt × Io) : GntSt × Io :=
  if t.1.halted then t
  else
    let m := laneMask t.1
    let hold := dieHolds t.1 t.2
    ({ t.1 with die := Nat.land m (0xFFFFFFFF - Nat.land hold 0xFFFFFFFF), dieSf2 := hold, laneAt := t.2.now, lane := t.1.lane + 1, laneOk := true },
     t.2.drive "SAFETY_LANE" t.1.lane [m])

/-- R17: 100 µs without a valid frame: the die opens every pair. Assumption log: 149 (DEDUCED). -/
def laneTimeout (t : GntSt × Io) : GntSt × Io :=
  if t.1.laneAt + 100 * us ≤ t.2.now then
    let u := (List.range 32).foldl (fun (v : GntSt × Io) p =>
      let x := pairOf v.1 p
      if x.st.live || x.st == .closing then
        (if v.1.halted then (v.1.putPair p { x with st := .locked, openAt := v.2.now, stop := none }, v.2) else pairGo p .locked v)
      else v) t
    ({ u.1 with die := 0, laneOk := false }, u.2.drive "PAIRS_OPEN" 0 [])
  else t

/-! The acknowledgement (R529 to R532). -/

/-- R529: SAFE_ACK is pressed. -/
def ackPress (t : GntSt × Io) : GntSt × Io :=
  if t.1.halted || t.1.press.isSome then t else ({ t.1 with press := some t.2.now }, t.2)

/-- R529: SAFE_ACK has been held for more than 5 s. -/
def ackStuck (t : GntSt × Io) : GntSt × Io :=
  match t.1.press with
  | some p => if p + 5 * sec < t.2.now then ({ t.1 with stuck := true }, t.2) else t
  | none => t

/-- R529: SAFE_ACK is released. -/
def ackRelease (t : GntSt × Io) : GntSt × Io :=
  match t.1.press with
  | some p =>
    let ok := decide (p + 100 * ms ≤ t.2.now) && decide (t.2.now ≤ p + 5 * sec)
    ({ t.1 with
       press := none, stuck := false,
       winEnd := if ok then t.2.now + t.2.fld Reg.GNT.SF_CFG3 15 8 * sec else t.1.winEnd }, t.2)
  | none => t

/-- R529: the window ends. -/
def ackExpiry (t : GntSt × Io) : GntSt × Io :=
  if t.1.winEnd ≠ 0 ∧ t.1.winEnd ≤ t.2.now then ({ t.1 with winEnd := 0 }, t.2) else t

/-- R531: the reason why a pair is refused: 0 accepted. Assumption log: 145 (DEDUCED). -/
def ackRefuse (fb : Nat → Bool) (g : GntSt) (io : Io) (p : Nat) : Nat :=
  let x := pairOf g p
  let ins := (List.range 32).filter fun n => inEn io n && inUseOf io n != 1 && inActs io n p
  if x.st = .faulted then 6
  else if x.st ≠ .locked ∨ pairEn io p = false then 1
  else if ins.any fun n => (inpOf g n).dem then 2
  else if ins.any fun n => (inpOf g n).fault != 0 && !faultDone g io n then 3
  else if !feedbackOk fb g io p then 4
  else if !((pairDisps io p).all fun d => (gDispOf g d).last.elim false fun l => gFresh io d l.1) then 5
  else 0

/-- An ACK record. -/
def ackRec (res mask : Nat) (io : Io) : Io := q9Rec 4 (0xB * 2 ^ 48 + res * 2 ^ 32 + mask) io

/-- R530: ACK_CMD is written. Assumption log: 145 (DEDUCED). -/
def ackCmd (fb : Nat → Bool) (who : Who) (v : Word) (t : GntSt × Io) : GntSt × Io :=
  if !mayWrite who Reg.GNT.ACK_CMD then (t.1, t.2.accessAt 1 who Reg.GNT.ACK_CMD v.toNat)
  else if t.1.halted then t
  else if v.toNat ≠ 0x5AFE0001 then (t.1, ackRec 2 0 t.2)
  else if t.1.winEnd ≤ t.2.now then (t.1, ackRec 1 0 t.2)
  else
    let g := t.1
    let io := t.2
    let named := (List.range 32).filter fun p => io.flag Reg.GNT.ACK_MASK p
    let why := named.map fun p => (p, ackRefuse fb g io p)
    let acc := (why.filter fun e => e.2 == 0).map Prod.fst
    let mask := acc.foldl (fun (a : Nat) p => a + 2 ^ p) 0
    let io1 := (List.range 4).foldl (fun (x : Io) i => x.setReg (Reg.GNT.ACK_REFUSE i)
      (w32 (why.foldl (fun (a : Nat) e => if e.1 / 8 = i then a + e.2 * 2 ^ (4 * (e.1 % 8)) else a) 0))) io
    let t1 : GntSt × Io := ({ g with winEnd := 0 }, ackRec 0 mask (gEvt 4 (io1.count Reg.GNT.ACK_CNT)))
    let t2 := (List.range 32).foldl (fun (u : GntSt × Io) n =>
      if acc.any fun p => inActs u.2 n p then
        faultClear n (u.1.putInp n { inpOf u.1 n with acked := (inpOf u.1 n).fault != 0 }, u.2) else u) t1
    acc.foldl (fun (u : GntSt × Io) p => pairGo p .closing u) t2

/-! Start and reset (R502, R516, R517). -/

/-- R502, R516: the first commit seals the registers; pairs that need no acknowledgement close. -/
def gntSeal (fb : Nat → Bool) (t : GntSt × Io) : GntSt × Io :=
  if t.1.sealed then t
  else
    let u : GntSt × Io := ({ t.1 with sealed := true }, t.2)
    if t.1.halted then u
    else (List.range 32).foldl (fun (v : GntSt × Io) p =>
      let ins := (List.range 32).filter fun n => inEn v.2 n && inUseOf v.2 n != 1 && inActs v.2 n p
      if pairEn v.2 p && !v.2.flag (Reg.GNT.OUT_CFG p) 30 && (pairOf v.1 p).st == .locked
          && (ins.all fun n => !(inpOf v.1 n).dem && (inpOf v.1 n).fault == 0) && feedbackOk fb v.1 v.2 p then
        pairGo p .closing v
      else v) u

/-- A reset: contact levels remain; FAULTED pairs remain through all but a power-on reset. Assumption log: 148 (DEDUCED). -/
def gntReset (por : Bool) (now : Nat) (g : GntSt) : GntSt :=
  { GntSt.init with
    inp := (List.range 32).foldl (fun (u : Tbl Inp) n => Tbl.set u Inp.init n { Inp.init with low := (inpOf g n).low }) [],
    pair := (List.range 32).foldl (fun (u : Tbl Pair) p =>
      let x := pairOf g p
      Tbl.set u Pair.init p (if !por && x.st == .faulted then { Pair.init with st := .faulted, cause := x.cause, openAt := x.openAt }
        else { Pair.init with openAt := if x.st.live then now else x.openAt })) [],
    laneAt := g.laneAt, lane := g.lane }

/-! What the registers show. -/

def bitsOf (n : Nat) (f : Nat → Bool) : Nat := (List.range n).foldl (fun (a : Nat) i => a + b2n (f i) * 2 ^ i) 0

/-- A dispenser's envelope limit now, A. -/
def envNow (g : GntSt) (io : Io) (d : Nat) : Nat :=
  match (pairOf g (dispPair io d)).stop with
  | some s => match s.ds.find? fun e => e.d == d with
    | some e => satU 16 (odiv (envLimit s.t0 io.now e) 1000000).toNat
    | none => 0xFFFF
  | none => 0xFFFF

/-- The GNT registers that show Gauntlet's state. -/
def gntView (g : GntSt) (io : Io) (k : Nat) : Option Word :=
  let o := k - 0x40600000
  let num := fun (f : PState → Bool) => ((List.range 32).filter fun p => f (pairOf g p).st).length
  if k < 0x40600000 ∨ 0x40600C00 ≤ k then none
  else if o = 0 then
    some (w32 (io.fld Reg.GNT.STAT 31 31 * 2 ^ 31 + b2n g.laneOk * 2 ^ 30 + b2n g.sealed * 2 ^ 29 + num PState.live * 2 ^ 18
      + num (· == .faulted) * 2 ^ 12))
  else if o = 0x10 then some (w32 (bitsOf 32 fun n => inEn io n && !(inpOf g n).low))
  else if o = 0x14 then some (w32 (bitsOf 32 fun n => (inpOf g n).dem || (inpOf g n).fault != 0))
  else if o = 0x18 then some (w32 (bitsOf 32 fun n => (inpOf g n).fault != 0))
  else if o = 0x20 then
    some (w32 (b2n (decide (io.now < g.winEnd)) * 2 ^ 31 + b2n g.press.isSome * 2 ^ 30 + b2n g.stuck * 2 ^ 29
      + satU 16 ((g.winEnd - io.now) / ms)))
  else if 0x280 ≤ o ∧ o < 0x300 then
    let p := (o - 0x280) / 4
    let x := pairOf g p
    let on := b2n x.st.live
    some (w32 (x.st.code * 2 ^ 29 + on * 2 ^ 28 + on * 2 ^ 27 + b2n (feedback g io p) * 2 ^ 26 + x.cause * 2 ^ 16 + satU 12 x.mA))
  else if 0x800 ≤ o ∧ o < 0xC00 then
    let d := (o - 0x800) / 4
    some (w32 ((gDispOf g d).last.elim 0 (fun l => ampere l.2) * 2 ^ 16 + envNow g io d))
  else none

end Sys2Proof.Machine
end

