-- ==== Sys2Proof/Machine/Lease.lean ====
section
/-! DEFINITION. Sys2Proof/Machine/Lease.lean: leases, acknowledgements, reconciliation and holders (chapter 03). -/
namespace Sys2Proof.Machine

/-- Q1 as LEASE writes it (R129): GAP is carried by RENEW records alone. -/
def q1 : Io.QDst := ⟨1, 1, Reg.LEASE.Q1_DROP, 0x40110000, 9⟩

def chainOf (l : LeaseSt) (t : Nat) : Chain := Tbl.get l.chain Chain.init t

/-- The field T of R127. -/
def tField (t : Nat) : Nat := if t < 256 then t * 2 ^ 36 else 2 ^ 46 + (t - 256) * 2 ^ 36

/-- A Q1 record other than RENEW: dropped whole where the fill bank is full, GAP kept for the next RENEW. -/
def q1Rec (io : Io) (prio payload : Nat) : Io :=
  match io.putPkt 1 [qWord true true prio payload] with
  | some io1 => io1
  | none => io.dropPkt q1

/-- R120, R121: the epoch at start-up. -/
def epochStart (l : LeaseSt) (io : Io) : LeaseSt × Io :=
  if l.epochSet then (l, io)
  else if io.flag Reg.LEASE.EPOCH 16 then
    ({ l with epochSet := true, fresh := true },
     io.setFld Reg.LEASE.EPOCH 15 0 (io.fld Reg.LEASE.EPOCH 15 0 + 1))
  else
    ({ l with epochSet := true, fresh := true, holdArm := true },
     (io.setReg Reg.LEASE.EPOCH 0x10001).setFlag Reg.LEASE.STAT 2 true)

/-- R121: the hold-off begins at the first commit. -/
def holdStart (l : LeaseSt) (io : Io) : LeaseSt :=
  if l.holdArm then { l with holdArm := false, holdUntil := some (io.now + sec) } else l

/-- R121: the hold-off ends after 1 s. -/
def holdEnd (l : LeaseSt) (io : Io) : LeaseSt × Io :=
  match l.holdUntil with
  | some t => if t ≤ io.now then ({ l with holdUntil := none }, io.setFlag Reg.LEASE.STAT 2 false) else (l, io)
  | none => (l, io)

/-- The quotient of two numbers rounded away from zero. -/
def awayDiv (a : Int) (b : Nat) : Int := if 0 ≤ a then (a + b - 1) / (b : Int) else -((-a + b - 1) / (b : Int))

/-- i_p of R93. -/
def iCeil (p : Int) (margin v : Nat) : Int := awayDiv (p * 1000000 * (100 + margin)) (v * 100)

/-- The magnitude of x cut to b, keeping its sign. -/
def cutMag (x : Int) (b : Option Int) : Int :=
  match b with
  | some m => if 0 ≤ x then min x (max m 0) else max x (-(max m 0))
  | none => x

/-- What a target's grant carries (R93): ceilings, and the flags SHED and DRAIN. -/
structure Ceil where
  p : Int
  i : Int
  flags : Nat
  deriving DecidableEq, Repr

/-- R93 for a dispenser. -/
def dispCeil (a : AllocSt) (inp : Tbl DispIn) (margin : Nat) (wind : Bool) (d : Nat) : Ceil :=
  let x := Tbl.get inp DispIn.init d
  let p := if wind then 0 else Tbl.get a.pd 0 d
  ⟨p, if p = 0 then 0 else cutMag (iCeil p margin x.v) x.iMax, 2 * b2n (Tbl.get a.shed Shed.init d).shed⟩

/-- R93 for a cabinet. -/
def cabCeil (a : AllocSt) (inp : Tbl DispIn) (margin : Nat) (wind : Bool) (c : Nat) : Ceil :=
  let r := routeOf a c
  let x := Tbl.get inp DispIn.init (r.disp.getD 256)
  let p := if wind || r.st != .bound then 0 else Tbl.get a.pc 0 c
  ⟨p, if p = 0 then 0 else cutMag (iCeil p margin x.v) x.iMax, 4 * b2n (r.st == .draining || r.st == .opening)⟩

/-- R92 and R707: the enabled targets within the model. -/
def grantTargets (a : AllocSt) (io : Io) : List Nat :=
  (idx 1024).filter fun t =>
    (if t < 256 then decide (t < nDisp a.model) else decide (t - 256 < nCab a.model)) && io.flag (Reg.LEASE.TGT t) 0

/-- The node of a target: HEAD_NODE or CAB_NODE. -/
def tgtNode (a : AllocSt) (t : Nat) : Nat := if t < 256 then dispHead a.model t else cabAtk a.model (t - 256)

/-- TARGET as R91 codes it. -/
def tgtCode (t : Nat) : Nat := if t < 256 then t else 0x4000 + (t - 256)

/-- The payload of R91. -/
def grantBytes (g : Grant) : List Byte :=
  le 4 g.lid ++ le 4 g.seq ++ le 8 g.start ++ le 8 g.expiry ++ le 2 g.target ++ le 2 g.node ++ leS 4 g.p ++ leS 4 g.i
    ++ le 4 g.ramp ++ le 2 g.fall ++ le 2 g.flags ++ le 2 g.epoch ++ zeros 2

/-- Leases that no ceiling can depend on any more are dropped from the history. Assumption log: 37 (DESIGN CHOICE). -/
def pruneHist (now : Nat) (h : List LEntry) : List LEntry :=
  h.take 1 ++ (h.drop 1).filter fun e => decide (now < e.expiry + 200 * ms)

/-- The grant to one target on renewal tick n (R91 to R95). Assumption log: 32 (DESIGN CHOICE). -/
def mkGrant (n : Nat) (reuse wind : Bool) (a : AllocSt) (inp : Tbl DispIn) (l : LeaseSt) (io : Io) (t : Nat) : Grant :=
  let margin := io.fld Reg.LEASE.CFG 31 24
  let c := if t < 256 then dispCeil a inp margin wind t else cabCeil a inp margin wind (t - 256)
  let reg := Reg.LEASE.TGT t
  let start := (n + io.fld reg 15 12) * tickNs
  ⟨b2n io.unitB * 2 ^ 31 + l.count % 2 ^ 31, ((chainOf l t).seq + 1) % 2 ^ 32, start,
   start + io.fld Reg.LEASE.CFG 7 0 * ms, tgtCode t, tgtNode a t, c.p, c.i, io.fld reg 31 16 * 100, io.fld reg 11 6,
   b2n wind + c.flags + 8 * b2n l.fresh + 16 * b2n reuse, io.fld Reg.LEASE.EPOCH 15 0⟩

/-- A grant is emitted: the chain, the counter, the message. -/
def emitGrant (n : Nat) (reuse wind : Bool) (a : AllocSt) (inp : Tbl DispIn) (t : Nat) (s : LeaseSt × Io) : LeaseSt × Io :=
  let l := s.1
  let io := s.2
  let g := mkGrant n reuse wind a inp l io t
  let ch := chainOf l t
  let ch1 := { ch with
    has := true, seq := g.seq, lid := g.lid,
    hist := ⟨g.start, g.expiry, g.p, g.i, g.fall⟩ :: pruneHist io.now ch.hist,
    pend := ch.pend ++ [(g.lid, io.now + io.fld Reg.LEASE.CFG 19 16 * ms)],
    plainExp := if wind then ch.plainExp else g.expiry }
  ({ l with chain := Tbl.set l.chain Chain.init t ch1, count := (l.count + 1) % 2 ^ 31 },
   (io.send 1 0 true g.node (grantBytes g)).count Reg.LEASE.GRANT_CNT)

/-- Whether LEASE may grant at all (R35, R92, R111, R121, R546). -/
def mayGrant (active : Bool) (io : Io) : Bool :=
  active && io.flag Reg.LEASE.CTRL 0 && !io.flag Reg.SYS.TICK_STAT 29 && !io.flag Reg.LEASE.STAT 2
    && !io.flag Reg.LEASE.STAT 4

/-- R92: the grants of renewal tick n, and the RENEW record. Assumption log: 22 (DEDUCED). -/
def leaseRenew (n : Nat) (reuse active : Bool) (a : AllocSt) (inp : Tbl DispIn) (l : LeaseSt) (io : Io) : LeaseSt × Io :=
  let ts := grantTargets a io
  if mayGrant active io && !ts.isEmpty then
    let wind := io.flag Reg.LEASE.CTRL 1
    let s := ts.foldl (fun s t => emitGrant n reuse wind a inp t s) (l, io)
    let io1 := s.2.emit q1 fun g => [qWord true true 4 (0x60 * 2 ^ 48 + ts.length * 2 ^ 36 + b2n reuse * 2 ^ 35
      + b2n wind * 2 ^ 34 + b2n l.fresh * 2 ^ 33 + b2n g * 2 ^ 32 + n % 2 ^ 32)]
    ({ s.1 with fresh := false }, (io1.setFlag Reg.LEASE.STAT 0 true).evt 0x40110000 0)
  else (l, io.setFlag Reg.LEASE.STAT 0 false)

/-- R99: the comparison of epochs. -/
def epochNewer (a b : Nat) : Bool :=
  let d := (a + 65536 - b % 65536) % 65536
  decide (1 ≤ d) && decide (d ≤ 0x7FFF)

/-- The layout that R108 allows. Assumption log: 36 (DEDUCED). -/
def ackLayout (p : List Byte) : Bool :=
  let r := u8 p 10
  p.length == 28 && u16 p 26 == 0 && decide (u8 p 11 < 8) && (r == 0 || r == 1 || decide (0x10 ≤ r ∧ r ≤ 0x15))
    && decide (bitsN (u16 p 8) 15 14 ≤ 1) && bitsN (u16 p 8) 13 10 == 0
    && (if bitsN (u16 p 8) 15 14 = 0 then decide (u16 p 8 < 256) else decide (bitsN (u16 p 8) 9 0 < 768))

/-- The target that TARGET names. -/
def ackTarget (p : List Byte) : Nat := if bitsN (u16 p 8) 15 14 = 1 then 256 + bitsN (u16 p 8) 9 0 else bitsN (u16 p 8) 9 0

/-- R109 to R111: a holder's acknowledgement. Assumption log: 36 (DEDUCED). -/
def leaseAck (p : List Byte) (l : LeaseSt) (io : Io) : LeaseSt × Io :=
  if ackLayout p then
    let t := ackTarget p
    let ch := chainOf l t
    let res := u8 p 10
    let ok := decide (res ≤ 1)
    let ch1 := { ch with
      pend := ch.pend.filter fun e => e.1 != u32 p 0, result := res, hstate := u8 p 11,
      miss := if ok then 0 else ch.miss, noack := if ok then false else ch.noack }
    let io1 := if ok && ch.noack then q1Rec io 4 (0x63 * 2 ^ 48 + tField t + ch.miss % 2 ^ 32) else io
    let io2 := if res = 1 then (q1Rec io1 8 (0x64 * 2 ^ 48 + tField t + u32 p 4)).evt 0x40110000 3 else io1
    let io3 := if 0x10 ≤ res then
        (q1Rec io2 8 (0x61 * 2 ^ 48 + tField t + res * 2 ^ 24 + u32 p 4 % 2 ^ 24)).evt 0x40110000 2 else io2
    let io4 := if epochNewer (u16 p 24) (io.fld Reg.LEASE.EPOCH 15 0) && io.flag Reg.LEASE.EPOCH 16 then
        (io3.setFlag Reg.LEASE.STAT 4 true).evt 0x40110000 10 else io3
    ({ l with chain := Tbl.set l.chain Chain.init t ch1 }, io4)
  else (l, io)

/-- R109: the grants of a target whose ACK has not come in time, each one miss. -/
def ackTimeout (t : Nat) (l : LeaseSt) (io : Io) : LeaseSt × Io :=
  let ch := chainOf l t
  let due := (ch.pend.filter fun e => decide (e.2 ≤ io.now)).length
  if due = 0 then (l, io)
  else
    let miss := ch.miss + due
    let max_ := io.fld Reg.LEASE.CFG 23 20
    let hit := decide (max_ ≤ miss) && !ch.noack
    let ch1 := { ch with pend := ch.pend.filter fun e => decide (io.now < e.2), miss := miss, noack := ch.noack || hit }
    let io1 := io.countN Reg.LEASE.MISS_CNT due
    ({ l with chain := Tbl.set l.chain Chain.init t ch1 },
     if hit then (q1Rec io1 0xC (0x62 * 2 ^ 48 + tField t + max_)).evt 0x40110000 1 else io1)

/-- The ceilings of a chain over time (R113): each lease from its START, and zero from an EXPIRY that no later lease
has overtaken; oldest first as (start, current ceiling, fall time in ms). -/
def timeline : List LEntry → List (Nat × Int × Nat)
  | [] => []
  | [e] => [(e.start, e.i, e.fall), (e.expiry, 0, e.fall)]
  | e :: f :: r =>
    (e.start, e.i, e.fall) :: (if f.start ≤ e.expiry then timeline (f :: r)
      else (e.expiry, 0, e.fall) :: timeline (f :: r))

/-- R41, R42: the interval of current allowed at time t: every ceiling whose successor's fall time has not passed. -/
def allowed (t : Nat) : List (Nat × Int × Nat) → Int × Int
  | [] => (0, 0)
  | [p] => if p.1 ≤ t then (min 0 p.2.1, max 0 p.2.1) else (0, 0)
  | p :: q :: r =>
    let b := allowed t (q :: r)
    if p.1 ≤ t ∧ (t < q.1 ∨ t < q.1 + q.2.2 * ms) then (min b.1 (min 0 p.2.1), max b.2 (max 0 p.2.1)) else b

/-- The current a target is allowed at time t under its leases. -/
def allowedNow (ch : Chain) (t : Nat) : Int × Int := allowed t (timeline ch.hist.reverse)

/-- The current a target is allowed at time t under the leases of its chain. Assumption log: 37 (DESIGN CHOICE). -/
def allowedAt (l : LeaseSt) (tgt t : Nat) : Int × Int := allowedNow (chainOf l tgt) t

/-- A run of a condition: the record is due when the condition has lasted `need` reports and is not yet written; it
may be written again after two reports without it. -/
def Run.next (r : Run) (cond : Bool) (need : Nat) : Run × Bool :=
  if cond then
    let on := r.on + 1
    let hit := decide (need ≤ on) && !r.written
    (⟨on, 0, r.written || hit⟩, hit)
  else
    let off := r.off + 1
    (⟨0, off, if 2 ≤ off then false else r.written⟩, false)

/-- R114 to R117, R123: a holder's reported current i (mA), measured at `at_`. Assumption log: 36 (DEDUCED). -/
def leaseReport (t : Nat) (i : Int) (at_ : Nat) (l : LeaseSt) (io : Io) : LeaseSt × Io :=
  let ch := chainOf l t
  let b := allowedNow ch at_
  let lim : Int := max (-b.1) b.2
  let tol := io.fld Reg.LEASE.RECON_CFG 31 24
  let resid : Int := io.fld Reg.LEASE.RESID 19 0
  let mag : Int := i.natAbs
  let isOver := decide (lim * (100 + tol) + (io.fld Reg.LEASE.RECON_CFG 19 0 : Int) * 100 < mag * 100)
  let isSign := decide (resid < mag) && ((decide (0 < i) && decide (b.1 < 0) && b.2 == 0)
    || (decide (i < 0) && decide (0 < b.2) && b.1 == 0))
  let gone := ch.hist.head?.elim false fun e => decide (e.expiry + e.fall * ms < at_)
  let isFlow := gone && decide (resid < mag)
  let o := ch.ovr.next isOver (io.fld Reg.LEASE.RECON_CFG 23 20)
  let s := ch.sign.next isSign 2
  let f := ch.flow.next isFlow 2
  let q := if decide (mag ≤ resid) && decide (ch.plainExp ≤ at_) then ch.quiet + 1 else 0
  let val := unS 32 i
  let io1 := if o.2 then ((q1Rec io 0xC (0x65 * 2 ^ 48 + tField t + val)).count Reg.LEASE.OVER_CNT).evt 0x40110000 4 else io
  let io2 := if s.2 then (q1Rec io1 0xC (0x66 * 2 ^ 48 + tField t + val)).evt 0x40110000 5 else io1
  let io3 := if f.2 then (q1Rec io2 0xC (0x67 * 2 ^ 48 + tField t + val)).evt 0x40110000 6 else io2
  ({ l with chain := Tbl.set l.chain Chain.init t { ch with ovr := o.1, sign := s.1, flow := f.1, quiet := q } }, io3)

/-- R123: QUIET once every enabled target has reported no current twice while WIND_DOWN is 1. -/
def quietCheck (a : AllocSt) (l : LeaseSt) (io : Io) : Io :=
  if io.flag Reg.LEASE.CTRL 1 && !io.flag Reg.LEASE.STAT 3 && (grantTargets a io).all fun t => decide (2 ≤ (chainOf l t).quiet) then
    q1Rec ((io.setFlag Reg.LEASE.STAT 3 true).evt 0x40110000 7) 4 (0x68 * 2 ^ 48)
  else io

/-- WIND_DOWN written: R122 applies from the next renewal; writing 0 clears QUIET (R123). -/
def windWrite (ok : Guard → Bool) (who : Who) (v : Word) (l : LeaseSt) (io : Io) : LeaseSt × Io :=
  let was := io.flag Reg.LEASE.CTRL 1
  let io1 := io.write ok who Reg.LEASE.CTRL v
  let is := io1.flag Reg.LEASE.CTRL 1
  let l1 := if is && !was then { l with chain := l.chain.map fun e => (e.1, { e.2 with quiet := 0 }) } else l
  (l1, if is then io1 else io1.setFlag Reg.LEASE.STAT 3 false)

/-- TBL_SEL latches a target's entry into the TBL registers in one step. -/
def tblSel (ok : Guard → Bool) (who : Who) (v : Word) (l : LeaseSt) (io : Io) : Io :=
  if mayWrite who Reg.LEASE.TBL_SEL then
    let io1 := io.write ok who Reg.LEASE.TBL_SEL v
    let ch := chainOf l (io1.fld Reg.LEASE.TBL_SEL 9 0)
    let e := ch.hist.head?.getD ⟨0, 0, 0, 0, 0⟩
    (((((((io1.setReg Reg.LEASE.TBL_LID (w32 ch.lid)).setReg Reg.LEASE.TBL_SEQ (w32 ch.seq)).setPair
      Reg.LEASE.TBL_START_LO e.start).setPair Reg.LEASE.TBL_EXP_LO e.expiry).setReg Reg.LEASE.TBL_P (wS e.p)).setReg
      Reg.LEASE.TBL_I (wS e.i)).setReg Reg.LEASE.TBL_ACK
        (w32 (satU 8 ch.miss * 2 ^ 24 + ch.result * 2 ^ 16 + ch.hstate * 2 ^ 8)))
  else io.accessAt 1 who Reg.LEASE.TBL_SEL v.toNat

/-- LIVE_NUM: targets whose last grant has not reached EXPIRY. -/
def liveNum (l : LeaseSt) (now : Nat) : Nat :=
  (l.chain.filter fun e => e.2.hist.head?.elim false fun g => decide (now < g.expiry)).length

/-- A grant as a holder reads it from the payload of R91. -/
def parseGrant (p : List Byte) : Grant :=
  ⟨u32 p 0, u32 p 4, u64 p 8, u64 p 16, u16 p 24, u16 p 26, s32 p 28, s32 p 32, u32 p 36, u16 p 40, u16 p 42, u16 p 44⟩

/-- R99. -/
def grantNewer (g : Grant) (last : Option (Nat × Nat)) : Bool :=
  match last with
  | some (e, s) => epochNewer g.epoch e || (g.epoch % 65536 == e % 65536 && newer g.seq s)
  | none => true

/-- The format conditions of R98. -/
def grantFormat (p : List Byte) : Bool :=
  let g := parseGrant p
  p.length == 48 && u16 p 46 == 0 && decide (g.flags < 32) && bitsN g.target 13 10 == 0 && decide (bitsN g.target 15 14 ≤ 1)
    && decide (1 ≤ g.fall ∧ g.fall ≤ 63) && decide (g.start + 5 * ms ≤ g.expiry) && decide (g.expiry ≤ g.start + 200 * ms)
    && (g.i == 0 || decide (0 < g.i ∧ 0 < g.p) || decide (g.i < 0 ∧ g.p < 0))

/-- The conditions of R98 and R105 that a grant fails, as RESULT codes. Assumption log: 33 (DESIGN CHOICE). -/
def grantFails (p : List Byte) (node tgt : Nat) (held : Bool) (hnow : Nat) (h : Holder) : List Nat :=
  let g := parseGrant p
  (if grantFormat p then [] else [0x14]) ++ (if g.node = node ∧ g.target = tgt then [] else [0x13])
    ++ (if held then [] else [0x15])
    ++ (if grantNewer g h.last then [] else
          [if h.last.elim false fun l => epochNewer l.1 g.epoch then 0x11 else 0x10])
    ++ (if hnow < g.expiry ∧ g.start ≤ hnow + 5 * ms then [] else [0x12])

/-- HOLDER_STATE of R108. -/
def Holder.code (h : Holder) : Nat := b2n (h.st == .inForce) + 2 * b2n (h.st == .rundown) + 4 * b2n h.timeHeld

/-- The payload of R108. -/
def ackBytes (g : Grant) (res ma mv : Nat) (h : Holder) : List Byte :=
  le 4 g.lid ++ le 4 g.seq ++ le 2 g.target ++ le 1 res ++ le 1 h.code ++ le 4 ma ++ le 4 mv
    ++ le 4 (h.cur.elim 0 fun c => c.seq) ++ le 2 (h.last.elim 0 Prod.fst) ++ zeros 2

/-- The key of a lease holder: its node and the target it holds for. -/
def holderKey (node tgt : Nat) : Nat := node * 65536 + tgt

/-- R98, R107, R108: a holder receives a grant whose tag verifies and which passes the replay window. Where several
conditions fail, which of their codes the ACK carries is open. Assumption log: 33 (DESIGN CHOICE). -/
def holderReceive (node tgt : Nat) (held : Bool) (hnow ma mv : Nat) (p : List Byte) (l : LeaseSt) (io : Io) : LeaseSt × Io :=
  let h0 := { Tbl.get l.holders Holder.init (holderKey node tgt) with timeHeld := held }
  let g := parseGrant p
  let fails := grantFails p node tgt held hnow h0
  let f := io.fresh
  match fails with
  | [] =>
    let h1 := { h0 with wait := h0.wait ++ [g], last := some (g.epoch, g.seq) }
    ({ l with holders := Tbl.set l.holders Holder.init (holderKey node tgt) h1 },
     io.drive "LEASE_ACK" node ((ackBytes g (if g.start < hnow then 1 else 0) ma mv h1).map BitVec.toNat))
  | [r] =>
    ({ l with holders := Tbl.set l.holders Holder.init (holderKey node tgt) h0 },
     io.drive "LEASE_ACK" node ((ackBytes g r ma mv h0).map BitVec.toNat))
  | r :: rs =>
    let res := ((r :: rs)[Config.freeNat f.1 % (r :: rs).length]?).getD r
    ({ l with holders := Tbl.set l.holders Holder.init (holderKey node tgt) h0 },
     f.2.drive "LEASE_ACK" node ((ackBytes g res ma mv h0).map BitVec.toNat))

/-- The newest accepted grant whose START has been reached and whose EXPIRY has not (R100). -/
def newestStarted (hnow : Nat) (l : List Grant) : Option Grant :=
  (l.filter fun g => decide (g.start ≤ hnow) && decide (hnow < g.expiry)).foldl (fun b g => match b with
    | some x => if grantNewer g (some (x.epoch, x.seq)) then some g else some x
    | none => some g) none

/-- R100, R104: START of an accepted grant is reached. Older accepted grants are discarded. Assumption log: 34 (DESIGN CHOICE). -/
def holderStart (node tgt hnow : Nat) (l : LeaseSt) : LeaseSt :=
  let h := Tbl.get l.holders Holder.init (holderKey node tgt)
  match newestStarted hnow h.wait with
  | some g =>
    if h.cur.elim true fun c => grantNewer g (some (c.epoch, c.seq)) then
      { l with holders := Tbl.set l.holders Holder.init (holderKey node tgt) { h with
          st := .inForce, cur := some g, wait := h.wait.filter fun w => grantNewer w (some (g.epoch, g.seq)) } }
    else l
  | none => l

/-- R103: the lease in force expires and no successor has started. Assumption log: 34 (DESIGN CHOICE). -/
def holderExpiry (node tgt hnow : Nat) (l : LeaseSt) : LeaseSt :=
  let h := Tbl.get l.holders Holder.init (holderKey node tgt)
  match h.cur with
  | some g =>
    if h.st = .inForce ∧ g.expiry ≤ hnow ∧ newestStarted hnow h.wait = none then
      { l with holders := Tbl.set l.holders Holder.init (holderKey node tgt) { h with
          st := .rundown, downAt := g.expiry + g.fall * ms, noneAt := g.expiry } }
    else l
  | none => l

/-- R103, R104: FALL_MS has elapsed in RUNDOWN; the current is held at zero. -/
def holderRundownEnd (node tgt hnow : Nat) (l : LeaseSt) : LeaseSt :=
  let h := Tbl.get l.holders Holder.init (holderKey node tgt)
  if h.st = .rundown ∧ h.downAt ≤ hnow then
    { l with holders := Tbl.set l.holders Holder.init (holderKey node tgt) { h with st := .noLease, cur := none } }
  else l

/-- R105: site time is no longer held: the lease in force counts as expired now. -/
def holderTimeLoss (node tgt hnow : Nat) (l : LeaseSt) : LeaseSt :=
  let h := Tbl.get l.holders Holder.init (holderKey node tgt)
  let h1 := { h with timeHeld := false }
  let h2 : Holder := match h.st, h.cur with
    | .inForce, some g => { h1 with st := .rundown, downAt := hnow + g.fall * ms, noneAt := hnow }
    | _, _ => h1
  { l with holders := Tbl.set l.holders Holder.init (holderKey node tgt) h2 }

/-- R106: after 1 s with no lease in force, EPOCH and SEQ are forgotten. Assumption log: 34 (DESIGN CHOICE). -/
def holderForget (node tgt hnow : Nat) (l : LeaseSt) : LeaseSt :=
  let h := Tbl.get l.holders Holder.init (holderKey node tgt)
  if h.st = .noLease ∧ h.noneAt + sec ≤ hnow then
    { l with holders := Tbl.set l.holders Holder.init (holderKey node tgt) { h with last := none } }
  else l

/-- R101: the power and current a holder may carry. -/
def Holder.limits (h : Holder) : Int × Int :=
  match h.st, h.cur with
  | .inForce, some g => (g.p, g.i)
  | _, _ => (0, 0)

end Sys2Proof.Machine
end

