-- ==== Sys2Proof/Machine/Sess.lean ====
section
/-! DEFINITION. Sys2Proof/Machine/Sess.lean: SESS, the sessions of the dispensers (chapter 07). Every function acts on the
pair of SESS's state and `Io`; `m` is the site model, which names each dispenser's head. -/
namespace Sys2Proof.Machine

/-- Q6 as SESS writes it (R315). -/
def q6 : Io.QDst := ⟨6, 6, Reg.SESS.Q6_DROP, 0x40200000, 5⟩

def sesOf (s : SessSt) (d : Nat) : Sess := Tbl.get s.disp Sess.init d
def headIn (s : SessSt) (d : Nat) : HeadIn := Tbl.get s.heads HeadIn.init d

/-- A dispenser's session changes. -/
def sUpd (d : Nat) (f : Sess → Sess) (t : SessSt × Io) : SessSt × Io :=
  ({ t.1 with disp := Tbl.upd t.1.disp Sess.init d f }, t.2)

/-- SESS acts: CTRL.EN is 1, and the unit is not STANDBY (R311). Assumption log: 67 (DEDUCED). -/
def sLive (io : Io) : Bool := io.flag Reg.SESS.CTRL 0 && io.active

/-- DCTL.EN of a dispenser. -/
def sEn (io : Io) (d : Nat) : Bool := io.flag (Reg.SESS.DCTL d) 31

/-- A session exists: PLUGGED to FAULT. -/
def Sess.on (x : Sess) : Bool := x.st != .idle

/-- PLUGGED to DISCHARGE. -/
def SState.runs (st : SState) : Bool := st != .idle && st != .ended && st != .fault

/-- CABLE_CHECK to DISCHARGE. -/
def SState.powered (st : SState) : Bool := st.runs && st != .plugged && st != .link && st != .setup

/-- A Q6 record (R315, R316). -/
def sRec (prio : Nat) (body : List Nat) (t : SessSt × Io) : SessSt × Io := (t.1, t.2.recN q6 0 35 prio body)

/-! Sending to a head (R271, R272, R276, R277). -/

/-- One VTUN message. -/
def vtunMsg (ch flags d fid txAt : Nat) (data : List Byte) : List Byte :=
  le 1 ch ++ le 1 flags ++ le 1 d ++ zeros 1 ++ le 2 data.length ++ le 2 fid ++ le 8 txAt ++ data

/-- A frame to a dispenser's head, split where it is longer than 1388 bytes. -/
def vtunSend (m : Tbl Byte) (ch d txAt : Nat) (data : List Byte) (t : SessSt × Io) : SessSt × Io :=
  let k := d * 8 + ch
  let fid := Tbl.get t.1.fid 0 k
  let s1 := { t.1 with fid := Tbl.set t.1.fid 0 k ((fid + 1) % 65536) }
  let hd := dispHead m d
  if data.length ≤ 1388 then (s1, t.2.send 5 0 false hd (vtunMsg ch 0 d fid txAt data))
  else (s1, (t.2.send 5 0 false hd (vtunMsg ch 1 d fid txAt (data.take 1388))).send 5 0 false hd
    (vtunMsg ch 2 d fid txAt (data.drop 1388)))

/-- A PILOT command (R276). Assumption log: 75 (DEDUCED). -/
def pilotCmd (m : Tbl Byte) (d duty lock : Nat) (t : SessSt × Io) : SessSt × Io :=
  vtunSend m 4 d 0 (le 2 duty ++ le 1 lock ++ zeros 5) (sUpd d (fun x => { x with duty := duty, lock := lock }) t)

/-- A CTL command (R277): OP, and target voltage and current limit for VOLT. While a CLOSE or OPEN is unanswered the
readback is not compared with it (R298). -/
def ctlCmd (m : Tbl Byte) (d op mv ma : Nat) (t : SessSt × Io) : SessSt × Io :=
  let id := Tbl.get t.1.cmdId 0 d
  let t1 : SessSt × Io := ({ t.1 with cmdId := Tbl.set t.1.cmdId 0 d ((id + 1) % 65536) }, t.2)
  let t2 := sUpd d (fun x => { x with ctl := x.ctl ++ [(id, op)], closed := if op ≤ 2 then none else x.closed }) t1
  vtunSend m 6 d 0 (le 1 op ++ zeros 1 ++ le 2 id ++ le 4 mv ++ le 4 ma ++ zeros 4) t2

/-- The answer to a vehicle, as values: protocol, request kind (1 SDP, 2 SAP, 3 cable check, 4 pre-charge, 5 energy start,
6 charge loop, 7 welding detection, 8 standby, 9 stop, 10 session end, 11 slow path, 12 connection), result (0 accepted,
1 the protocol's failure response, 2 its sequence error, 3 its session stop, 4 EVSE not ready), and what it reports.
Assumption log: 66 (DESIGN CHOICE). -/
def sResp (d kind result : Nat) (vals : List Nat) (t : SessSt × Io) : SessSt × Io :=
  let x := sesOf t.1 d
  let t1 := if x.ctx.isEmpty then t
    else sUpd d (fun y => { y with tcp := { y.tcp with recOut := y.tcp.recOut + 1 } }) t
  (t1.1, t1.2.drive "VEH_RESP" d ([x.proto, kind, result] ++ vals))

/-! Stored energy (R299, R300). -/

/-- E(c, dv), mJ. -/
def eMj (c dv : Nat) : Nat := (c * dv * dv + 1999999999999) / 2000000000000

/-- Capacitances in series, nF. -/
def ser (a b : Nat) : Nat := if a + b = 0 then 0 else (a * b + (a + b - 1)) / (a + b)

def absDiff (a b : Nat) : Nat := (a - b) + (b - a)

/-- R282: a dispenser's HEAD_STATUS is fresh. Assumption log: 68 (DEDUCED). -/
def headFresh (s : SessSt) (io : Io) (d : Nat) : Bool :=
  let h := headIn s d
  h.seen && h.timeHeld && decide (io.now ≤ h.meas + 4 * io.fld (Reg.SESS.DCTL d) 19 16 * ms)

/-- The Y-capacitance energy, mJ. -/
def yEnergy (io : Io) (d : Nat) (h : HeadIn) : Nat :=
  eMj (io.reg (Reg.SESS.C_Y d)).toNat (max h.vPpe.natAbs h.vNpe.natAbs)

/-- A gate of R300 for a report: the energy of its row, mJ, and whether every condition holds. Assumption log: 68 (DEDUCED), 79 (DEDUCED). -/
def gateEval (g : Nat) (io : Io) (d : Nat) (x : Sess) (h : HeadIn) : Nat × Bool :=
  let cOut := (io.reg (Reg.SESS.C_OUT d)).toNat
  let cCable := (io.reg (Reg.SESS.C_CABLE d)).toNat
  let cEv := (io.reg (Reg.SESS.C_EV_MAX d)).toNat
  let rel := io.fld (Reg.SESS.E_LIM d) 31 16
  let yOk := decide (yEnergy io d h ≤ io.fld (Reg.SESS.E_LIM d) 15 0)
  let safe := decide (h.vCable ≤ (io.reg (Reg.SESS.V_SAFE d)).toNat)
  match g with
  | 1 =>
    let e := eMj (ser cOut cCable) (absDiff h.vOut h.vCable)
    (e, safe && decide (e ≤ rel) && yOk)
  | 2 =>
    let e := eMj (ser (cOut + cCable) cEv) (absDiff h.vCable x.ev.preMv)
    (e, decide (e ≤ rel) && yOk)
  | _ =>
    let e := eMj cCable h.vCable
    (e, safe && decide (e ≤ io.fld (Reg.SESS.E_HOLD d) 31 16))

/-- A gate is evaluated from the latest fresh HEAD_STATUS and shown in DISP_WIN.GATE. Without a fresh report no condition
can be seen to hold. Assumption log: 79 (DEDUCED). -/
def gate (g d : Nat) (t : SessSt × Io) : (SessSt × Io) × Bool :=
  let r := if headFresh t.1 t.2 d then gateEval g t.2 d (sesOf t.1 d) (headIn t.1 d) else (0, false)
  let t1 := sUpd d (fun x => { x with gate := satU 16 r.1 * 65536 + g * 256 + b2n (!r.2), gateOk := r.2 }) t
  (if r.2 then t1 else (t1.1, t1.2.evt 0x40200000 4), r.2)

/-! Moving between states (R293, R313, R315, R316). -/

/-- The session enters a state: the STATE record and the event. Assumption log: 74 (DEDUCED). -/
def sGoto (d : Nat) (st : SState) (t : SessSt × Io) : SessSt × Io :=
  let prev := (sesOf t.1 d).st
  let t1 := sUpd d (fun x => { x with st := st, since := t.2.now, run := { x.run with resid := 0, y := 0 } }) t
  let t2 := sRec (if st = .fault then 0xC else 8)
    [0xB1 * 2 ^ 48 + d * 2 ^ 40 + st.code * 2 ^ 36 + prev.code * 2 ^ 28 + (sesOf t1.1 d).cause * 2 ^ 16] t1
  match st with
  | .plugged => (t2.1, t2.2.evt 0x40200000 0)
  | .energy => (t2.1, t2.2.evt 0x40200000 1)
  | .ended => (t2.1, t2.2.evt 0x40200000 2)
  | .fault => (t2.1, t2.2.evt 0x40200000 3)
  | _ => t2

/-- An ERROR record. Assumption log: 73 (DEDUCED). -/
def sError (d cause detail : Nat) (t : SessSt × Io) : SessSt × Io :=
  sRec 0xC [0xB4 * 2 ^ 48 + d * 2 ^ 40 + (sesOf t.1 d).st.code * 2 ^ 36 + cause * 2 ^ 24 + detail % 2 ^ 24] t

/-- The session moves to FAULT from PLUGGED to DISCHARGE: cause, STATE and ERROR, the 100 ms of FAULT; the contactors at
once where the pilot was lost. -/
def sFault (m : Tbl Byte) (d cause detail : Nat) (t : SessSt × Io) : SessSt × Io :=
  if (sesOf t.1 d).st.runs then
    let t1 := sUpd d (fun x => { x with
      cause := cause, openSent := cause == 3 || cause == 0xA, released := false, fwStop := false,
      tmr := { STimers.init with fault := some (t.2.now + 100 * ms) } }) t
    let t2 := sError d cause detail (sGoto d .fault t1)
    if cause = 3 then ctlCmd m d 2 0 0 t2 else t2
  else t

/-- The session moves to STOPPING (R293). -/
def sStop (d cause : Nat) (t : SessSt × Io) : SessSt × Io :=
  sGoto d .stopping (sUpd d (fun x => { x with
    cause := cause, openSent := false,
    tmr := { x.tmr with stop := some (t.2.now + t.2.fld (Reg.SESS.TMO2 d) 31 16 * ms) } }) t)

/-- The session ends (R293): LOCK 0, CTL DISCH_OFF, close_notify, ENERGY_EN cleared. -/
def sEnded (m : Tbl Byte) (d : Nat) (t : SessSt × Io) : SessSt × Io :=
  let x := sesOf t.1 d
  let t1 := ctlCmd m d 5 0 0 (pilotCmd m d x.duty 0 (sGoto d .ended t))
  let t2 : SessSt × Io := if x.ctx.isEmpty then t1 else (t1.1, t1.2.drive "CLOSE_NOTIFY" d x.ctx)
  sUpd d (fun y => { y with ctx := [], energyEn := false, tmr := STimers.init, slow := [] }) t2

/-- The session returns to IDLE. -/
def sIdle (d : Nat) (t : SessSt × Io) : SessSt × Io :=
  sUpd d (fun x => { x with ctx := [], tmr := STimers.init, slow := [], fwStop := false }) (sGoto d .idle t)

/-- A new session (R293): its start time; nothing that a vehicle said before belongs to it. Assumption log: 74 (DEDUCED), 75 (DEDUCED). -/
def sPlugged (m : Tbl Byte) (d : Nat) (t : SessSt × Io) : SessSt × Io :=
  let t1 := sGoto d .plugged (sUpd d (fun x => { x with
    start := t.2.now, proto := 0, slac := false, isoOk := false, openSent := false, dischSent := false,
    released := false, endRx := false, fwStop := false, closed := none, ctl := [], ev := EvVals.init, slow := [],
    run := SRuns.init, tcp := STcp.init, fastWin := 0,
    tmr := { STimers.init with link := some (t.2.now + t.2.fld (Reg.SESS.TMO0 d) 31 24 * sec) } }) t)
  if t.2.fld (Reg.SESS.DCTL d) 23 22 < 2 then pilotCmd m d 50 (sesOf t1.1 d).lock t1 else t1

/-- LINK is entered where the link condition of the dispenser's PHY holds (R293). Assumption log: 75 (DEDUCED). -/
def linkCheck (d : Nat) (t : SessSt × Io) : SessSt × Io :=
  let x := sesOf t.1 d
  let up := match t.2.fld (Reg.SESS.DCTL d) 23 22 with
    | 0 => x.slac && x.linkRb
    | 1 => x.linkRb
    | _ => x.slac
  if x.st == .plugged && up then
    sGoto d .link (sUpd d (fun y => { y with
      tmr := { y.tmr with link := none, setup := some (t.2.now + t.2.fld (Reg.SESS.TMO0 d) 23 16 * sec) } }) t)
  else t

/-- R276, R293: a PILOT report's 8 bytes. -/
def pilotReport (m : Tbl Byte) (d : Nat) (p : List Byte) (t : SessSt × Io) : SessSt × Io :=
  if sLive t.2 && sEn t.2 d then
    let t1 := sUpd d (fun x => { x with pilot := u8 p 0, lockRb := u8 p 4, linkRb := u8 p 6 % 2 == 1 }) t
    let st := (sesOf t1.1 d).st
    let a := u8 p 0 == 0
    if st == .idle && !a then linkCheck d (sPlugged m d t1)
    else if st == .plugged then linkCheck d t1
    else if st.powered && st != .discharge && (a || u8 p 0 == 4 || u8 p 0 == 5) then sFault m d 3 0 t1
    else if (st == .ended || st == .fault) && a then sIdle d t1
    else t1
  else t

/-- LINK_UP (R293): SLAC has matched, or the vehicle's first CAN handshake frame has come; on T1S the report's LINK says
it all. -/
def linkUpEvt (d : Nat) (t : SessSt × Io) : SessSt × Io :=
  if sLive t.2 && sEn t.2 d && (sesOf t.1 d).st == .plugged then
    linkCheck d (sUpd d (fun x => { x with slac := true }) t)
  else t

/-! Requests of the vehicle (R289 to R292, R296). -/

/-- A decoded request: SEQ_S starts again; after a firmware stop it gets the session-stop response (R296); one that the
state does not allow gets the sequence error (R292); otherwise `k` answers it. Assumption log: 69 (DEDUCED), 73 (DEDUCED). -/
def sReq (m : Tbl Byte) (d kind : Nat) (allowed : SState → Bool) (k : SessSt × Io → SessSt × Io) (t : SessSt × Io) :
    SessSt × Io :=
  let x := sesOf t.1 d
  if !(sLive t.2 && sEn t.2 d) || x.st == .idle then t
  else
    let t1 := sUpd d (fun y => { y with tcp := { y.tcp with recIn := y.tcp.recIn + b2n (!y.ctx.isEmpty) } })
      (t.1, t.2.count Reg.SESS.RX_MSG_CNT)
    if !x.st.runs then sResp d kind 2 [] t1
    else
      let t2 := sUpd d (fun y => { y with tmr := { y.tmr with
        seq := some (t.2.now + t.2.fld (Reg.SESS.TMO0 d) 15 8 * sec) } }) t1
      if x.fwStop then sFault m d 2 0 (sResp d kind 3 [] t2)
      else if allowed x.st then k t2
      else sFault m d 0x14 0 (sResp d kind 2 [] t2)

/-- The values that a message carries replace those before. -/
def EvVals.take (e : EvVals) (u : EvUpd) : EvVals :=
  { e with
    tgtMa := u.tgtMa.getD e.tgtMa, tgtMv := u.tgtMv.getD e.tgtMv, maxMa := u.maxMa.getD e.maxMa,
    maxMv := u.maxMv <|> e.maxMv, maxW := u.maxW <|> e.maxW, minW := u.minW.getD e.minW,
    maxDisW := u.maxDisW.getD e.maxDisW, dynamic := u.dynamic.getD e.dynamic, bpt := u.bpt.getD e.bpt }

/-- The protocols that a dispenser may offer (R266, R267): enabled in PROTO_EN and carried by its PHY. -/
def offered (io : Io) (d proto : Nat) : Bool :=
  let w := Reg.SESS.DCTL d
  let phy := io.fld w 23 22
  match proto with
  | 1 => io.flag w 24 && phy == 0
  | 2 => io.flag w 25 && phy == 0
  | 3 => (io.flag w 26 || io.flag w 27) && (phy == 0 || phy == 1)
  | 4 => io.flag w 28 && phy == 2
  | 5 => io.flag w 29 && phy == 2
  | _ => false

/-- R268: an SDP request. Assumption log: 72 (DEDUCED). -/
def sdpRequest (d : Nat) (tls : Bool) (t : SessSt × Io) : SessSt × Io :=
  if sLive t.2 && sEn t.2 d && (sesOf t.1 d).st.runs then
    if (if tls then offered t.2 d 3 else offered t.2 d 1 || offered t.2 d 2) then sResp d 1 0 [b2n tls] t else t
  else t

/-- R269: the permitted offer with the lowest Priority; an offer is a protocol and its Priority. Assumption log: 72 (DEDUCED). -/
def bestOffer (io : Io) (d : Nat) (tls : Bool) (l : List (Nat × Nat)) : Option Nat :=
  ((l.filter fun o => offered io d o.1 && (decide (3 < o.1) || (o.1 == 3) == tls)).foldl
    (fun (b : Option (Nat × Nat)) o => match b with
      | some c => if o.2 < c.2 then some o else some c
      | none => some o) none).map Prod.fst

/-- R269, R293: the supportedAppProtocol exchange, or the end of the CAN handshake with the system found. Assumption log: 72 (DEDUCED). -/
def sapRequest (m : Tbl Byte) (d : Nat) (offers : List (Nat × Nat)) (t : SessSt × Io) : SessSt × Io :=
  sReq m d 2 (fun st => st == .link) (fun t1 =>
    match bestOffer t1.2 d (!(sesOf t1.1 d).ctx.isEmpty) offers with
    | some p => sGoto d .setup (sResp d 2 0 [p] (sUpd d (fun x => { x with proto := p }) t1))
    | none => sResp d 2 1 [] t1) t

/-- The contexts in use (R284). Assumption log: 81 (DESIGN CHOICE). -/
def ctxUsed (s : SessSt) : List Nat := s.disp.flatMap fun e => e.2.ctx

/-- R270, R283, R284, R313: TLS as XCR sees it. A session holds at most two contexts; a third connection takes the place
of the older. Assumption log: 76 (DEDUCED). -/
def tlsEvent (m : Tbl Byte) (d : Nat) (e : TlsEv) (t : SessSt × Io) : SessSt × Io :=
  let x := sesOf t.1 d
  if !(sLive t.2 && sEn t.2 d && x.st.runs) then t
  else
    match e with
    | .oldVersion => (t.1, (t.2.count Reg.XCR.ALERT_CNT).drive "TLS_ALERT" d [70])
    | .hello =>
      let used := ctxUsed (sUpd d (fun y => { y with ctx := y.ctx.take 1 }) t).1
      if !t.2.flag Reg.XCR.CTRL 0 then (t.1, t.2.drive "TLS_REFUSED" d [])
      else
        match (List.range 512).find? fun c => !used.contains c with
        | none => (t.1, (((t.2.count Reg.XCR.CTX_FULL_CNT).count Reg.XCR.ALERT_CNT).evt 0x40210000 1).drive "TLS_ALERT" d [80])
        | some c =>
          let t1 := sUpd d (fun y => { y with ctx := c :: y.ctx.take 1 }) t
          (t1.1, (t1.2.count Reg.XCR.HS_CNT).drive "SERVER_HELLO" d [c, b2n (t.2.flag (Reg.SESS.DCTL d) 30)])
    | .failed a =>
      sFault m d 0xF a (t.1, (t.2.count Reg.XCR.HS_FAIL_CNT).evt 0x40210000 0)
    | .fatal a => sFault m d 0xF a t

/-- R287: a message that does not decode closes the connection. -/
def decodeFail (m : Tbl Byte) (d ofs : Nat) (t : SessSt × Io) : SessSt × Io :=
  let x := sesOf t.1 d
  let t1 : SessSt × Io := (t.1, (t.2.count Reg.SESS.DECODE_ERR_CNT).drive "CONN_CLOSE" d x.ctx)
  sFault m d 0xE ofs (sUpd d (fun y => { y with ctx := [] }) t1)

/-- The RX_MSG record and its event words. -/
def rxMsg (d : Nat) (redeliver : Bool) (proto : Nat) (r : SlowReq) (t : SessSt × Io) : SessSt × Io :=
  sRec 8 ([0xB0 * 2 ^ 48 + d * 2 ^ 40 + proto * 2 ^ 36 + b2n redeliver * 2 ^ 34 + r.code % 65536 * 2 ^ 16 + r.txn] ++ r.words) t

/-- R289: a slow-path request, allowed in SETUP, goes to firmware. `bad`: the offset at which decoding fails (R287). Assumption log: 69 (DEDUCED). -/
def slowRequest (m : Tbl Byte) (d code : Nat) (words : List Nat) (u : EvUpd) (bad : Option Nat) (t : SessSt × Io) :
    SessSt × Io :=
  match bad with
  | some o => if sLive t.2 && sEn t.2 d && (sesOf t.1 d).st.runs then decodeFail m d o (t.1, t.2.count Reg.SESS.RX_MSG_CNT) else t
  | none => sReq m d 11 (fun st => st == .setup) (fun t1 =>
      let txn := Tbl.get t1.1.txn 0 d
      let r : SlowReq := ⟨txn, code, words, t1.2.now + t1.2.fld Reg.SESS.CFG 23 16 * 10 * ms⟩
      let t2 : SessSt × Io := ({ t1.1 with txn := Tbl.set t1.1.txn 0 d ((txn + 1) % 65536) }, t1.2)
      let t3 := sUpd d (fun x => { x with slow := x.slow ++ [r], ev := x.ev.take u }) t2
      rxMsg d false (sesOf t3.1 d).proto r t3) t

/-- The insulation status that a response reports: ISO_KOHM against ISO_MIN (R288). -/
def isoStatus (t : SessSt × Io) (d : Nat) : Bool :=
  (headIn t.1 d).imd && decide (t.2.fld (Reg.SESS.E_HOLD d) 15 0 ≤ (headIn t.1 d).iso)

/-- R288: present voltage and current, maximum current and power from the newest grant `g` (I, P) capped by the outlet
maximum, insulation status. `cap`: the outlet maximum current, mA. Assumption log: 86 (DEDUCED). -/
def fastVals (d : Nat) (g : Int × Int) (cap : Nat) (t : SessSt × Io) : List Nat :=
  let h := headIn t.1 d
  [h.vCable, unS 32 h.iOut, min g.1.natAbs cap, g.2.natAbs, b2n (isoStatus t d)]

/-- The newest grant of a dispenser (I_CEIL_MA, P_CEIL_W) and the current of its outlet maximum by R45, as the session's
responses use them. -/
structure GrantView where
  i : Int
  p : Int
  cap : Nat
  deriving DecidableEq, Repr

def fastResp (d kind result : Nat) (g : GrantView) (t : SessSt × Io) : SessSt × Io :=
  sResp d kind result (fastVals d (g.i, g.p) g.cap t) t

/-- R293: a cable-check request. In CABLE_CHECK it repeats and is answered with the status. Assumption log: 70 (DEDUCED). -/
def cableRequest (m : Tbl Byte) (d : Nat) (u : EvUpd) (g : GrantView) (t : SessSt × Io) : SessSt × Io :=
  sReq m d 3 (fun st => st == .setup || st == .cableCheck) (fun t0 =>
    let t1 := sUpd d (fun x => { x with ev := x.ev.take u }) t0
    let x := sesOf t1.1 d
    if x.st == .cableCheck then fastResp d 3 0 g t1
    else if !x.energyEn then sFault m d 0x13 0 (sResp d 3 1 [] t1)
    else
      let r := gate 1 d t1
      if r.2 then
        let t2 := sGoto d .cableCheck (sUpd d (fun y => { y with
          isoOk := false, tmr := { y.tmr with
            setup := none, cable := some (t.2.now + t.2.fld (Reg.SESS.TMO0 d) 7 0 * sec) } }) r.1)
        fastResp d 3 0 g (ctlCmd m d 1 0 0 (pilotCmd m d (sesOf t2.1 d).duty 1 t2))
      else sFault m d 0xC 0 (sResp d 3 1 [] r.1)) t

/-- R293, R301: a pre-charge request with its target, mV. Assumption log: 70 (DEDUCED). -/
def prechargeRequest (m : Tbl Byte) (d tgt : Nat) (g : GrantView) (t : SessSt × Io) : SessSt × Io :=
  let ok := (sesOf t.1 d).isoOk
  sReq m d 4 (fun st => st == .precharge || (st == .cableCheck && ok)) (fun t1 =>
    let x := sesOf t1.1 d
    let ma := (t.2.reg (Reg.SESS.PRECHG_MA d)).toNat
    let set := sUpd d (fun y => { y with ev := { y.ev with preMv := tgt, tgtMv := tgt } })
    let t2 :=
      if x.st == .cableCheck then
        let a := sGoto d .precharge (sUpd d (fun y => { y with tmr := { y.tmr with
          cable := none, prechg := some (t.2.now + t.2.fld (Reg.SESS.TMO1 d) 31 16 * ms) } }) (set t1))
        ctlCmd m d 3 tgt ma (ctlCmd m d 7 0 0 a)
      else if x.ev.preMv = tgt then t1
      else ctlCmd m d 3 tgt ma (set t1)
    let r := gate 2 d t2
    fastResp d 4 (if r.2 then 0 else 4) g r.1) t

/-- R293, R302: an energy-start request. -/
def energyStart (m : Tbl Byte) (d : Nat) (t : SessSt × Io) : SessSt × Io :=
  sReq m d 5 (fun st => st == .precharge || st == .paused) (fun t1 =>
    let r := gate 2 d t1
    if r.2 then
      sResp d 5 0 [] (sGoto d .energy (sUpd d (fun y => { y with tmr := { y.tmr with
        prechg := none, loop := some (t.2.now + t.2.fld (Reg.SESS.TMO1 d) 15 0 * ms) } }) r.1))
    else sFault m d 0xC 0 (sResp d 5 1 [] r.1)) t

/-- R288, R292, R294: a repeating request without a row of its own. -/
def fastRequest (m : Tbl Byte) (d : Nat) (kind : FastKind) (u : EvUpd) (g : GrantView) (t : SessSt × Io) : SessSt × Io :=
  let allowed := fun (st : SState) => match kind with
    | .loop => st == .energy
    | .welding => st == .stopping || st == .discharge
    | .cyclic => st.runs && st != .plugged
  sReq m d (if kind = .welding then 7 else 6) allowed (fun t1 =>
    let t2 := sUpd d (fun x => { x with
      ev := x.ev.take u,
      tmr := if x.st == .energy then { x.tmr with loop := some (t.2.now + t.2.fld (Reg.SESS.TMO1 d) 15 0 * ms) } else x.tmr }) t1
    fastResp d (if kind = .welding then 7 else 6) 0 g t2) t

/-- R293: charge progress Standby, which only ISO 15118-20 has. -/
def chargeStandby (m : Tbl Byte) (d : Nat) (g : GrantView) (t : SessSt × Io) : SessSt × Io :=
  let p20 := (sesOf t.1 d).proto == 3
  sReq m d 8 (fun st => st == .energy && p20) (fun t1 =>
    fastResp d 8 0 g (sGoto d .paused (sUpd d (fun x => { x with tmr := { x.tmr with loop := none } }) t1))) t

/-- R293: a stop request. Assumption log: 71 (DEDUCED). -/
def stopRequest (m : Tbl Byte) (d : Nat) (t : SessSt × Io) : SessSt × Io :=
  sReq m d 9 (fun st => st == .energy || st == .paused) (fun t1 => sResp d 9 0 [] (sStop d 1 t1)) t

/-- R293, R304: the session end. It may come before gate 3 passes. Assumption log: 71 (DEDUCED). -/
def sessionEnd (m : Tbl Byte) (d : Nat) (t : SessSt × Io) : SessSt × Io :=
  sReq m d 10 (fun st => st == .stopping || st == .discharge) (fun t0 =>
    let t1 := sResp d 10 0 [] (sUpd d (fun x => { x with endRx := true }) t0)
    if (sesOf t1.1 d).st == .discharge then
      let r := gate 3 d t1
      if r.2 then sEnded m d r.1 else r.1
    else t1) t

/-! Firmware (R289 to R291, R296, R317, R318). -/

/-- A packet that Q7 does not take. Assumption log: 89 (DEDUCED). -/
def q7Reject (t : SessSt × Io) : SessSt × Io := (t.1, t.2.count Reg.SESS.Q7_REJ_CNT)

/-- R289, R291, R317, R318: a packet of Q7 other than a CMD: its first payload and its event words; `encodes`: they make a
valid message of the schema. Assumption log: 89 (DEDUCED). -/
def txMsg (first : Nat) (words : List Nat) (encodes : Bool) (t : SessSt × Io) : SessSt × Io :=
  let d := bitsN first 47 40
  let txn := bitsN first 15 0
  if !sLive t.2 then t
  else if bitsN first 55 48 != 0xC0 || bitsN first 39 32 != 0 then q7Reject t
  else if !((sesOf t.1 d).slow.any fun r => r.txn == txn) then q7Reject t
  else if encodes then
    sResp d 11 0 ([bitsN first 31 16] ++ words) (sUpd d (fun x => { x with slow := x.slow.filter fun r => r.txn != txn }) t)
  else sError d 0x10 0 t

/-- A CMD packet: `low` is its word's bits 31 to 0, of which bit 0 is FLOOR with ENERGY_EN; the rest are zero. Assumption log: 89 (DEDUCED). -/
def q7Cmd (low : Nat) (floor : Bool) (k : SessSt × Io → SessSt × Io) (t : SessSt × Io) : SessSt × Io :=
  if !sLive t.2 then t
  else if low % 2 ^ 32 ≤ b2n floor then k t else q7Reject t

/-- R317: CMD ENERGY_EN. -/
def cmdEnergyEn (d low : Nat) (t : SessSt × Io) : SessSt × Io :=
  q7Cmd low true (sUpd d fun x => { x with energyEn := true, floor := low % 2 == 1 }) t

/-- R317: CMD ENERGY_DIS. -/
def cmdEnergyDis (d low : Nat) (t : SessSt × Io) : SessSt × Io :=
  q7Cmd low false (sUpd d fun x => { x with energyEn := false, floor := false }) t

/-- R293, R296: CMD STOP. -/
def cmdStop (d low : Nat) (t : SessSt × Io) : SessSt × Io :=
  q7Cmd low false (fun t1 =>
    match (sesOf t1.1 d).st with
    | .energy | .paused => sStop d 2 t1
    | .plugged | .link | .setup | .cableCheck | .precharge => sUpd d (fun x => { x with fwStop := true }) t1
    | _ => t1) t

/-- R293: CMD RESET_FAULT with the lock open. -/
def cmdResetFault (d low : Nat) (t : SessSt × Io) : SessSt × Io :=
  q7Cmd low false (fun t1 =>
    if (sesOf t1.1 d).st == .fault && (sesOf t1.1 d).lockRb == 0 then sIdle d t1 else t1) t

/-- R290: the firmware deadline of a request has passed. -/
def fwTimeout (m : Tbl Byte) (d txn : Nat) (t : SessSt × Io) : SessSt × Io :=
  match (sesOf t.1 d).slow.find? fun r => r.txn == txn with
  | some r =>
    if sLive t.2 && decide (r.due ≤ t.2.now) then
      sFault m d 0x10 0 (sResp d 11 1 [] (sUpd d (fun x => { x with slow := x.slow.filter fun q => q.txn != txn }) t))
    else t
  | none => t

/-! Timers (R294, R293). -/

/-- The deadline of timer `n` in the order of the table of R294 (8: the 100 ms of FAULT), where it runs in the present
state, and its cause. -/
def Sess.timer (x : Sess) (n : Nat) : Option (Nat × Nat) :=
  let on := fun (b : Bool) (t : Option Nat) (c : Nat) => if b then t.map fun v => (v, c) else none
  match n with
  | 0 => on (x.st == .plugged) x.tmr.link 4
  | 1 => on (x.st == .link || x.st == .setup) x.tmr.setup 5
  | 2 => on (x.st.runs && x.st != .plugged && x.st != .energy) x.tmr.seq 6
  | 3 => on (x.st == .energy) x.tmr.loop 7
  | 4 => on (x.st == .cableCheck) x.tmr.cable 8
  | 5 => on (x.st == .precharge) x.tmr.prechg 9
  | 6 => on (x.st == .stopping && !x.openSent) x.tmr.stop 0xA
  | 7 => on (x.st == .discharge) x.tmr.disch 0xB
  | 8 => on (x.st == .fault) x.tmr.fault 0
  | _ => none

/-- FAULT with closed contactors: CTL OPEN, once. Assumption log: 77 (DEDUCED). -/
def faultOpen (m : Tbl Byte) (d : Nat) (t : SessSt × Io) : SessSt × Io :=
  let h := headIn t.1 d
  if (sesOf t.1 d).openSent || !(h.pos || h.neg) then t
  else ctlCmd m d 2 0 0 (sUpd d (fun x => { x with openSent := true }) t)

/-- R294: timer `n` of a dispenser expires. Assumption log: 67 (DEDUCED). -/
def sessTimeout (m : Tbl Byte) (d n : Nat) (t : SessSt × Io) : SessSt × Io :=
  match (sesOf t.1 d).timer n with
  | some (due, cause) =>
    if sLive t.2 && decide (due ≤ t.2.now) then
      if n = 8 then faultOpen m d t
      else sFault m d cause 0 (if n = 6 then ctlCmd m d 2 0 0 t else t)
    else t
  | none => t

/-- R315: a FAST record in ENERGY, once in each window of FAST_REPORT_MS. -/
def fastReport (d : Nat) (t : SessSt × Io) : SessSt × Io :=
  let x := sesOf t.1 d
  let p := t.2.fld Reg.SESS.CFG 31 24
  if sLive t.2 && x.st == .energy && p != 0 && decide (x.fastWin ≤ t.2.now / (p * ms)) then
    sRec 4 [0xB3 * 2 ^ 48 + d * 2 ^ 40 + unS 32 x.ev.tgtMa, x.ev.tgtMv % 2 ^ 32]
      (sUpd d (fun y => { y with fastWin := t.2.now / (p * ms) + 1 }) t)
  else t

/-! Head reports (R280 to R282, R293, R297, R298, R303, R304). -/

/-- The payload of HEAD_STATUS. -/
def parseHead (now : Nat) (p : List Byte) : HeadIn :=
  let b := fun (o i : Nat) => bitsN (u8 p o) i i == 1
  ⟨true, b 1 0, b 1 1, b 1 2, b 1 3, b 2 0, b 2 1, b 2 2, bitsN (u8 p 3) 2 0, bitsN (u8 p 3) 4 3, u64 p 4, s32 p 12,
   u32 p 16, u32 p 20, s16 p 24 * 100, s16 p 26 * 100, s32 p 28, u32 p 32, u32 p 36, now⟩

/-- The layout of R280. -/
def headLayout (p : List Byte) : Bool :=
  p.length == 48 && decide (u8 p 1 < 16) && decide (u8 p 2 < 8) && decide (u8 p 3 < 32) && decide (bitsN (u8 p 3) 2 0 < 6)
    && (p.drop 40).all fun b => b == 0

/-- The head's report is stored. -/
def headStore (d : Nat) (h : HeadIn) (s : SessSt) : SessSt := { s with heads := Tbl.set s.heads HeadIn.init d h }

/-- R298: readback against the last CLOSE or OPEN, on two reports. Assumption log: 78 (DEDUCED). -/
def contactCheck (m : Tbl Byte) (d : Nat) (h : HeadIn) (t : SessSt × Io) : SessSt × Io :=
  let x := sesOf t.1 d
  let bad := match x.closed with
    | some true => !(h.pos && h.neg)
    | some false => h.pos || h.neg
    | none => false
  let n := if bad then x.run.contra + 1 else 0
  let t1 := sUpd d (fun y => { y with run := { y.run with contra := n } }) t
  if 2 ≤ n then sFault m d 0x11 x.run.id t1 else t1

/-- One of two consecutive reports at residual current, with what the second does. -/
def residRun (d : Nat) (low : Bool) (k : SessSt × Io → SessSt × Io) (t : SessSt × Io) : SessSt × Io :=
  let n := if low then (sesOf t.1 d).run.resid + 1 else 0
  let t1 := sUpd d (fun y => { y with run := { y.run with resid := n } }) t
  if 2 ≤ n then k t1 else t1

/-- What a fresh report does in the present state. Assumption log: 77 (DEDUCED). -/
def headAct (m : Tbl Byte) (d : Nat) (h : HeadIn) (t : SessSt × Io) : SessSt × Io :=
  let x := sesOf t.1 d
  let low := decide (h.iOut.natAbs ≤ (t.2.reg Reg.LEASE.RESID).toNat)
  match x.st with
  | .cableCheck =>
    if h.imd && decide (t.2.fld (Reg.SESS.E_HOLD d) 15 0 ≤ h.iso) then sUpd d (fun y => { y with isoOk := true }) t else t
  | .precharge | .paused => (gate 2 d t).1
  | .energy =>
    let n := if t.2.fld (Reg.SESS.E_LIM d) 15 0 < yEnergy t.2 d h then x.run.y + 1 else 0
    let t1 := sUpd d (fun y => { y with run := { y.run with y := n } }) t
    if 3 ≤ n then sStop d 0x12 t1 else t1
  | .stopping =>
    if x.openSent then t
    else residRun d low (fun t1 => ctlCmd m d 2 0 0 (sUpd d (fun y => { y with openSent := true }) t1)) t
  | .discharge =>
    let r := gate 3 d t
    if r.2 then
      let t1 := sUpd d (fun y => { y with tmr := { y.tmr with disch := none } }) r.1
      if x.endRx then sEnded m d t1 else t1
    else r.1
  | .fault =>
    let r := gate 3 d t
    if h.pos || h.neg then
      if ((x.tmr.fault).getD t.2.now) ≤ t.2.now then faultOpen m d r.1 else residRun d low (faultOpen m d) r.1
    else if r.2 && !x.released then
      ctlCmd m d 5 0 0 (pilotCmd m d x.duty 0 (sUpd d (fun y => { y with released := true }) r.1))
    else r.1
  | _ => t

/-- A report reaches SESS: stale at once where its TIME_HELD is 0 (R282, R297). -/
def sessHead (m : Tbl Byte) (d : Nat) (t : SessSt × Io) : SessSt × Io :=
  if sLive t.2 && sEn t.2 d then
    if headFresh t.1 t.2 d then
      let t1 := contactCheck m d (headIn t.1 d) t
      headAct m d (headIn t1.1 d) t1
    else if (sesOf t.1 d).st.powered then sFault m d 0xD 0 t
    else t
  else t

/-- R297: no fresh report from CABLE_CHECK to DISCHARGE. -/
def headStale (m : Tbl Byte) (d : Nat) (t : SessSt × Io) : SessSt × Io :=
  if sLive t.2 && sEn t.2 d && (sesOf t.1 d).st.powered && !headFresh t.1 t.2 d then sFault m d 0xD 0 t else t

/-- R277, R293: the head answers a CTL command; `p` is the 16-byte response. Assumption log: 78 (DEDUCED). -/
def ctlResponse (m : Tbl Byte) (d : Nat) (p : List Byte) (t : SessSt × Io) : SessSt × Io :=
  let id := u16 p 2
  let x := sesOf t.1 d
  if sLive t.2 && sEn t.2 d then
    match x.ctl.find? fun c => c.1 == id && c.2 == u8 p 0 with
    | some (_, op) =>
      let pos := bitsN (u32 p 4) 0 0 == 1
      let neg := bitsN (u32 p 4) 1 1 == 1
      let t1 := sUpd d (fun y => { y with
        ctl := y.ctl.filter fun c => c.1 != id,
        closed := if op = 1 then some true else if op = 2 then some false else y.closed,
        run := if op ≤ 2 then { y.run with contra := 0, id := id } else y.run }) t
      if op = 1 && x.st == .cableCheck && pos && neg then
        let vmax := (t.2.reg (Reg.SESS.V_MAX d)).toNat
        ctlCmd m d 6 0 0 (ctlCmd m d 3 (min vmax (x.ev.maxMv.getD vmax)) (t.2.reg (Reg.SESS.PRECHG_MA d)).toNat t1)
      else if op = 2 && !pos && !neg && x.st == .stopping then
        ctlCmd m d 4 0 0 (sGoto d .discharge (sUpd d (fun y => { y with
          dischSent := true, tmr := { y.tmr with
            stop := none, disch := some (t.2.now + t.2.fld (Reg.SESS.TMO2 d) 15 0 * ms) } }) t1))
      else if op = 2 && !pos && !neg && x.st == .fault && !x.dischSent then
        ctlCmd m d 4 0 0 (sUpd d (fun y => { y with dischSent := true }) t1)
      else t1
    | none => t
  else t

/-! The tunnel from the heads (R271, R272, R275). -/

/-- The checks on a VTUN payload: issued channel and flags, zero fields, LEN, and the dispenser's head is the sender. -/
def vtunOk (m : Tbl Byte) (src : Nat) (p : List Byte) : Bool :=
  decide (16 ≤ p.length) && decide (1 ≤ u8 p 0) && decide (u8 p 0 ≤ 6) && decide (u8 p 1 < 8) && u8 p 1 % 4 != 3
    && u8 p 3 == 0 && decide (u16 p 4 ≤ 1388) && p.length == 16 + u16 p 4
    && decide (u8 p 2 < nDisp m) && dispHead m (u8 p 2) == src

def vtunReject (t : SessSt × Io) : SessSt × Io := (t.1, t.2.count Reg.SESS.VTUN_REJ_CNT)

/-- A whole VTUN message of channel `ch`: `k` gets the dispenser and DATA; another or a bad message is rejected. While
CTRL.EN is 0 VTUN is ignored. Assumption log: 88 (DEDUCED). -/
def vtunIn (m : Tbl Byte) (src ch len : Nat) (p : List Byte) (k : Nat → List Byte → SessSt × Io → SessSt × Io)
    (t : SessSt × Io) : SessSt × Io :=
  if !t.2.flag Reg.SESS.CTRL 0 then t
  else if vtunOk m src p && u8 p 0 == ch && u8 p 1 % 4 == 0 && u16 p 4 == len then k (u8 p 2) (p.drop 16) t
  else vtunReject t

/-- The CAN records of a frame (R275): for each CAN_RX in Q6, three words. -/
def canRecs (d : Nat) : Nat → List Byte → SessSt × Io → SessSt × Io
  | 0, _, t => t
  | n + 1, bs, t =>
    if bs.length < 16 then t
    else
      let t1 := sRec 4 [0xB2 * 2 ^ 48 + d * 2 ^ 40 + (sesOf t.1 d).proto * 2 ^ 36 + u32 bs 0, leN bs 8 7,
        u8 bs 4 * 2 ^ 48 + u8 bs 15] t
      canRecs d n (bs.drop 16) t1

/-- A complete vehicle frame. CAN records go to Q6; an Ethernet frame goes to the stacks above, whose decoded requests
are rows of their own; `tcp`: the bytes of in-order TCP data it carries (R308). Assumption log: 88 (DEDUCED). -/
def vehFrame (d ch tcp : Nat) (bs : List Byte) (t : SessSt × Io) : SessSt × Io :=
  if ch = 3 then (if sLive t.2 && sEn t.2 d then canRecs d 32 bs t else t)
  else sUpd d (fun x => if x.on then { x with tcp := { x.tcp with rx := x.tcp.rx + tcp } } else x) t

/-- R264, R271, R272: a VTUN message with a vehicle frame. -/
def vehicleFrame (m : Tbl Byte) (src tcp : Nat) (p : List Byte) (t : SessSt × Io) : SessSt × Io :=
  if !sLive t.2 then t
  else if vtunOk m src p && decide (u8 p 0 ≤ 3) then
    let d := u8 p 2
    let key := (d * 8 + u8 p 0) * 65536 + u16 p 6
    let bs := p.drop 16
    match u8 p 1 % 4 with
    | 0 => vehFrame d (u8 p 0) tcp bs t
    | 1 => ({ t.1 with frags := Tbl.set t.1.frags none key (some ⟨bs, t.2.now⟩) }, t.2)
    | _ =>
      match Tbl.get t.1.frags none key with
      | some f =>
        let t1 : SessSt × Io := ({ t.1 with frags := Tbl.set t.1.frags none key none }, t.2)
        if t.2.now ≤ f.since + 2 * ms then vehFrame d (u8 p 0) tcp (f.bytes ++ bs) t1
        else (t1.1, t1.2.count Reg.SESS.FRAG_DROP_CNT)
      | none => t
  else vtunReject t

/-- R272: a first fragment of a dispenser, channel and FRAME_ID has waited 2 ms. -/
def fragTimeout (d ch fid : Nat) (t : SessSt × Io) : SessSt × Io :=
  let key := (d * 8 + ch) * 65536 + fid % 65536
  match Tbl.get t.1.frags none key with
  | some f =>
    if f.since + 2 * ms ≤ t.2.now then
      ({ t.1 with frags := Tbl.set t.1.frags none key none }, t.2.count Reg.SESS.FRAG_DROP_CNT)
    else t
  | none => t

/-! Step 3 of a tick, the end of a tick, takeover (R305 to R310, R313). -/

/-- A current at the dispenser's voltage in watts, by R45. Assumption log: 86 (DEDUCED). -/
def toWatts (i : Int) (mv : Nat) : Int := tdiv (i * (max mv 50000 : Nat)) 1000000

/-- The record of R305 for a session: the three values. A charging target below zero without bidirectional service is
in no row: its record is free values. Assumption log: 83 (DESIGN CHOICE). -/
def pubVals (io : Io) (d : Nat) (x : Sess) (h : HeadIn) : Int × Int × Int :=
  let big : Int := 0x7FFFFFFF
  let e := x.ev
  let wMax : Int := (e.maxW.map Int.ofNat).getD big
  let bpt := e.bpt && io.flag (Reg.SESS.DCTL d) 27 && x.proto == 3
  match x.st with
  | .cableCheck | .precharge => ((io.reg (Reg.SESS.PRECHG_MA d)).toNat, big, 0)
  | .energy =>
    if x.proto == 3 && e.dynamic then (e.maxMa, wMax, if bpt then -(e.maxDisW : Int) else 0)
    else if 0 ≤ e.tgtMa then (e.tgtMa, wMax, if x.floor then min (e.minW : Int) (toWatts e.tgtMa h.vCable) else 0)
    else if bpt then (e.tgtMa, -(e.maxDisW : Int), -(e.maxDisW : Int))
    else (Config.freeInt io.free, Config.freeInt (io.free + 1), Config.freeInt (io.free + 2))
  | _ => (0, 0, 0)

/-- Whether `pubVals` uses free values. -/
def pubFree (io : Io) (d : Nat) (x : Sess) : Bool :=
  x.st == .energy && !(x.proto == 3 && x.ev.dynamic) && decide (x.ev.tgtMa < 0)
    && !(x.ev.bpt && io.flag (Reg.SESS.DCTL d) 27 && x.proto == 3)

/-- Step 3 for one dispenser; `bad`: its residue check failed (RESIDUE of R313). -/
def publishOne (m : Tbl Byte) (bad : Bool) (d : Nat) (t : SessSt × Io) : SessSt × Io :=
  if bad then
    sFault m d 0x15 0 (t.1, (t.2.evt 0x40200000 6).errRec .sess 0 ⟨4, 0, 0, 0, 0x40200000, d, t.2.now⟩)
  else
    let x := sesOf t.1 d
    let v := pubVals t.2 d x (headIn t.1 d)
    let io1 : Io := if pubFree t.2 d x then { t.2 with free := t.2.free + 3 } else t.2
    ({ t.1 with pub := Tbl.set t.1.pub none d (some ⟨v.1, v.2.1, v.2.2, x.on, x.start, t.2.now⟩) }, io1)

/-- Step 3: every dispenser's record (R305, R306). -/
def publish (m : Tbl Byte) (residue : List Nat) (t : SessSt × Io) : SessSt × Io :=
  if t.2.flag Reg.SESS.CTRL 0 then
    (List.range (nDisp m)).foldl (fun (u : SessSt × Io) d => if sEn u.2 d then publishOne m (residue.contains d) d u else u) t
  else t

/-- R308: the tick has completed; TCP data that its mirror step carried is acknowledged. Assumption log: 66 (DESIGN CHOICE). -/
def tcpAck (t : SessSt × Io) : SessSt × Io :=
  if sLive t.2 then
    (t.1.disp.filter fun e => decide (e.2.tcp.ack < e.2.tcp.rx)).foldl (fun (u : SessSt × Io) e =>
      let v := sUpd e.1 (fun x => { x with tcp := { x.tcp with ack := x.tcp.rx } }) u
      (v.1, v.2.drive "TCP_ACK" e.1 [e.2.tcp.rx])) t
  else t

/-- R310: after a takeover every unanswered slow-path request goes to Q6 again. -/
def sessTakeover (t : SessSt × Io) : SessSt × Io :=
  t.1.disp.foldl (fun (u : SessSt × Io) e => e.2.slow.foldl (fun (v : SessSt × Io) r => rxMsg e.1 true e.2.proto r v) u) t

/-- R312: sessions, records, contexts and certificate stores are gone; the heads and what they do stay. -/
def sessReset (s : SessSt) : SessSt := { SessSt.init with head := s.head }

/-- Dispensers with a session. -/
def sessNum (s : SessSt) : Nat := (s.disp.filter fun e => e.2.on).length

/-- SSTAT. -/
def sstat (x : Sess) (h : HeadIn) : Nat :=
  x.st.code * 2 ^ 28 + x.proto * 2 ^ 24 + x.cause * 2 ^ 16 + x.pilot % 8 * 2 ^ 13 + b2n (x.lockRb == 1) * 2 ^ 12
    + b2n (h.pos && h.neg) * 2 ^ 11 + b2n h.disch * 2 ^ 10 + b2n (!x.ctx.isEmpty) * 2 ^ 9 + b2n x.energyEn * 2 ^ 8
    + b2n x.gateOk * 2 ^ 7

/-- What the registers of SESS and XCR show. -/
def sessView (s : SessSt) (io : Io) (k : Nat) : Option Word :=
  let a := k % 0x10000000000
  let d := k / 0x10000000000 - 1
  let x := sesOf s d
  let pub := fun (i : Nat) => (Tbl.get s.pub none i).getD ⟨0, 0, 0, false, 0, 0⟩
  if 0x10000000000 ≤ k then
    match a with
    | 0x40200140 => some (w32 (sstat x (headIn s d)))
    | 0x40200144 => some (wS x.ev.tgtMa)
    | 0x40200148 => some (w32 x.ev.tgtMv)
    | 0x4020014C => some (w32 x.ev.maxMa)
    | 0x40200150 => some (w32 (x.ev.maxW.getD 0))
    | 0x40200154 => some (w32 x.ev.maxDisW)
    | 0x40200158 => some (w32 x.gate)
    | 0x4020015C => some (w32 x.start)
    | 0x40200160 => some (w32 (x.start / 2 ^ 32))
    | 0x40200164 => some (w32 (match x.ctx with
        | c :: _ => 2 ^ 31 + c
        | [] => 0))
    | _ => none
  else if a = Reg.SESS.STAT then some (w32 (sessNum s * 65536 + b2n (!io.active) * 2 + (io.reg a).toNat % 2))
  else if a = Reg.XCR.STAT then some (w32 (ctxUsed s).length)
  else if 0x40201000 ≤ a ∧ a < 0x40201400 then some (wS (sat32 (pub ((a - 0x40201000) / 4)).ma))
  else if 0x40201400 ≤ a ∧ a < 0x40201800 then some (wS (sat32 (pub ((a - 0x40201400) / 4)).w))
  else if 0x40201800 ≤ a ∧ a < 0x40201C00 then some (wS (sat32 (pub ((a - 0x40201800) / 4)).lo))
  else none

/-! Certificates (R283). -/

/-- The store that CERT_SEL names. -/
def certStore (io : Io) : Nat :=
  match io.fld Reg.XCR.CERT_SEL 31 30 with
  | 0 => 0
  | 1 => 1
  | _ => 2 + io.fld Reg.XCR.CERT_SEL 15 12

/-- A write of CERT_DATA: four bytes, and the address advances. -/
def certData (who : Who) (v : Word) (s : SessSt) (io : Io) : SessSt × Io :=
  if mayWrite who Reg.XCR.CERT_DATA then
    let put := fun (t : Tbl Byte) (i : Nat) => Tbl.set t 0 (s.xcr.addr + i) (BitVec.ofNat 8 (v.toNat / 256 ^ i))
    ({ s with xcr := { s.xcr with stage := [0, 1, 2, 3].foldl put s.xcr.stage, addr := s.xcr.addr + 4 } },
     io.setReg Reg.XCR.CERT_DATA v)
  else (s, io.accessAt 1 who Reg.XCR.CERT_DATA v.toNat)

/-- A write of CERT_SEL that names a store starts its address at 0. Assumption log: 84 (DEDUCED). -/
def certSel (s : SessSt) : SessSt := { s with xcr := { s.xcr with addr := 0, stage := [] } }

/-- The staged bytes from 0 to n - 1. -/
def certBytes (t : Tbl Byte) (n : Nat) : List Byte := (List.range n).map fun i => Tbl.get t 0 i

/-- A write of CERT_CTL with COMMIT: the staged store is parsed (`parses`) and taken into use, or REJ is set. Assumption log: 84 (DEDUCED). -/
def certCommit (ok : Guard → Bool) (who : Who) (v : Word) (parses : Bool) (s : SessSt) (io : Io) : SessSt × Io :=
  let io1 := io.write ok who Reg.XCR.CERT_CTL v
  if mayWrite who Reg.XCR.CERT_CTL && bit v 0 then
    let n := bits v 31 16
    if parses && decide (n ≤ if certStore io < 2 then 8192 else 2048) then
      ({ s with xcr := { s.xcr with stores := Tbl.set s.xcr.stores [] (certStore io) (certBytes s.xcr.stage n) } },
       io1.setFlag Reg.XCR.CERT_CTL 1 false)
    else (s, (io1.setFlag Reg.XCR.CERT_CTL 1 true).evt 0x40210000 2)
  else (s, io1)

end Sys2Proof.Machine
end

