-- ==== Sys2Proof/Machine/Head.lean ====
section
/-! DEFINITION. Sys2Proof/Machine/Head.lean: the dispenser heads (R264, R265, R271 to R279). `hnow` is the head's own site
time. What a head does on the vehicle side, and what it answers, is driven outward. -/
namespace Sys2Proof.Machine

def headOf (s : SessSt) (d : Nat) : HeadSt := Tbl.get s.head HeadSt.init d

def headPut (d : Nat) (h : HeadSt) (t : SessSt × Io) : SessSt × Io :=
  ({ t.1 with head := Tbl.set t.1.head HeadSt.init d h }, t.2)

/-- A VTUN message from the part has come. -/
def HeadSt.heard (h : HeadSt) (hnow : Nat) : HeadSt := { h with lastVtun := hnow, lost := false, lowSince := none }

/-- R276: a PILOT command. -/
def headPilot (d hnow duty lock lines : Nat) (t : SessSt × Io) : SessSt × Io :=
  let h := (headOf t.1 d).heard hnow
  let t1 := headPut d { h with duty := duty, lock := lock, lines := lines } t
  (t1.1, t1.2.drive "HEAD_PILOT" d [duty, lock, lines])

/-- The readback word of a CTL response (R277). -/
def HeadSt.readback (h : HeadSt) : Nat := 3 * b2n h.closed + 4 * b2n h.disch + 8 * b2n h.iso

/-- The head answers a CTL command: OP, RESULT, CMD_ID, readback. -/
def headAnswer (d op result id : Nat) (t : SessSt × Io) : SessSt × Io :=
  (t.1, t.2.drive "HEAD_CTL" d [op, result, id % 65536, (headOf t.1 d).readback])

/-- R265: CTL CLOSE. The coil needs Gauntlet's output pair too: `coil` says that it is supplied. Without it the contactors
stay open, and RESULT, REFUSED or FAULT, is a free value. Assumption log: 85 (DESIGN CHOICE). -/
def headClose (d hnow id : Nat) (coil : Bool) (t : SessSt × Io) : SessSt × Io :=
  let h := (headOf t.1 d).heard hnow
  if coil then headAnswer d 1 0 id (headPut d { h with closed := true } t)
  else
    let f := t.2.fresh
    headAnswer d 1 (1 + Config.freeNat f.1 % 2) id (headPut d h (t.1, f.2))

/-- R265: CTL OPEN. -/
def headOpen (d hnow id : Nat) (t : SessSt × Io) : SessSt × Io :=
  headAnswer d 2 0 id (headPut d { (headOf t.1 d).heard hnow with closed := false } t)

/-- R277, R278: CTL VOLT, target mV and limit mA. Assumption log: 80 (DEDUCED). -/
def headVolt (d hnow id mv ma : Nat) (t : SessSt × Io) : SessSt × Io :=
  headAnswer d 3 0 id (headPut d { (headOf t.1 d).heard hnow with volt := some (mv, ma) } t)

/-- R278: the largest magnitude of current a head may deliver: within the VOLT command's limit and the lease in force.
Assumption log: 80 (DEDUCED). -/
def headLimit (h : HeadSt) (l : Holder) : Nat :=
  if l.st = .inForce then
    match h.volt, l.cur with
    | some (_, ma), some g => min ma g.i.natAbs
    | _, _ => 0
  else 0

/-- CTL DISCH_ON and DISCH_OFF. -/
def headDisch (on : Bool) (d hnow id : Nat) (t : SessSt × Io) : SessSt × Io :=
  headAnswer d (if on then 4 else 5) 0 id (headPut d { (headOf t.1 d).heard hnow with disch := on } t)

/-- CTL ISO_START and ISO_STOP. -/
def headIso (on : Bool) (d hnow id : Nat) (t : SessSt × Io) : SessSt × Io :=
  headAnswer d (if on then 6 else 7) 0 id (headPut d { (headOf t.1 d).heard hnow with iso := on } t)

/-- R265: the coil supply of a dispenser is removed. -/
def headCoilLost (d : Nat) (s : SessSt) : SessSt :=
  if (headOf s d).closed then { s with head := Tbl.set s.head HeadSt.init d { headOf s d with closed := false } } else s

/-- The frames a head sends now, in order: on each channel none before one that still waits (R273). -/
def headDue (hnow : Nat) : List HeadTx → List Nat → List HeadTx × List HeadTx
  | [], _ => ([], [])
  | f :: r, blocked =>
    if blocked.contains f.ch || decide (hnow < f.txAt) then
      let x := headDue hnow r (f.ch :: blocked)
      (x.1, f :: x.2)
    else
      let x := headDue hnow r blocked
      (f :: x.1, x.2)

/-- R273: the head transmits every frame that is due. -/
def headTransmit (d hnow : Nat) (t : SessSt × Io) : SessSt × Io :=
  let h := headOf t.1 d
  let x := headDue hnow h.tx []
  let t1 := headPut d { h with tx := x.2 } t
  (t1.1, x.1.foldl (fun (io : Io) (f : HeadTx) => io.drive "VEHICLE" d (f.ch :: f.bytes.map fun b => b.toNat)) t1.2)

/-- A complete frame for a channel of the head: vehicle channels transmit or wait, PILOT and CTL act, HMI is shown. -/
def headFrame (d hnow ch txAt : Nat) (coil : Bool) (bs : List Byte) (t : SessSt × Io) : SessSt × Io :=
  match ch with
  | 4 => headPilot d hnow (u16 bs 0) (u8 bs 2) (u8 bs 3) t
  | 5 => (t.1, t.2.drive "HMI" d (bs.map fun b => b.toNat))
  | 6 =>
    (match u8 bs 0 with
     | 1 => headClose d hnow (u16 bs 2) coil t
     | 2 => headOpen d hnow (u16 bs 2) t
     | 3 => headVolt d hnow (u16 bs 2) (u32 bs 4) (u32 bs 8) t
     | 4 => headDisch true d hnow (u16 bs 2) t
     | 5 => headDisch false d hnow (u16 bs 2) t
     | 6 => headIso true d hnow (u16 bs 2) t
     | 7 => headIso false d hnow (u16 bs 2) t
     | _ => t)
  | _ =>
    let h := headOf t.1 d
    headTransmit d hnow (headPut d { h with tx := h.tx ++ [⟨ch, txAt, bs⟩] } t)

/-- R272, R273: a VTUN message from the part reaches the head. -/
def vtunToHead (hnow : Nat) (coil : Bool) (p : List Byte) (t : SessSt × Io) : SessSt × Io :=
  let d := u8 p 2
  let bs := p.drop 16
  let key := u8 p 0 * 65536 + u16 p 6
  if p.length == 16 + u16 p 4 && decide (u16 p 4 ≤ 1388) && decide (1 ≤ u8 p 0) && decide (u8 p 0 ≤ 6) then
    let t0 := headPut d ((headOf t.1 d).heard hnow) t
    let h := headOf t0.1 d
    match u8 p 1 % 4 with
    | 0 => headFrame d hnow (u8 p 0) (u64 p 8) coil bs t0
    | 1 => headPut d { h with frag := Tbl.set h.frag none key (some ⟨bs, hnow⟩) } t0
    | 2 =>
      match Tbl.get h.frag none key with
      | some f =>
        let t1 := headPut d { h with frag := Tbl.set h.frag none key none } t0
        if hnow ≤ f.since + 2 * ms then headFrame d hnow (u8 p 0) (u64 p 8) coil (f.bytes ++ bs) t1 else t1
      | none => t0
    | _ => t0
  else t

/-- R279: no lease in force and no VTUN message for 2 s. The head opens, discharges and sets the pilot steady; once the
cable side has been at or below 60 000 mV (`low`) for 100 ms it unlocks. -/
def headControlLoss (d hnow : Nat) (low : Bool) (l : Holder) (t : SessSt × Io) : SessSt × Io :=
  let h := headOf t.1 d
  if h.lost then
    if low then
      match h.lowSince with
      | none => headPut d { h with lowSince := some hnow } t
      | some s => if s + 100 * ms ≤ hnow then headPut d { h with lock := 0 } t else t
    else headPut d { h with lowSince := none } t
  else if l.st != .inForce && decide (l.noneAt + 2 * sec ≤ hnow) && decide (h.lastVtun + 2 * sec ≤ hnow) then
    headPut d { h with closed := false, disch := true, duty := 1000, lost := true,
                       lowSince := if low then some hnow else none } t
  else t

end Sys2Proof.Machine
end

