-- ==== Sys2Proof/Machine/Hlm.lean ====
section
/-! DEFINITION. Sys2Proof/Machine/Hlm.lean: Helmet (R465 to R498). Every function acts on the pair of Helmet's state and `Io`. -/
namespace Sys2Proof.Machine

def hlmEvt (i : Nat) (io : Io) : Io := io.evt 0x40500000 i

/-- LC_STATE: 0 RAW, 1 PROVISIONED, 2 OPERATIONAL, 3 MAINTENANCE, 4 RETURNED (R468, R474). -/
def HlmSt.state (h : HlmSt) : Nat :=
  if h.returned then 4 else if h.lc = 0 then 0 else if h.lc = 1 then 1 else if h.lc % 2 = 0 then 2 else 3

/-- Owner slots programmed and not revoked. -/
def HlmSt.valid (h : HlmSt) (k : Nat) : Bool := bitsN h.prog k k == 1 && bitsN h.revoked k k == 0

/-- 32 bytes of SHAKE256. Assumption log: 11 (DESIGN CHOICE). -/
def hash32 (bs : List Byte) : List Byte := (List.range 32).map (Config.shake bs)

def edPub (n : Nat) : List Byte := (List.range 57).map (Config.pubKey n)

/-- DEV_HASH; zeros without an identity. -/
def HlmSt.devHash (h : HlmSt) : List Byte :=
  match h.ident with
  | some i => hash32 (edPub i.ed)
  | none => zeros 32

def hSlot (h : HlmSt) (n : Nat) : Option KeySlot := Tbl.get h.slots none n

/-- Keys held by link, and metering keys held. -/
def linkCnt (io : Io) : Nat := (io.keys.filter fun e => decide (e.1 < 0xFFFF) && e.2.held).length
def meterCnt (io : Io) : Nat := (io.keys.filter fun e => decide (0x10000 ≤ e.1 ∧ e.1 < 0x20000) && e.2.held).length

/-! The secure SRAM (R488, R489). -/

/-- One granted request: the word read, if it reads. -/
def sramGrant (m : Tbl Word64) (r : SramReq) : Tbl Word64 × List Nat :=
  match r.write with
  | some v => (Tbl.set m 0 r.addr v, [])
  | none => (m, [(Tbl.get m 0 r.addr).toNat])

/-- The port over cycles: a request that waited goes first, then the engine, then Sepia. Memory, the requests still waiting,
stall cycles, the words read in order. -/
def sramCycles : List SramCycle → Tbl Word64 × List SramReq × Nat × List Nat → Tbl Word64 × List SramReq × Nat × List Nat
  | [], x => x
  | c :: r, (m, w, n, out) =>
    match w ++ c.engine.toList ++ c.sepia.toList with
    | [] => sramCycles r (m, [], n, out)
    | q :: rest =>
      let g := sramGrant m q
      sramCycles r (g.1, rest, n + rest.length, out ++ g.2)

/-- The cycles that a Helmet operation takes, and the grants still owed after them. Assumption log: 141 (DESIGN CHOICE). -/
def sramRun (cs : List SramCycle) (t : HlmSt × Io) : HlmSt × Io :=
  let a := sramCycles cs (t.1.sram, [], 0, [])
  let b := sramCycles (List.replicate a.2.1.length ⟨none, none⟩) a
  ({ t.1 with sram := b.1 }, (t.2.countN Reg.HLM.SRAM_STALL_CNT b.2.2.1).drive "SRAM" 0 b.2.2.2)

/-! The mailbox (R498). -/

/-- A command completes with a result and an output in MBX_DATA, which holds 4096 bytes. Assumption log: 139 (DESIGN CHOICE). -/
def hlmDone (cmd result : Nat) (whole : List Byte) (t : HlmSt × Io) : HlmSt × Io :=
  let out := whole.take 4096
  let io1 := (List.range ((out.length + 3) / 4)).foldl
    (fun (io : Io) i => io.setReg (Reg.HLM.MBX_DATA i) (w32 (u32 out (4 * i)))) t.2
  let io2 := (io1.setReg Reg.HLM.MBX_STAT (w32 (2 ^ 30 + result * 2 ^ 16 + cmd * 2 ^ 8))).setReg Reg.HLM.MBX_RET (w32 out.length)
  (t.1, hlmEvt 7 io2)

def hlmArg (io : Io) (i : Nat) : Nat := (io.reg (Reg.HLM.MBX_ARG i)).toNat

/-- The first n bytes of MBX_DATA. Assumption log: 139 (DESIGN CHOICE). -/
def hlmBytes (io : Io) (n : Nat) : List Byte :=
  ((List.range ((n + 3) / 4)).flatMap fun i => le 4 (io.reg (Reg.HLM.MBX_DATA i)).toNat).take n

/-- A write of a reserved command. -/
def hlmReserved (cmd : Nat) (t : HlmSt × Io) : HlmSt × Io := hlmDone cmd 0xA [] t

/-- GET_ID. -/
def getId (t : HlmSt × Io) : HlmSt × Io :=
  match t.1.ident with
  | some i => hlmDone 1 0 (edPub i.ed ++ (List.range 56).map (Config.pubKey i.x) ++ t.1.devHash ++ i.cert) t
  | none => hlmDone 1 0xC [] t

/-- The algorithm of a class: 0 Ed448, 2 P-521, 3 KMAC256. -/
def algOf (cls : Nat) : Nat := if cls = 4 ∨ cls = 5 then 0 else if cls = 6 then 2 else 3

/-- FLAGS of R474 for a key of a class. Assumption log: 136 (DEDUCED). -/
def keyFlags (cls : Nat) (gen : Bool) : Nat :=
  b2n gen + 2 + (if cls = 4 ∨ cls = 6 then 4 else 0) + (if cls = 6 then 8 else 0) + (if algOf cls = 3 then 16 else 0)

/-- A statement (R474, R475), with a fresh signature. Assumption log: 136 (DEDUCED). -/
def statement (kind alg slot flags : Nat) (nonce pub : List Byte) (h : HlmSt) (io : Io) : List Byte × Io :=
  let f := io.fresh
  (le 2 1 ++ le 1 kind ++ le 1 alg ++ le 2 slot ++ le 2 flags ++ le 1 h.state ++ le 1 h.lc ++ zeros 6
    ++ (nonce ++ zeros 32).take 32 ++ h.devHash ++ (pub ++ zeros 133).take 133 ++ zeros 3
    ++ ((List.range 24).flatMap fun i => le 4 (io.reg (Reg.HLM.MEAS i)).toNat)
    ++ le 2 h.svnT ++ le 2 h.svnU ++ le 2 h.svnC ++ zeros 2 ++ le 8 io.now
    ++ (List.range 114).map (Config.signature f.1), f.2)

/-- The public key of a slot, empty for KMAC256. Assumption log: 132 (DESIGN CHOICE). -/
def slotPub (k : KeySlot) : List Byte :=
  if k.cls = 6 then (List.range 133).map (Config.pubKey k.pub) else if k.cls = 4 ∨ k.cls = 5 then edPub k.pub else []

/-- ATTEST (R474). A KEY statement names a slot below 64, a node otherwise. Assumption log: 136 (DEDUCED). -/
def attest (sram : List SramCycle) (t : HlmSt × Io) : HlmSt × Io :=
  let kind := hlmArg t.2 0
  let n := hlmArg t.2 1
  let nonce := hlmBytes t.2 32
  match t.1.ident with
  | none => hlmDone 2 0xC [] t
  | some i =>
    if 2 < kind then hlmDone 2 0xA [] t
    else if kind = 1 then
      if n < 64 then
        match hSlot t.1 n with
        | none => hlmDone 2 0xC [] t
        | some k =>
          let u := sramRun sram t
          let st := statement 1 (algOf k.cls) n (keyFlags k.cls k.gen) nonce (slotPub k) u.1 u.2
          hlmDone 2 0 st.1 (u.1, st.2)
      else if decide (n < 0xFFFF) && ((Tbl.get t.2.keys KeyGen.init n).held || (Tbl.get t.2.keys KeyGen.init (0x10000 + n)).held) then
        let u := sramRun sram t
        let st := statement 1 3 n (keyFlags 1 false) nonce [] u.1 u.2
        hlmDone 2 0 st.1 (u.1, st.2)
      else hlmDone 2 0xC [] t
    else
      let u := sramRun sram t
      let st := statement kind 0 0 (keyFlags 4 true) nonce (edPub i.ed) u.1 u.2
      hlmDone 2 0 st.1 (u.1, st.2)

/-- RANDOM. -/
def hlmRandom (sram : List SramCycle) (t : HlmSt × Io) : HlmSt × Io :=
  let n := hlmArg t.2 0
  if n = 0 ∨ 4096 < n then hlmDone 3 0xA [] t
  else if t.1.rngBad.isSome then hlmDone 3 9 [] t
  else
    let u := sramRun sram t
    hlmDone 3 0 ((List.range n).map fun i => Config.random (u.2.free + i)) (u.1, { u.2 with free := u.2.free + n })

/-! What the registers show. -/

/-- STAT. -/
def hlmStat (h : HlmSt) (io : Io) : Nat :=
  h.state * 2 ^ 29 + h.lc % 32 * 2 ^ 24 + b2n h.wipeDone * 2 ^ 23 + b2n h.keysLost * 2 ^ 22 + b2n h.idKill * 2 ^ 21
    + b2n (io.fld Reg.HLM.TMP_STAT 8 0 != 0) * 2 ^ 20
    + ((List.range 4).foldl (fun (a : Nat) k => a + b2n (h.valid k) * 2 ^ (16 + k)) 0)

/-- The HLM registers that show Helmet's state. -/
def hlmView (h : HlmSt) (io : Io) (k : Nat) : Option Word :=
  let o := k - 0x40500000
  if k < 0x40500000 ∨ 0x40500300 ≤ k then none
  else if o = 0 then some (w32 (hlmStat h io))
  else if o = 0x20 then some (w32 (h.svnC * 2 ^ 16 + h.svnU * 2 ^ 8 + h.svnT))
  else if o = 0x24 then some (w32 (h.revoked % 16 * 16 + h.prog % 16))
  else if o = 0x28 then some (w32 h.kuCtr)
  else if o = 0x2C then some (w32 (h.kuCtr / 2 ^ 32))
  else if o = 0x34 then some (w32 (linkCnt io))
  else if 0x40 ≤ o ∧ o < 0x60 then some (w32 (u32 h.devHash (o - 0x40)))
  else if 0x200 ≤ o ∧ o < 0x300 then
    some (match hSlot h ((o - 0x200) / 4) with
      | some s => w32 (2 ^ 31 + b2n s.gen * 2 ^ 30 + s.cls % 16 * 2 ^ 26)
      | none => 0)
  else none

/-- STATUS. -/
def hlmStatus (t : HlmSt × Io) : HlmSt × Io :=
  let h := t.1
  hlmDone 5 0 (le 4 (hlmStat h t.2) ++ le 4 (t.2.reg Reg.HLM.TMP_STAT).toNat ++ le 4 (h.svnC * 2 ^ 16 + h.svnU * 2 ^ 8 + h.svnT)
    ++ le 4 (h.revoked % 16 * 16 + h.prog % 16) ++ le 8 h.kuCtr ++ le 4 (linkCnt t.2) ++ zeros 4 ++ h.devHash) t

/-! Erasure and the life cycle (R466 to R472, R491). -/

/-- The operational keys are destroyed: the mask, the slots, and every key in `Io.keys`. Assumption log: 140 (DEDUCED). -/
def eraseOp (t : HlmSt × Io) : HlmSt × Io := ({ t.1 with mask := false, slots := [] }, { t.2 with keys := [] })

/-- R496: what Helmet itself shows of the loss. Assumption log: 143 (DEDUCED). -/
def keysLostFlag (t : HlmSt × Io) : HlmSt × Io := ({ t.1 with keysLost := true }, hlmEvt 3 t.2)

/-- R469 in Helmet: the fuse, the mask and the keys, the secure SRAM, WIPE_DONE. `back`: into RETURNED. Assumption log: 141 (DESIGN CHOICE). -/
def hlmTransition (back : Bool) (t : HlmSt × Io) : HlmSt × Io :=
  let u := eraseOp t
  let h := u.1
  ({ h with
     lc := if back then h.lc else h.lc + 1, returned := h.returned || back, idKill := h.idKill || back,
     ident := if back then none else h.ident, kuCtr := if back then 0 else h.kuCtr,
     sram := [], wipeDone := true, lcNew := true }, u.2)

/-- Why PROVISION is refused; 0 where it is not. Assumption log: 137 (DEDUCED). -/
def provisionResult (sigOk : Bool) (h : HlmSt) : Nat :=
  if h.state ≠ 0 then 6 else if !sigOk then 4 else if h.rngBad.isSome then 9 else 0

/-- PROVISION: the identity is generated and the certificate stored. The transition follows. -/
def provision (cert : List Byte) (t : HlmSt × Io) : HlmSt × Io :=
  let f := t.2.fresh
  let g := f.2.fresh
  ({ t.1 with ident := some ⟨f.1, g.1, cert⟩ }, g.2)

/-- Why RETURN is refused; 0 where it is not. Assumption log: 137 (DEDUCED). -/
def returnResult (sigOk : Bool) (h : HlmSt) : Nat := if h.state ≠ 0 then 6 else if !sigOk then 4 else 0

/-- OWNER_FUSE (R471). Assumption log: 137 (DEDUCED). -/
def ownerFuse (t : HlmSt × Io) : HlmSt × Io :=
  let k := hlmArg t.2 0
  let h := t.1
  if 3 < k then hlmDone 0x11 0xA [] t
  else if h.state ≠ 1 then hlmDone 0x11 6 [] t
  else if bitsN h.prog k k = 1 then hlmDone 0x11 8 [] t
  else hlmDone 0x11 0 []
    ({ h with prog := h.prog + 2 ^ k, owners := Tbl.set h.owners [] k (hash32 (hlmBytes t.2 57)) }, t.2)

/-! Key updates (R480 to R485). -/

/-- How a KEY_UPDATE came: through the mailbox, or as an Atkai message that has passed R324. -/
def kuBytes (io : Io) (atk : Option (List Byte)) : List Byte :=
  match atk with
  | some p => p
  | none => hlmBytes io (min 4096 (hlmArg io 0))

def kuOp (p : List Byte) : Nat := u8 p 1
def kuClass (p : List Byte) : Nat := u8 p 2
def kuTarget (p : List Byte) : Nat := u16 p 4
def kuKeyOp (p : List Byte) : Bool := decide (1 ≤ kuOp p ∧ kuOp p ≤ 3)

/-- KEY_LEN of an INSTALL by class. -/
def kuKeyLen (cls : Nat) : Nat := if cls = 4 ∨ cls = 5 then 57 else if cls = 6 then 66 else 32

/-- n bytes from o are zero. -/
def zeroIn (p : List Byte) (o n : Nat) : Bool := leN p o n == 0

/-- Check 1 of R482. Assumption log: 134 (DEDUCED). -/
def kuFormat (p : List Byte) : Bool :=
  let op := kuOp p
  let cls := kuClass p
  p.length == 394 && u8 p 0 == 1 && decide (1 ≤ op ∧ op ≤ 6)
    && (if kuKeyOp p then decide (1 ≤ cls ∧ cls ≤ 8) else cls == 0)
    && decide (u8 p 3 ≤ 3)
    && (op == 5 || (kuKeyOp p && decide (cls ≤ 6)) || kuTarget p == 0)
    && ((kuKeyOp p && decide (cls ≤ 2)) || u16 p 6 == 0)
    && zeroIn p 105 7
    && (op == 1 || (zeroIn p 112 56 && zeroIn p 184 96))
    && u16 p 180 == (if op = 1 then kuKeyLen cls else 0)
    && (if op = 4 then decide (u16 p 182 ≤ 4) else u16 p 182 == 0)

/-- Check 6. Assumption log: 134 (DEDUCED). -/
def kuState (h : HlmSt) (p : List Byte) : Bool :=
  let s := h.state
  let live := decide (1 ≤ s ∧ s ≤ 3)
  match kuOp p with
  | 4 =>
    match u16 p 182 with
    | 2 => s == 1 || s == 3
    | 3 => s == 2 && decide (h.lc ≤ 28)
    | 4 => live
    | _ => false
  | 5 =>
    let k := kuTarget p
    let others := (List.range 4).any fun j => j != k && h.valid j
    (s == 2 || s == 3) && (!h.valid k || others)
  | _ => live

/-- Check 8. Assumption log: 134 (DEDUCED). -/
def kuTargetOk (io : Io) (p : List Byte) : Bool :=
  let n := kuTarget p
  match kuOp p with
  | 1 | 2 | 3 =>
    let cls := kuClass p
    (kuOp p != 3 || cls == 4 || cls == 6)
      && (if cls = 1 then decide (0x100 ≤ n ∧ n ≤ 0x7FFF)
            && (kuOp p != 1 || (Tbl.get io.keys KeyGen.init n).held || decide (linkCnt io < 8192))
          else if cls = 2 then decide (0x2000 ≤ n ∧ n ≤ 0x7FFF)
            && (kuOp p != 1 || (Tbl.get io.keys KeyGen.init (0x10000 + n)).held || decide (meterCnt io < 256))
          else if cls ≤ 6 then decide (n < 64) else true)
  | 5 => decide (n < 4)
  | _ => true

/-- The result of R482: 0 OK. `sigOk`: SIGNATURE verifies; `wrapOk`: WRAP_TAG verifies. Assumption log: 134 (DEDUCED). -/
def kuResult (h : HlmSt) (io : Io) (p : List Byte) (sigOk wrapOk : Bool) : Nat :=
  if !kuFormat p then 1
  else if !(h.ident.isSome && (p.drop 16).take 32 == h.devHash) then 2
  else if !(h.valid (u8 p 3) && hash32 ((p.drop 48).take 57) == Tbl.get h.owners [] (u8 p 3)) then 3
  else if !sigOk then 4
  else if u64 p 8 ≤ h.kuCtr then 5
  else if !kuState h p then 6
  else if kuOp p == 1 && !wrapOk then 7
  else if !kuTargetOk io p then 8
  else if kuOp p == 3 && h.rngBad.isSome then 9
  else 0

/-- R484, R323: a key takes the place of another; a LINK or HEAD_METER key stays beside it for a while. Assumption log: 142 (DEDUCED). -/
def installKey (slot gen : Nat) (io : Io) : Io :=
  let k := Tbl.get io.keys KeyGen.init slot
  let stays := k.held && slot != 0xFFFF && decide (slot < 0x20000)
  { io with keys := Tbl.set io.keys KeyGen.init slot ⟨true, gen, if stays then some k.gen else none, io.now⟩ }

def deleteKey (slot : Nat) (io : Io) : Io := { io with keys := Tbl.set io.keys KeyGen.init slot KeyGen.init }

/-- The entries of `Io.keys` that a class and target name. -/
def kuPlaces (cls n : Nat) : List Nat :=
  if cls = 1 then [n] else if cls = 2 then [0x10000 + n] else if cls = 7 then [0x20001, 0x20002] else if cls = 8 then [0xFFFF] else []

/-- An accepted INSTALL, DELETE, OWNER_REVOKE or TAMPER_ACK takes effect. Assumption log: 135 (DESIGN CHOICE). -/
def kuApply (p : List Byte) (t : HlmSt × Io) : HlmSt × Io :=
  let cls := kuClass p
  let n := kuTarget p
  let h := t.1
  match kuOp p with
  | 1 =>
    let f := t.2.fresh
    let io1 := (kuPlaces cls n).foldl (fun (io : Io) k => installKey k (u16 p 6) io) f.2
    ({ h with mask := true, keysLost := false,
              slots := if 3 ≤ cls ∧ cls ≤ 6 then Tbl.set h.slots none n (some ⟨cls, false, f.1⟩) else h.slots }, io1)
  | 2 =>
    ({ h with slots := if 3 ≤ cls ∧ cls ≤ 6 then Tbl.set h.slots none n none else h.slots },
     (kuPlaces cls n).foldl (fun (io : Io) k => deleteKey k io) t.2)
  | 3 =>
    let f := t.2.fresh
    ({ h with mask := true, slots := Tbl.set h.slots none n (some ⟨cls, true, f.1⟩) }, f.2)
  | 5 => ({ h with revoked := Nat.lor h.revoked (2 ^ n) }, t.2)
  | 6 => (h, t.2.setFld Reg.HLM.TMP_STAT 8 0 0)
  | _ => t

/-- R485: the public key and its statement. -/
def kuOutput (p : List Byte) (t : HlmSt × Io) : List Byte × Io :=
  match hSlot t.1 (kuTarget p) with
  | some k =>
    let st := statement 1 (algOf k.cls) (kuTarget p) (keyFlags k.cls k.gen) [] (slotPub k) t.1 t.2
    (slotPub k ++ st.1, st.2)
  | none => ([], t.2)

/-- The result of an update is recorded: KU_LAST, KU_REJ_CNT, and through the mailbox its completion. Assumption log: 135 (DESIGN CHOICE). -/
def kuRecord (p : List Byte) (mbx : Bool) (r : Nat) (out : List Byte) (t : HlmSt × Io) : HlmSt × Io :=
  let io1 := t.2.setReg Reg.HLM.KU_LAST (w32 (r * 2 ^ 24 + kuOp p * 2 ^ 16 + kuClass p * 2 ^ 8 + b2n (!mbx)))
  let io2 := if r = 0 then hlmEvt 0 io1 else hlmEvt 1 (io1.count Reg.HLM.KU_REJ_CNT)
  if mbx then hlmDone 4 r out (t.1, io2)
  else if out.isEmpty then (t.1, io2)
  else (t.1, (List.range ((out.length + 3) / 4)).foldl
    (fun (io : Io) i => io.setReg (Reg.HLM.MBX_DATA i) (w32 (u32 out (4 * i)))) io2)

/-- R482 to R485: an update other than LIFECYCLE. Assumption log: 135 (DESIGN CHOICE), 141 (DESIGN CHOICE). -/
def keyUpdate (p : List Byte) (mbx sigOk wrapOk : Bool) (t : HlmSt × Io) : HlmSt × Io :=
  let r := kuResult t.1 t.2 p sigOk wrapOk
  if r = 0 then
    let u := kuApply p ({ t.1 with kuCtr := u64 p 8 }, t.2)
    if kuOp p = 3 then
      let o := kuOutput p u
      kuRecord p mbx 0 o.1 (u.1, o.2)
    else kuRecord p mbx 0 [] u
  else kuRecord p mbx r [] t

/-! Tamper, VBAT, the RNG (R467, R487, R490 to R496). -/

/-- Whether a source is sensed, and its reaction: 0 LOG, 1 ERASE_OP, 2 ERASE_ALL. Assumption log: 140 (DEDUCED). -/
def tamperLevel (io : Io) (src : Nat) : Option Nat :=
  if src < 5 then
    if io.flag Reg.HLM.TMP_CFG (16 + src) then some (io.fld Reg.HLM.TMP_CFG (2 * src + 1) (2 * src)) else none
  else if src < 8 then some 1 else if src = 8 then some 2 else none

/-- R490, R491, R493, R495: a source is sensed. `on`: the main supply of the logic is on. The Boolean: the operational keys
have been destroyed with the part running. Assumption log: 140 (DEDUCED). -/
def tamperSensed (src : Nat) (on : Bool) (t : HlmSt × Io) : (HlmSt × Io) × Bool :=
  match tamperLevel t.2 src with
  | none => (t, false)
  | some lv =>
    if t.2.flag Reg.HLM.TMP_STAT src then (t, false)
    else
      let io1 := (t.2.setFlag Reg.HLM.TMP_STAT src true).setFld Reg.HLM.TMP_STAT 31 24 (satU 8 (t.2.fld Reg.HLM.TMP_STAT 31 24 + 1))
      let io2 := if on then hlmEvt 2 io1 else io1
      if lv = 0 ∨ lv = 3 then ((t.1, io2), false)
      else
        let h := if lv = 2 then { t.1 with idKill := true, ident := none, kuCtr := 0 } else t.1
        if on then
          let u := eraseOp ({ h with sram := [] }, io2)
          (keysLostFlag u, true)
        else (({ h with mask := false, pend := true }, { io2 with keys := [] }), false)

/-- R495: at power-up the erasure that waited is completed. The Boolean: one was. -/
def tamperDeferred (t : HlmSt × Io) : (HlmSt × Io) × Bool :=
  if t.1.pend then (keysLostFlag (eraseOp ({ t.1 with pend := false }, t.2)), true) else (t, false)

/-- R487. -/
def rngFail (t : HlmSt × Io) : HlmSt × Io := ({ t.1 with rngBad := some t.2.now }, hlmEvt 5 t.2)

/-- R487: the tests have passed for 1 s. -/
def rngRecover (t : HlmSt × Io) : HlmSt × Io :=
  match t.1.rngBad with
  | some a => if a + sec ≤ t.2.now then ({ t.1 with rngBad := none }, t.2) else t
  | none => t

/-- R479: the site has made its first commit from an image. -/
def svnCommit (t : HlmSt × Io) : HlmSt × Io :=
  let p := fun (k cur : Nat) => max cur (Tbl.get t.1.svnPend 0 k)
  if t.1.svnPend.isEmpty then t
  else ({ t.1 with svnT := p 0 t.1.svnT, svnU := p 1 t.1.svnU, svnC := p 2 t.1.svnC, svnPend := [] }, hlmEvt 6 t.2)

/-- A reset in domain WR. Assumption log: 143 (DEDUCED). -/
def hlmReset (h : HlmSt) : HlmSt := { h with keysLost := false, svnPend := [], sram := [], rngBad := none }

end Sys2Proof.Machine
end

