-- ==== Sys2Proof/Machine/Lsw.lean ====
section
/-! DEFINITION. Sys2Proof/Machine/Lsw.lean: the 24 load switches (chapter 15, R599 to R622). -/
namespace Sys2Proof.Machine

def chanOf (p : PowSt) (n : Nat) : Chan := Tbl.get p.chan Chan.init n
def PowSt.putChan (p : PowSt) (n : Nat) (x : Chan) : PowSt := { p with chan := Tbl.set p.chan Chan.init n x }

/-- An event of LSW. -/
def lswEvt (io : Io) (i : Nat) : Io := io.evt 0x40800000 i

/-- The engine that owns a channel (R599): 1 a slot of sink kind 3, 2 a circuit, 0 none. -/
def lswEngine (io : Io) (n : Nat) : Nat :=
  if (enabledSlots io).any fun s => sinkKind io s == 3 && sinkSel io s % 32 == n then 1
  else if circuitDrives io 64 n then 2 else 0

/-- R599: the owner shown. `run`: the unit is ACTIVE and PD5 is on. A stored OWNER of 3 says that no duty has been delivered
since the defaults were taken (R619, R621). Assumption log: 170 (DEDUCED). -/
def lswOwner (run : Bool) (p : PowSt) (io : Io) (n : Nat) : Nat :=
  if p.down || (chanOf p n).hold || io.fld (Reg.LSW.CH_DUTY n) 31 30 == 3 then 3
  else
    let e := lswEngine io n
    if e != 0 && !run then 3 else e

/-- The duty that the owner gives; before the I/O section is loaded, none (R619); during a hold, the held one (R617). -/
def lswDuty (run : Bool) (p : PowSt) (io : Io) (n : Nat) : Nat :=
  if !p.loaded then 0
  else if (chanOf p n).hold then (chanOf p n).duty
  else if lswOwner run p io n = 3 then io.fld (Reg.LSW.CH_DEF n) 13 0
  else io.fld (Reg.LSW.CH_DUTY n) 13 0

def lswPeriod (io : Io) (n : Nat) : Nat := io.fld (Reg.LSW.CH_PWM n) 31 16
def lswAllOff (io : Io) : Bool := io.flag Reg.LSW.CTRL 0
def Chan.held (x : Chan) : Bool := x.th || x.oc

/-- R613: into ON; OPEN_LOAD clears (R614), INRUSH_MS starts; a PWM channel switches on at its next period start. -/
def Chan.enterOn (io : Io) (n : Nat) (x : Chan) : Chan :=
  { x with st := .on, onAt := io.now, inrush := true, openLoad := false,
           out := if lswPeriod io n = 0 then .steady else .low }

/-- Out of ON. -/
def Chan.leave (io : Io) (st : ChSt) (x : Chan) : Chan := { x with st := st, offAt := io.now, inrush := false, out := .low }

/-- The rows of R613 that the duty and ALL_OFF decide. -/
def Chan.move (io : Io) (n : Nat) (x : Chan) : Chan :=
  match x.st with
  | .off => if 0 < x.duty ∧ x.held = false ∧ lswAllOff io = false then x.enterOn io n else x
  | .on => if x.duty = 0 ∨ lswAllOff io = true then x.leave io .off else x
  | .retryWait | .latched => x

/-- The number of the PWM period that a time is in, from 1 (R602): periods start at PHASE × PERIOD_US × 1000 / 256 ns. -/
def periodNum (io : Io) (n : Nat) : Nat :=
  let q := lswPeriod io n * 1000 * 256
  (256 * io.now + q - io.fld (Reg.LSW.CH_PWM n) 15 8 * lswPeriod io n * 1000) / q + 1

/-- When that period started, in 1/256 ns. -/
def periodAt (io : Io) (n k : Nat) : Nat :=
  (k - 1) * (lswPeriod io n * 1000 * 256) + io.fld (Reg.LSW.CH_PWM n) 15 8 * lswPeriod io n * 1000
    - lswPeriod io n * 1000 * 256

/-- On-time of a period, to the nearest 50 ns (R602). -/
def onTime (io : Io) (n duty : Nat) : Nat := (rdiv (duty * lswPeriod io n : Nat) 500).toNat * 50

/-- R602, R603, row PWM_PERIOD_START: a period starts and the latest duty takes effect, once per period. Assumption log: 174 (DEDUCED). -/
def periodStart (run : Bool) (n : Nat) (p : PowSt) (io : Io) : PowSt :=
  let x := chanOf p n
  let k := periodNum io n
  if n < 24 ∧ lswPeriod io n ≠ 0 ∧ x.period ≠ k then
    let y := Chan.move io n { x with period := k, duty := lswDuty run p io n }
    p.putChan n { y with out := if y.st = .on then .pulse (periodAt io n k) (onTime io n y.duty) else .low }
  else p

/-- R603: channels without PWM take a new duty at once; ALL_OFF opens every channel. Assumption log: 174 (DEDUCED). -/
def lswSettle (run : Bool) (io : Io) (p : PowSt) : PowSt :=
  (List.range 24).foldl (fun (p : PowSt) n =>
    let x := chanOf p n
    if lswPeriod io n = 0 then
      let y := Chan.move io n { x with duty := lswDuty run p io n }
      p.putChan n { y with out := if y.st = .on then .steady else .low }
    else if lswAllOff io && x.st == .on then p.putChan n (x.leave io .off) else p) p

/-- R605: an over-current trip. A count past 15 has no encoding; the field then holds a free value.
Assumption log: 171 (DESIGN CHOICE), 172 (DEDUCED). -/
def lswTrip (n : Nat) (p : PowSt) (io : Io) : PowSt × Io :=
  let x := chanOf p n
  let f := io.fresh
  let r := if x.retry < 15 then x.retry + 1 else Config.freeNat f.1 % 16
  let io1 := lswEvt ((if x.retry < 15 then io else f.2).count (Reg.LSW.CH_TRIP_CNT n)) 0
  if x.retry + 1 = io.fld (Reg.LSW.CH_CFG n) 19 16 then
    (p.putChan n { x.leave io .latched with retry := r, oc := true }, lswEvt io1 1)
  else
    (p.putChan n { x.leave io .retryWait with retry := r, pauseEnd := io.now + min (10 * ms * 2 ^ x.retry) (2560 * ms) }, io1)

/-- R607: TJ at 170 °C. -/
def lswOvertemp (n : Nat) (p : PowSt) (io : Io) : PowSt × Io :=
  let x := chanOf p n
  (p.putChan n { x.leave io .latched with th := true, offAt := if x.st = .on then io.now else x.offAt },
    if x.th then io else lswEvt io 2)

/-- MEAS_I and MEAS_VT. Assumption log: 173 (DESIGN CHOICE). -/
def lswMeasure (n : Nat) (m : ChMeas) (io : Io) : Io :=
  ((io.setReg (Reg.LSW.CH_MEAS_VT n) (w32 (m.vout % 65536 * 65536 + unS 16 m.tj))).setFld (Reg.LSW.CH_MEAS_I n) 31 16 m.avg).setFld
    (Reg.LSW.CH_MEAS_I n) 15 0 (max (io.fld (Reg.LSW.CH_MEAS_I n) 15 0) (satU 16 m.peak))

/-- R607, R612: a sample of a channel. Rows LSW_OVERTEMP and TH_WARN. Assumption log: 173 (DESIGN CHOICE). -/
def tjSample (n : Nat) (m : ChMeas) (p : PowSt) (io : Io) : PowSt × Io :=
  if n < 24 then
    let x := chanOf p n
    let io1 := lswMeasure n m io
    let warn := if 15000 ≤ m.tj then true else if m.tj ≤ 14000 then false else x.warn
    let io2 := if warn && !x.warn then lswEvt io1 3 else io1
    let p1 := p.putChan n { x with tj := m.tj, warn := warn }
    if 17000 ≤ m.tj then lswOvertemp n p1 io2 else (p1, io2)
  else (p, io)

/-- R604: current at ILIM is held while INRUSH_MS runs. -/
def inrushRuns (io : Io) (n : Nat) (x : Chan) : Bool :=
  decide (io.now < x.onAt + io.fld (Reg.LSW.CH_CFG n) 15 8 * ms)

/-- R604, R605, R608, row LSW_OVERCURRENT: current at ILIM for 20 µs; `m` is that sample. -/
def overcurrent (n : Nat) (m : ChMeas) (p : PowSt) (io : Io) : PowSt × Io :=
  let x := chanOf p n
  if n < 24 ∧ x.st = .on ∧ inrushRuns io n x = false then
    let r := tjSample n m p io
    if 17000 ≤ m.tj then r else lswTrip n r.1 r.2
  else (p, io)

/-- R604, row INRUSH_END: a current still at ILIM is a trip. -/
def inrushEnd (n : Nat) (atLimit : Bool) (m : ChMeas) (p : PowSt) (io : Io) : PowSt × Io :=
  let x := chanOf p n
  if n < 24 ∧ x.st = .on ∧ x.inrush ∧ inrushRuns io n x = false then
    let p1 := p.putChan n { x with inrush := false }
    if atLimit then overcurrent n m p1 io else (p1, io)
  else (p, io)

/-- R605, R609, row RETRY_PAUSE_END. -/
def retryPauseEnd (n : Nat) (p : PowSt) (io : Io) : PowSt :=
  let x := chanOf p n
  if n < 24 ∧ x.st = .retryWait ∧ x.pauseEnd ≤ io.now then p.putChan n (Chan.move io n { x with st := .off }) else p

/-- R606, row RETRY_COUNT_RESET: 1 s in ON without a trip. -/
def retryReset (n : Nat) (p : PowSt) (io : Io) : PowSt :=
  let x := chanOf p n
  if n < 24 ∧ x.st = .on ∧ x.onAt + sec ≤ io.now then p.putChan n { x with retry := 0 } else p

/-- R613: out of LATCHED once no latch is set; from here it is off without a latch (R614). Assumption log: 179 (DEDUCED). -/
def Chan.unlatch (io : Io) (n : Nat) (x : Chan) : Chan :=
  if x.st = .latched ∧ x.held = false then Chan.move io n { x with st := .off, offAt := io.now } else x

/-- R610, R611: a granted write of STAT clears the latches it names. Assumption log: 179 (DEDUCED). -/
def latchWrite (who : Who) (n : Nat) (v : Word) (p : PowSt) (io : Io) : PowSt × Io :=
  let x := chanOf p n
  let y := if bit v 28 then { x with oc := false, retry := 0 } else x
  let ok := decide (x.tj ≤ 15000)
  let z := if bit v 29 && ok then { y with th := false } else y
  (p.putChan n (z.unlatch io n),
    if bit v 29 && !ok then io.access .lsw 0 4 who (Reg.LSW.CH_STAT n) v.toNat else io)

/-- R614, row OPEN_LOAD: since `since` the off-state output has been above (or below) the threshold. -/
def openLoad (n : Nat) (above : Bool) (since : Nat) (m : ChMeas) (p : PowSt) (io0 : Io) : PowSt × Io :=
  let x := chanOf p n
  let io := if n < 24 then lswMeasure n m io0 else io0
  if n < 24 ∧ io.flag (Reg.LSW.CH_CFG n) 7 ∧ x.st ≠ .on ∧ x.held = false ∧ x.offAt + 5 * ms ≤ since
      ∧ since + 10 * ms ≤ io.now then
    (p.putChan n { x with openLoad := above }, if above && !x.openLoad then lswEvt io 4 else io)
  else (p, io)

/-- R615, row UNDER_CURRENT: since `since` the current averaged over on-times has been on the side of UC_MA that it is on now. -/
def underCurrent (n : Nat) (since : Nat) (m : ChMeas) (p : PowSt) (io0 : Io) : PowSt × Io :=
  let x := chanOf p n
  let io := if n < 24 then lswMeasure n m io0 else io0
  let below := decide (m.avg < io.fld (Reg.LSW.CH_LIM2 n) 31 16)
  if n < 24 ∧ io.flag (Reg.LSW.CH_CFG n) 6 ∧ x.st = .on ∧ 1000 ≤ x.duty ∧ x.onAt ≤ since ∧ since + 100 * ms ≤ io.now then
    (p.putChan n { x with underCur := below }, if below && !x.underCur then lswEvt io 5 else io)
  else (p, io)

/-- R600, row DUTY_WRITE: ignored and logged while an engine owns the channel. In DEF the value waits in the register; it ends
DEF on a channel that no engine owns (R621). -/
def dutyWrite (run : Bool) (who : Who) (n : Nat) (v : Word) (p : PowSt) (io : Io) : PowSt × Io :=
  if n < 24 then
    if mayWrite who (Reg.LSW.CH_DUTY n) then
      let o := lswOwner run p io n
      if o = 1 ∨ o = 2 then (p, io.access .lsw 0 4 who (Reg.LSW.CH_DUTY n) v.toNat)
      else if 10000 < bits v 13 0 then (p, io.access .lsw 0 2 who (Reg.LSW.CH_DUTY n) v.toNat)
      else
        let io1 := io.setFld (Reg.LSW.CH_DUTY n) 13 0 (bits v 13 0)
        let io2 := if lswEngine io n = 0 then io1.setFld (Reg.LSW.CH_DUTY n) 31 30 0 else io1
        (lswSettle run io2 p, io2)
    else (p, io.accessAt 1 who (Reg.LSW.CH_DUTY n) v.toNat)
  else (p, io)

/-- R613, row ALL_OFF: a write of CTRL. -/
def allOffWrite (run : Bool) (who : Who) (v : Word) (p : PowSt) (io : Io) : PowSt × Io :=
  let io1 := io.write (fun _ => true) who Reg.LSW.CTRL v
  (lswSettle run io1 p, io1)

/-- R617: every channel keeps its state, its duty and its protection, and sets HOLD. -/
def lswHold (p : PowSt) (io : Io) : PowSt × Io :=
  (List.range 24).foldl (fun (r : PowSt × Io) n =>
      (r.1.putChan n { chanOf r.1 n with hold := true }, r.2.setFld (Reg.LSW.CH_DUTY n) 31 30 3))
    ({ p with held := some io.now }, io)

/-- R618, R619: every channel takes DEF_DUTY under OWNER DEF. Assumption log: 170 (DEDUCED). -/
def lswDefaults (run : Bool) (p : PowSt) (io : Io) : PowSt × Io :=
  let r := (List.range 24).foldl (fun (r : PowSt × Io) n =>
      (r.1.putChan n { chanOf r.1 n with hold := false },
        r.2.setReg (Reg.LSW.CH_DUTY n) (w32 (3 * 2 ^ 30 + r.2.fld (Reg.LSW.CH_DEF n) 13 0))))
    ({ p with held := none }, io)
  let io1 := if p.held.isSome then lswEvt r.2 6 else r.2
  (lswSettle run io1 r.1, io1)

/-- R618, row HOLD_END: HOLD_MS has elapsed. -/
def holdElapsed (run : Bool) (p : PowSt) (io : Io) : PowSt × Io :=
  match p.held with
  | some t => if t + io.fld Reg.LSW.HOLD 11 0 * ms ≤ io.now then lswDefaults run p io else (p, io)
  | none => (p, io)

/-- R618, R619: the I/O section has been loaded. Assumption log: 170 (DEDUCED). -/
def ioLoaded (run : Bool) (p : PowSt) (io : Io) : PowSt × Io := lswDefaults run { p with loaded := true } io

/-- R620, row GENERAL_LINK_LOSS. -/
def linkLoss (p : PowSt) (io : Io) : PowSt × Io :=
  if p.down then (p, io) else lswHold { p with down := true } (lswEvt (io.setFlag Reg.LSW.STAT 31 true) 7)

/-- R621, row GENERAL_LINK_RETURN: every channel stays at its default until a duty is delivered. -/
def linkReturn (p : PowSt) (io : Io) : PowSt × Io :=
  if p.down then
    ({ p with down := false }, (List.range 24).foldl (fun (io : Io) n => io.setFld (Reg.LSW.CH_DUTY n) 31 30 3) io)
  else (p, io)

/-- STAT of a channel. -/
def Chan.statWord (x : Chan) : Word :=
  w32 (x.st.code * 2 ^ 30 + b2n x.th * 2 ^ 29 + b2n x.oc * 2 ^ 28 + b2n x.warn * 2 ^ 27 + b2n x.openLoad * 2 ^ 26
    + b2n x.underCur * 2 ^ 25 + b2n x.hold * 2 ^ 24 + x.retry * 2 ^ 20)

/-- A bit per channel for which `f` holds. -/
def chanMap (p : PowSt) (f : Chan → Bool) : Nat :=
  ((List.range 24).map fun n => b2n (f (chanOf p n)) * 2 ^ n).foldl (· + ·) 0

/-- What LSW's registers show. -/
def lswView (run : Bool) (p : PowSt) (io : Io) (a : Nat) : Option Word :=
  if a = Reg.LSW.STAT then
    some (w32 (b2n (io.flag a 31) * 2 ^ 31 + b2n p.held.isSome * 2 ^ 30 + chanMap p fun x => x.st == .on))
  else if a = Reg.LSW.LATCH_MAP then some (w32 (chanMap p Chan.held))
  else if 0x40800100 ≤ a ∧ a < 0x40800700 then
    let n := (a - 0x40800100) / 0x40
    if a % 0x40 = 0x14 then some (chanOf p n).statWord
    else if a % 0x40 = 0x0C then some (w32 (lswOwner run p io n * 2 ^ 30 + lswDuty run p io n))
    else none
  else none

end Sys2Proof.Machine
end

