-- ==== Sys2Proof/Machine/Mir.lean ====
section
/-! DEFINITION. Sys2Proof/Machine/Mir.lean: MIR's roles, lines and frames (R537 to R562). Every function acts on the pair of
MIR's state and `Io`; what a takeover or a frame does to the other blocks stands in Pair.lean. -/
namespace Sys2Proof.Machine

def mirEvt (i : Nat) (io : Io) : Io := io.evt 0x40700000 i
def q14Dst : Io.QDst := ⟨14, 14, Reg.MIR.Q14_DROP, 0x40700000, 5⟩
def q14Rec (prio payload : Nat) (io : Io) : Io := io.rec1 q14Dst 35 prio payload

def paired (io : Io) : Bool := io.flag Reg.MIR.CFG 0
/-- STATE: 0 INIT, 1 SYNC, 2 STANDBY, 3 ACTIVE, 4 RELEASED. -/
def mirState (io : Io) : Nat := io.fld Reg.MIR.STAT 31 29
def hbOk (io : Io) : Bool := io.flag Reg.MIR.STAT 26
def partnerLow (io : Io) : Bool := io.flag Reg.MIR.STAT 27
def mirMismatch (io : Io) : Bool := io.flag Reg.MIR.STAT 22
def lanesUp (io : Io) : Bool := io.flag Reg.MIR.STAT 24 || io.flag Reg.MIR.STAT 23
def pairKey (io : Io) : Bool := (Tbl.get io.keys KeyGen.init (0x20000 + (3 - io.ownId))).held
def leaseEpoch (io : Io) : Nat := io.fld Reg.LEASE.EPOCH 15 0

/-- A frame is sent: tagged under the pair key, over whichever lane is up; with both down it is lost. Assumption log: 160 (DESIGN CHOICE). -/
def mirSend (kind tick : Nat) (t : MirSt × Io) : MirSt × Io :=
  let q := Tbl.get t.1.seq 0 kind
  if paired t.2 && pairKey t.2 then
    ({ t.1 with seq := Tbl.set t.1.seq 0 kind ((q + 1) % 2 ^ 32) },
     if lanesUp t.2 then
       t.2.drive "MIR" kind [mirState t.2, if mirState t.2 = 4 then t.2.fld Reg.MIR.STAT 15 8 else 0, tick, q, leaseEpoch t.2]
     else t.2)
  else t

/-- A HELLO (R542, R550). -/
def helloSend (t : MirSt × Io) : MirSt × Io := mirSend 6 0 ({ t.1 with helloAt := t.2.now }, t.2)

/-- R550: every second. -/
def helloDue (t : MirSt × Io) : MirSt × Io :=
  if t.1.started && paired t.2 && decide (t.1.helloAt + sec ≤ t.2.now) then helloSend t else t

/-- A change of state: STATE, READY, the ROLE record (R543, R560, R561). -/
def roleGo (new cause : Nat) (t : MirSt × Io) : MirSt × Io :=
  let old := mirState t.2
  let io1 := (t.2.setFld Reg.MIR.STAT 31 29 new).setFlag Reg.MIR.STAT 25 (new == 2)
  let io2 := if cause = 0 then io1 else io1.setFld Reg.MIR.STAT 15 8 cause
  let io3 := q14Rec (if new = 3 ∨ new = 4 then 0xC else 4)
    (0x28 * 2 ^ 48 + new * 2 ^ 45 + old * 2 ^ 42 + cause * 2 ^ 24 + leaseEpoch io2) io2
  (t.1, mirEvt 0 io3)

/-- SYNC: HELLO and IMAGE_REQ. -/
def toSync (t : MirSt × Io) : MirSt × Io :=
  let u := roleGo 1 0 ({ t.1 with image := false, run := 0, rxSeq := none, pend := none }, t.2)
  mirSend 5 0 (helloSend u)

/-- STANDBY is left for SYNC. Assumption log: 154 (DEDUCED). -/
def syncLost (t : MirSt × Io) : MirSt × Io :=
  toSync (t.1, mirEvt 2 (q14Rec 8 (0x2A * 2 ^ 48 + (t.2.reg Reg.MIR.LAST_TICK).toNat) t.2))

/-- R544: a claim begins. -/
def claimStart (t : MirSt × Io) : MirSt × Io := ({ t.1 with own := true, claim := some t.2.now }, t.2.drive "ROLE_N" t.2.ownId [0])

/-- The partner has released (R543). Assumption log: 153 (DEDUCED). -/
def released (t : MirSt × Io) : Bool := !partnerLow t.2 && !hbOk t.2 && decide (t.1.pSince + 4 * ms ≤ t.2.now)

/-- What a unit in INIT does once its start-up is complete. Assumption log: 157 (DEDUCED). -/
def mirChoose (t : MirSt × Io) : MirSt × Io :=
  if !(paired t.2 && t.1.started && mirState t.2 == 0 && t.1.claim.isNone) then t
  else if partnerLow t.2 then toSync t
  else if released t then claimStart t
  else if hbOk t.2 then (if t.2.unitB then toSync t else claimStart t)
  else t

/-- R542, R543, R547: start-up is complete. Assumption log: 155 (DEDUCED), 157 (DEDUCED). -/
def mirStartup (t : MirSt × Io) : MirSt × Io :=
  if t.1.started then t
  else
    let t0 : MirSt × Io := ({ t.1 with started := true, holdAt := t.2.now, hb := paired t.2, wdt := false }, t.2)
    if !paired t.2 then t0
    else
      let t1 : MirSt × Io := if t.1.wdt then (t0.1, t0.2.setFld Reg.MIR.STAT 15 8 6) else t0
      mirChoose (helloSend t1)

/-- R543: STANDBY or INIT, and the partner has released. -/
def partnerReleased (t : MirSt × Io) : MirSt × Io :=
  if paired t.2 && t.1.started && mirState t.2 == 2 && t.1.claim.isNone && released t then claimStart t else mirChoose t

/-- R543: COLD_S in SYNC. Assumption log: 158 (DEDUCED). -/
def coldTakeover (t : MirSt × Io) : MirSt × Io :=
  let cold := t.2.fld Reg.MIR.CFG 7 1 * sec
  let a := released t && decide (max (t.1.pSince + 4 * ms) t.1.hbLost + cold ≤ t.2.now)
  let b := !partnerLow t.2 && hbOk t.2 && t.1.hello.isSome && decide (t.1.helloState ≤ 1) && decide (t.1.pSince + cold ≤ t.2.now)
  if paired t.2 && t.1.started && mirState t.2 == 1 && t.1.claim.isNone && cold != 0 && (a || b) then claimStart t else t

/-- R544: the sample. The Boolean pair: the unit has become ACTIVE, and it was STANDBY. Assumption log: 158 (DEDUCED). -/
def claimSample (t : MirSt × Io) : (MirSt × Io) × Bool × Bool :=
  match t.1.claim with
  | some a =>
    if t.2.now < a + 200 * us then (t, false, false)
    else if partnerLow t.2 && t.2.unitB then
      let t1 : MirSt × Io := ({ t.1 with own := false, claim := none }, t.2.drive "ROLE_N" t.2.ownId [1])
      ((if mirState t.2 = 1 then t1 else toSync t1), false, false)
    else (({ t.1 with claim := none }, t.2), true, mirState t.2 == 2)
  | none => (t, false, false)

/-- R548: the role is given up. -/
def giveUp (cause : Nat) (t : MirSt × Io) : MirSt × Io :=
  if paired t.2 && mirState t.2 == 3 then
    let u := roleGo 4 cause ({ t.1 with own := false, hb := false }, t.2.drive "ROLE_N" t.2.ownId [1])
    mirSend 1 (t.2.reg Reg.MIR.LAST_TICK).toNat u
  else t

/-- R547: both units are ACTIVE. -/
def dualActive (t : MirSt × Io) : MirSt × Io :=
  if t.2.unitB && partnerLow t.2 && decide (t.1.pSince + ms ≤ t.2.now) then giveUp 7 t else t

/-- R547, R549: CTRL is written. Assumption log: 159 (DEDUCED). -/
def handover (who : Who) (v : Word) (t : MirSt × Io) : MirSt × Io :=
  if !mayWrite who Reg.MIR.CTRL then (t.1, t.2.accessAt 1 who Reg.MIR.CTRL v.toNat)
  else if !bit v 0 then t
  else if paired t.2 && mirState t.2 == 3 && t.1.pState == 2 && t.1.hello.elim false Hello.ready then giveUp 8 t
  else (t.1, t.2.accessAt 4 who Reg.MIR.CTRL v.toNat)

/-- R538: the role hold has not been refreshed for 1 ms. Assumption log: 155 (DEDUCED). -/
def roleHoldTimeout (t : MirSt × Io) : MirSt × Io :=
  if (t.1.own || t.1.hb) && decide (t.1.holdAt + ms ≤ t.2.now) then
    let act := paired t.2 && mirState t.2 == 3
    ({ t.1 with own := false, hb := false, claim := none, wdt := t.1.wdt || act },
     (if act then t.2.setFld Reg.MIR.STAT 31 29 4 else t.2).drive "ROLE_N" t.2.ownId [1])
  else t

/-- R539. -/
def heartbeatLost (t : MirSt × Io) : MirSt × Io :=
  if hbOk t.2 && decide (t.1.hbAt + ms ≤ t.2.now) then ({ t.1 with hbLost := t.2.now }, t.2.setFlag Reg.MIR.STAT 26 false) else t

/-- R539: an edge of the partner's heartbeat. -/
def hbEdge (t : MirSt × Io) : MirSt × Io := mirChoose ({ t.1 with hbAt := t.2.now }, t.2.setFlag Reg.MIR.STAT 26 true)

/-- R543: the partner's role line changes. -/
def roleLine (low : Bool) (t : MirSt × Io) : MirSt × Io :=
  if partnerLow t.2 == low then t else mirChoose ({ t.1 with pSince := t.2.now }, t.2.setFlag Reg.MIR.STAT 27 low)

/-- R540. Assumption log: 154 (DEDUCED), 161 (DEDUCED). -/
def laneChange (lane : Nat) (up : Bool) (t : MirSt × Io) : MirSt × Io :=
  let b := if lane = 0 then 24 else 23
  if 1 < lane ∨ t.2.flag Reg.MIR.STAT b = up then t
  else
    let io1 := t.2.setFlag Reg.MIR.STAT b up
    (t.1, mirEvt 3 (q14Rec (if up then 4 else 0xC) (0x2B * 2 ^ 48 + lane * 2 ^ 47 + b2n up * 2 ^ 46) io1))

/-! Received frames. -/

/-- R541, R554, R558, R560: what every frame brings; none where it is discarded. Assumption log: 154 (DEDUCED). -/
def mirFrame (h : MirHdr) (t : MirSt × Io) : (MirSt × Io) × Bool :=
  if !(paired t.2 && t.1.started) then (t, false)
  else if !(h.tagOk && pairKey t.2) then ((t.1, t.2.count Reg.MIR.TAG_FAIL_CNT), false)
  else
    let io1 := t.2.setReg Reg.MIR.TIME_OFS (wS (sat32 h.ofs))
    let m1 : MirSt := { t.1 with pPairs := some (h.pairs, t.2.now), pState := h.state, pCause := if h.state = 4 then h.cause else 0 }
    if h.state = t.1.pState then ((m1, io1), true)
    else
      let io2 := if h.state = 4 then io1.setFld Reg.MIR.STAT 15 8 h.cause else io1
      ((m1, mirEvt 1 (q14Rec 8 (0x29 * 2 ^ 48 + h.state * 2 ^ 45 + (if h.state = 4 then h.cause else 0) * 2 ^ 24) io2)), true)

/-- The offset is within TIME_TOL_US. -/
def timeTol (io : Io) : Bool := decide ((sW (io.reg Reg.MIR.TIME_OFS)).natAbs ≤ io.fld Reg.MIR.CFG 15 8 * us)

/-- R543: SYNC becomes STANDBY. `ledger`: ledger deltas apply without a gap. Assumption log: 23 (DESIGN CHOICE). -/
def standbyReady (ledger : Bool) (t : MirSt × Io) : MirSt × Io :=
  if mirState t.2 == 1 && t.1.claim.isNone && t.1.image && decide (8 ≤ t.1.run) && ledger && t.1.hello.isSome && !mirMismatch t.2 && timeTol t.2 then
    roleGo 2 0 t
  else t

/-- R543: STANDBY is lost when R542 or the offset no longer hold. -/
def standbyCheck (t : MirSt × Io) : MirSt × Io :=
  if mirState t.2 == 2 && t.1.claim.isNone && (mirMismatch t.2 || !timeTol t.2) then syncLost t else t

/-- R543, R552: a TICK frame; `n`: the tick in progress. It is applied at the next tick start. A final frame is as old as the
last commit. Assumption log: 153 (DEDUCED). -/
def tickFrame (h : MirHdr) (body : Option MirBody) (n : Nat) (ledger : Bool) (t : MirSt × Io) : MirSt × Io :=
  let r := mirFrame h t
  if !r.2 then r.1
  else
    let u := r.1
    let gap := u.1.rxSeq.elim false fun q => h.seq != (q + 1) % 2 ^ 32
    let late := h.state != 4 && decide (h.tick + 2 < n)
    let m1 : MirSt := { u.1 with rxSeq := some h.seq }
    if gap || late then
      let io1 := u.2.count Reg.MIR.GAP_CNT
      if mirState io1 == 2 && m1.claim.isNone then syncLost (m1, io1) else ({ m1 with run := 0 }, io1)
    else
      let take := (mirState u.2 == 1 || mirState u.2 == 2) && m1.claim.isNone
      let m2 : MirSt := match body with
        | some b => if take then { m1 with pend := some (h.tick, b), run := if m1.image then m1.run + 1 else 0 } else m1
        | none => m1
      standbyCheck (standbyReady ledger (m2, u.2))

/-- R542: a HELLO; `own`: the unit's configuration measurement, `ver`: its MODEL_VER. Assumption log: 153 (DEDUCED). -/
def helloFrame (h : MirHdr) (p : Hello) (own : List Byte) (ver : Nat) (ledger : Bool) (t : MirSt × Io) : MirSt × Io :=
  let r := mirFrame h t
  if !r.2 then r.1
  else
    let bad := p.meas != own || p.ver != ver
    let io1 := if bad && !mirMismatch r.1.2 then mirEvt 4 r.1.2 else r.1.2
    standbyCheck (standbyReady ledger ({ r.1.1 with hello := some p, helloState := h.state }, io1.setFlag Reg.MIR.STAT 22 bad))

/-- R550: the partner asks for an image. -/
def imageReq (h : MirHdr) (t : MirSt × Io) : MirSt × Io :=
  let r := mirFrame h t
  if r.2 && mirState r.1.2 == 3 then mirSend 4 (r.1.2.reg Reg.MIR.LAST_TICK).toNat r.1 else r.1

/-- R543: an image has been applied. -/
def imageDone (tick : Nat) (t : MirSt × Io) : MirSt × Io :=
  ({ t.1 with image := true, run := 0 }, (t.2.count Reg.MIR.IMAGE_CNT).setReg Reg.MIR.LAST_TICK (w32 tick))

/-! The tick (R537, R550, R551). -/

/-- At the start of a tick: the heartbeat, the role hold. -/
def mirTickStart (t : MirSt × Io) : MirSt × Io :=
  if t.1.started && t.1.hb then
    ({ t.1 with hbOut := !t.1.hbOut, holdAt := t.2.now }, t.2.drive "MIR_HB_OUT" t.2.ownId [b2n (!t.1.hbOut)])
  else t

/-- R550: session checkpoints, every 100 ms. Assumption log: 160 (DESIGN CHOICE). -/
def checkpoints (sessions : List Nat) (t : MirSt × Io) : MirSt × Io :=
  let w := t.2.now / (100 * ms) + 1
  if paired t.2 && mirState t.2 == 3 && t.1.ckpt != w then
    sessions.foldl (fun (u : MirSt × Io) d =>
      let v := mirSend 3 d u
      (v.1, v.2)) ({ t.1 with ckpt := w }, t.2)
  else t

/-- Step 7: the committed state is frozen and sent. -/
def mirStep7 (n : Nat) (body : MirBody) (t : MirSt × Io) : MirSt × Io :=
  if paired t.2 && mirState t.2 == 3 then
    mirSend 1 n ({ t.1 with buf := some (n, body) }, t.2.setReg Reg.MIR.LAST_TICK (w32 n))
  else t

/-- R558: whether the feedback conditions apply to a pair. -/
def fbApplies (m : MirSt) (io : Io) (p : Nat) : Bool :=
  !paired io || !hbOk io || m.pPairs.elim false fun e =>
    decide (io.now < e.2 + ms) && (e.1[p]?).elim false fun s => s == 0 || s == 4

/-- R555: the partner's pair holds the coil, as its last frame shows. Assumption log: 156 (DEDUCED). -/
def partnerCoil (m : MirSt) (io : Io) (p : Nat) : Bool :=
  paired io && m.pPairs.elim false fun e => (e.1[p]?).elim false fun s => s == 2 || s == 3

/-- A reset: R538. The lines and the partner's are read again; lanes and lines stay as they are. -/
def mirReset (now : Nat) (wasActive : Bool) (m : MirSt) : MirSt :=
  { MirSt.init with holdAt := now, hbAt := m.hbAt, hbLost := m.hbLost, pSince := m.pSince, wdt := m.wdt || wasActive }

end Sys2Proof.Machine
end

