-- ==== Sys2Proof/Machine/MtrCal.lean ====
section
/-! DEFINITION. Sys2Proof/Machine/MtrCal.lean: civil dates and tariff calendars (R423 to R425, R429). Meter time is in ms. -/
namespace Sys2Proof.Machine

/-- Year, month and day of a day number (0 is 1970-01-01). -/
def civilOf (days : Nat) : Nat × Nat × Nat :=
  let z := days + 719468
  let doe := z % 146097
  let yoe := (doe - doe / 1460 + doe / 36524 - doe / 146096) / 365
  let doy := doe - (365 * yoe + yoe / 4 - yoe / 100)
  let mp := (5 * doy + 2) / 153
  let m := if mp < 10 then mp + 3 else mp - 9
  (yoe + z / 146097 * 400 + (if m ≤ 2 then 1 else 0), m, doy - (153 * mp + 2) / 5 + 1)

/-- The day number of a date from 1970 on. -/
def dayOf (y m d : Nat) : Nat :=
  let y' := if m ≤ 2 then y - 1 else y
  let yoe := y' % 400
  let doy := (153 * (if 2 < m then m - 3 else m + 9) + 2) / 5 + d - 1
  y' / 400 * 146097 + (yoe * 365 + yoe / 4 - yoe / 100 + doy) - 719468

/-- Weekday of a day number, 0 Monday. -/
def weekday (days : Nat) : Nat := (days + 3) % 7

/-- Days in a month. -/
def monthDays (y m : Nat) : Nat := if m = 12 then 31 else dayOf y (m + 1) 1 - dayOf y m 1

/-- A day of a DST rule: week 1 to 4 of a month, or 5, the last. -/
def nthDay (y m week wd : Nat) : Nat :=
  let first := dayOf y m 1
  let ofs := (wd + 7 - weekday first) % 7
  let last := ofs + (monthDays y m - 1 - ofs) / 7 * 7
  first + (if week = 5 then last else ofs + 7 * (week - 1))

/-- The meter time of a DST rule in a year, ms. -/
def dstAt (rule y : Nat) : Nat :=
  nthDay y (bitsN rule 7 0) (bitsN rule 15 8) (bitsN rule 23 16) * 86400000 + bitsN rule 31 24 * 3600000

/-- Fields of a calendar. -/
def calId (c : List Byte) : Nat := u32 c 0
def calActM (c : List Byte) : Nat := u64 c 8
def nDay (c : List Byte) : Nat := u8 c 0x10
def nWeek (c : List Byte) : Nat := u8 c 0x11
def nSeason (c : List Byte) : Nat := u8 c 0x12
def nBill (c : List Byte) : Nat := u8 c 0x13
def nSpecial (c : List Byte) : Nat := u16 c 0x14
def dstOfs (c : List Byte) : Nat := u16 c 0x16
def weekO (c : List Byte) : Nat := 0x40 + 32 * nDay c
def seasonO (c : List Byte) : Nat := weekO c + 8 * nWeek c
def specialO (c : List Byte) : Nat := seasonO c + 4 * nSeason c
def billO (c : List Byte) : Nat := specialO c + 8 * nSpecial c
def signO (c : List Byte) : Nat := billO c + 4 * nBill c

/-- Summer time is in force at meter time m. -/
def dstOn (c : List Byte) (m : Nat) : Bool :=
  if c.isEmpty || dstOfs c == 0 then false
  else
    let y := (civilOf (m / 86400000)).1
    let s := dstAt (u32 c 0x18) y
    let e := dstAt (u32 c 0x1C) y
    if s ≤ e then decide (s ≤ m) && decide (m < e) else decide (s ≤ m) || decide (m < e)

/-- Local civil time at meter time m. -/
def civilMs (c : List Byte) (m : Nat) : Nat := if dstOn c m then m + dstOfs c * 60000 else m

/-- A day profile's tariff for a quarter-hour: the entry with the greatest index not above it. -/
def dayTariff (c : List Byte) (p q : Nat) : Nat :=
  (List.range 16).foldl (fun (t : Nat) i =>
    let o := 0x40 + 32 * p + 2 * i
    if u8 c o != 0xFF && decide (u8 c o ≤ q) then u8 c (o + 1) else t) 0

/-- The special day that matches a date: a year-specific entry before an every-year one. -/
def specialDay (c : List Byte) (y m d : Nat) : Option Nat :=
  let hit := fun (yr : Nat) => (List.range (nSpecial c)).find? fun i =>
    let o := specialO c + 8 * i
    u16 c o == yr && u8 c (o + 2) == m && u8 c (o + 3) == d
  (hit y <|> hit 0).map fun i => u8 c (specialO c + 8 * i + 4)

/-- The week profile of the last season starting on or before a date. -/
def seasonWeek (c : List Byte) (m d : Nat) : Nat :=
  (List.range (nSeason c)).foldl (fun (w : Nat) i =>
    let o := seasonO c + 4 * i
    if u8 c o * 100 + u8 c (o + 1) ≤ m * 100 + d then u8 c (o + 2) else w) 0

/-- R424, R425: the tariff of an interval that opens at meter time m; tariff 0 without a calendar. -/
def tariffAt (c : List Byte) (m : Nat) : Nat :=
  if c.isEmpty then 0
  else
    let t := civilMs c m
    let days := t / 86400000
    let dt := civilOf days
    let q := t % 86400000 / 900000
    match specialDay c dt.1 dt.2.1 dt.2.2 with
    | some p => dayTariff c p q
    | none => dayTariff c (u8 c (weekO c + 8 * seasonWeek c dt.2.1 dt.2.2 + weekday days)) q

/-- R429: the interval that opens at meter time m opens at 00:00 local civil time of a billing date. -/
def billingAt (c : List Byte) (m : Nat) : Bool :=
  let t := civilMs c m
  let dt := civilOf (t / 86400000)
  !c.isEmpty && t % 86400000 == 0
    && (List.range (nBill c)).any fun i => u8 c (billO c + 4 * i) == dt.2.1 && u8 c (billO c + 4 * i + 1) == dt.2.2

/-- A date that some year has. -/
def dateOk (m d : Nat) : Bool := decide (1 ≤ m ∧ m ≤ 12 ∧ 1 ≤ d) && decide (d ≤ monthDays 2000 m)

def zeroAt (c : List Byte) (o n : Nat) : Bool := leN c o n == 0

/-- The entries of a day profile: index 0 first, strictly ascending, then 0xFF. -/
def dayOk (c : List Byte) (p : Nat) : Bool :=
  let e := (List.range 16).map fun i => (u8 c (0x40 + 32 * p + 2 * i), u8 c (0x40 + 32 * p + 2 * i + 1))
  let used := e.takeWhile fun x => x != (0xFF, 0xFF)
  ((used.head?).map Prod.fst) == some 0 && used.all (fun x => decide (x.1 ≤ 95) && decide (x.2 ≤ 15))
    && (used.zip (used.drop 1)).all (fun x => decide (x.1.1 < x.2.1)) && (e.drop used.length).all fun x => x == (0xFF, 0xFF)

def dstRuleOk (r : Nat) : Bool :=
  decide (1 ≤ bitsN r 7 0 ∧ bitsN r 7 0 ≤ 12) && decide (1 ≤ bitsN r 15 8 ∧ bitsN r 15 8 ≤ 5) && decide (bitsN r 23 16 ≤ 6)
    && decide (bitsN r 31 24 ≤ 23)

/-- R423: counts, indexes, orders and zero fields, and the length. -/
def calFormatOk (c : List Byte) : Bool :=
  let sea := fun i => u8 c (seasonO c + 4 * i) * 100 + u8 c (seasonO c + 4 * i + 1)
  decide (1 ≤ nDay c ∧ nDay c ≤ 32) && decide (1 ≤ nWeek c ∧ nWeek c ≤ 16) && decide (1 ≤ nSeason c ∧ nSeason c ≤ 16)
    && decide (nBill c ≤ 12) && decide (nSpecial c ≤ 128) && decide (dstOfs c ≤ 120) && calId c != 0
    && calActM c % 900000 == 0 && zeroAt c 4 4 && zeroAt c 0x20 32 && c.length == signO c + 114
    && (dstOfs c == 0 || (dstRuleOk (u32 c 0x18) && dstRuleOk (u32 c 0x1C)))
    && (List.range (nDay c)).all (dayOk c)
    && (List.range (nWeek c)).all (fun w => (List.range 7).all (fun i => decide (u8 c (weekO c + 8 * w + i) < nDay c))
          && u8 c (weekO c + 8 * w + 7) == 0)
    && (List.range (nSeason c)).all (fun i => dateOk (u8 c (seasonO c + 4 * i)) (u8 c (seasonO c + 4 * i + 1))
          && decide (u8 c (seasonO c + 4 * i + 2) < nWeek c) && u8 c (seasonO c + 4 * i + 3) == 0
          && (if i = 0 then sea 0 == 101 else decide (sea (i - 1) < sea i)))
    && (List.range (nSpecial c)).all (fun i => dateOk (u8 c (specialO c + 8 * i + 2)) (u8 c (specialO c + 8 * i + 3))
          && decide (u8 c (specialO c + 8 * i + 4) < nDay c) && zeroAt c (specialO c + 8 * i + 5) 3)
    && (List.range (nBill c)).all fun i => dateOk (u8 c (billO c + 4 * i)) (u8 c (billO c + 4 * i + 1))
          && zeroAt c (billO c + 4 * i + 2) 2

end Sys2Proof.Machine
end

