-- ==== Sys2Proof/Machine/Mtr.lean ====
section
/-! DEFINITION. Sys2Proof/Machine/Mtr.lean: the legal clock, channels, blocks, samples and transactions of Sepia
(R398 to R422, R430 to R440, R449, R455 to R458). Every function acts on the pair of Sepia's state and `Io`. -/
namespace Sys2Proof.Machine

/-! The legal-parameter section (R399). -/

def lpStd (s : MtrSt) : Int := mS32 s.lp 4
def lpTai (s : MtrSt) : Nat := mU16 s.lp 8
def lpAbsent (s : MtrSt) : Nat := mU16 s.lp 0xA
def lpAdjMax (s : MtrSt) : Nat := mU32 s.lp 0xC
def lpAdjDay (s : MtrSt) : Nat := mU32 s.lp 0x10
def lpGrace (s : MtrSt) : Nat := mU16 s.lp 0x14
def lpMeterKey (s : MtrSt) : Nat := mU8 s.lp 0x18
/-- Pages of an archive region: kind 1 to 4. -/
def lpPages (s : MtrSt) (kind : Nat) : Nat := mU32 s.lp (0x20 + 8 * (kind - 1) + 4) / 8
def lpMask (s : MtrSt) (p : Nat) : Nat := mU8 s.lp (0x40 + 16 * p)
def lpHead (s : MtrSt) (c : Nat) : Nat := mU16 s.lp (0xC0 + 16 * c)
def lpEn (s : MtrSt) (c : Nat) : Bool := mU8 s.lp (0xC0 + 16 * c + 2) == 1
def lpPMax (s : MtrSt) (c : Nat) : Nat := mU32 s.lp (0xC0 + 16 * c + 4)
def lpSerial (s : MtrSt) (c : Nat) : Nat := mN s.lp (0xC0 + 16 * c + 8) 8

/-- R398: the channel has a configured source. -/
def chCfg (s : MtrSt) (c : Nat) : Bool := if c < 256 then lpEn s c else decide (c < 264) && lpMask s (c - 256) != 0

/-- The configured channels. -/
def channels (s : MtrSt) : List Nat := (List.range 264).filter (chCfg s)

/-! The legal clock (R415 to R418). -/

/-- D at a site time: while slewing it falls toward zero at 200 ppm. -/
def LClock.dAt (c : LClock) (now : Nat) : Int :=
  match c.slew with
  | some t0 => max 0 (c.d - ((now - t0) / 5000 : Nat))
  | none => c.d

/-- L at a site time. -/
def legalAt (s : MtrSt) (io : Io) (t : Nat) : Int := t + s.clk.dAt io.now

def legalNow (s : MtrSt) (io : Io) : Int := legalAt s io io.now

/-- Meter time of a legal time, ms. -/
def meterMs (s : MtrSt) (l : Int) : Nat := (l / 1000000 + (lpStd s - s.clk.tai) * 1000 + s.clk.adj).toNat

/-- The interval that contains M at a legal time. -/
def ivOf (s : MtrSt) (l : Int) : Nat := meterMs s l / 900000

/-! Q8 (R461 to R463). -/

/-- A Q8 record with its priority; a full bank drops it. -/
def q8Rec (prio payload : Nat) (io : Io) : Io :=
  match io.putPkt 8 [qWord true true prio (payload + b2n (Tbl.get io.gaps false 8) * 2 ^ 47)] with
  | some io1 => { io1 with gaps := Tbl.set io1.gaps false 8 false }
  | none => { io with gaps := Tbl.set io.gaps false 8 true }.count Reg.MTR.Q8_DROP

def mEvt (i : Nat) (io : Io) : Io := io.evt 0x40400000 i

/-- A CHANNEL record. -/
def chanRec (c ev seq : Nat) (io : Io) : Io :=
  q8Rec (if ev = 2 ∨ ev = 3 ∨ ev = 7 then 0xC else 8) (0x5D * 2 ^ 48 + c * 2 ^ 38 + ev * 2 ^ 34 + seq % 2 ^ 32) (mEvt 4 io)

/-- A CLOCK record: a number of ms. -/
def clockRec (k : Nat) (msec : Int) (io : Io) : Io :=
  q8Rec (if k = 4 then 0xC else 8) (0x5C * 2 ^ 48 + k * 2 ^ 44 + unS 32 (sat32 msec)) (mEvt 5 io)

/-- A LEGAL record. Assumption log: 119 (DEDUCED). -/
def legalRec (k detail : Nat) (io : Io) : Io :=
  q8Rec (if k = 0 ∨ k = 3 ∨ k = 4 then 0xC else 4) (0x5F * 2 ^ 48 + k * 2 ^ 43 + detail % 2 ^ 32) io

/-- A CREDIT record: 0 LOW, 1 OUT, 2 RESTORED; the credit in Wh. Assumption log: 123 (DESIGN CHOICE). -/
def creditRec (c k : Nat) (credit : Int) (io : Io) : Io :=
  q8Rec (if k = 1 then 0xC else 4) (0x5B * 2 ^ 48 + c * 2 ^ 38 + k * 2 ^ 36 + unS 32 (sat32 (odiv credit 1000))) io

/-! The metrological log. -/

/-- An entry of the rolling log. Assumption log: 119 (DEDUCED). -/
def logRoll (code : Nat) (detail : List Byte) (t : MtrSt × Io) : MtrSt × Io :=
  let f := t.2.fresh
  let l := legalNow t.1 t.2
  ({ t.1 with roll := t.1.roll ++ [⟨l, code, detail, f.1⟩],
              arch := { t.1.arch with logSince := t.1.arch.logSince <|> some l } }, f.2)

/-- An entry of the permanent log, which holds 256. Assumption log: 119 (DEDUCED). -/
def logPerm (code : Nat) (detail : List Byte) (t : MtrSt × Io) : MtrSt × Io :=
  if t.1.perm.length < 256 then
    let f := t.2.fresh
    ({ t.1 with perm := t.1.perm ++ [⟨legalNow t.1 t.2, code, detail, f.1⟩] }, f.2)
  else t

/-! Channels. -/

def chOf (s : MtrSt) (c : Nat) : MtrCh := Tbl.get s.ch MtrCh.init c
def chPut (c : Nat) (x : MtrCh) (t : MtrSt × Io) : MtrSt × Io := ({ t.1 with ch := Tbl.set t.1.ch MtrCh.init c x }, t.2)
def chUpd (c : Nat) (f : MtrCh → MtrCh) (t : MtrSt × Io) : MtrSt × Io := chPut c (f (chOf t.1 c)) t

/-- Or a flag into a byte of flags. -/
def orFlag (fl bit : Nat) : Nat := Nat.lor fl bit

def MtrCh.txnFlag (x : MtrCh) (bit : Nat) : MtrCh :=
  { x with txn := x.txn.map fun t => { t with flags := orFlag t.flags bit } }

/-- A commit of a channel (R434, R455): L and the channel go to MRAM, LEDGER_SEQ advances, and the ledger delta of a dispenser
channel is handed to MIR. -/
def commit (c : Nat) (t : MtrSt × Io) : MtrSt × Io :=
  let s := t.1
  let s1 : MtrSt := { s with
    ledger := s.ledger + 1, clk := { s.clk with saved := legalNow s t.2 },
    nv := if c < 256 then s.nv else Tbl.set s.nv MtrCh.init c (chOf s c) }
  (s1, if c < 256 ∧ t.2.flag Reg.MIR.CFG 0 then t.2.drive "LEDGER" c [s1.ledger] else t.2)

/-- Energy enters a channel: into the totals and the tariff of the open interval, and of the open transaction once it has
its opening reading; or, with `cur` false, into the interval after it. Assumption log: 117 (DEDUCED). -/
def MtrCh.add (x : MtrCh) (cur : Bool) (tariff dI dE : Nat) : MtrCh :=
  let e := x.e
  if cur then
    { x with
      e := { e with imp := e.imp + dI, exp := e.exp + dE, tarImp := Tbl.upd e.tarImp 0 tariff (· + dI),
                    tarExp := Tbl.upd e.tarExp 0 tariff (· + dE) },
      txn := x.txn.map fun t => if t.start.isSome then
        { t with tarImp := Tbl.upd t.tarImp 0 tariff (· + dI), tarExp := Tbl.upd t.tarExp 0 tariff (· + dE) } else t }
  else { x with e := { e with nextImp := e.nextImp + dI, nextExp := e.nextExp + dE } }

/-- R449: an imported delta is taken from the credit. -/
def takeCredit (c dI : Nat) (t : MtrSt × Io) : MtrSt × Io :=
  let x := chOf t.1 c
  if x.prepay then
    let old := x.e.credit
    let new := old - dI
    let t1 := chPut c { x with e := { x.e with credit := new } } t
    let io1 := if 10000000 ≤ old ∧ new < 10000000 then creditRec c 0 new t1.2 else t1.2
    (t1.1, if 0 < old ∧ new ≤ 0 then creditRec c 1 new io1 else io1)
  else t

/-! Transactions (R438 to R440). -/

/-- The first 8 bytes of SHAKE256 of the metering public key, as SIGNER shows them. -/
def signer (s : MtrSt) : List Byte :=
  match s.key with
  | some k => (List.range 8).map (Config.shake ((List.range 57).map (Config.pubKey k)))
  | none => zeros 8

/-- An Ed448 signature, 114 bytes, number n. -/
def sigBytes (n : Nat) : List Byte := (List.range 114).map (Config.signature n)

def tarBytes (t : Tbl Nat) : List Byte := (List.range 16).flatMap fun i => le 8 (Tbl.get t 0 i)

/-- The body of a transaction record (R440) before SIGNER. -/
def txnHead (s : MtrSt) (c : Nat) (x : Txn) (st en : Reading) (flags : Nat) : List Byte :=
  le 2 1 ++ le 1 c ++ le 1 flags ++ le 4 x.seq ++ leS 8 st.l ++ leS 8 en.l ++ leS 8 st.civil ++ leS 8 en.civil
    ++ le 8 (lpSerial s c) ++ le 8 st.imp ++ le 8 st.exp ++ le 8 en.imp ++ le 8 en.exp
    ++ (x.auth ++ zeros 24).take 24 ++ le 4 (calId s.active) ++ zeros 4 ++ (s.check ++ zeros 8).take 8

/-- The record is signed and written; without METER_KEY it waits (R496). -/
def txnSign (c seq : Nat) (head tail : List Byte) (t : MtrSt × Io) : MtrSt × Io :=
  let s := t.1
  if s.key.isSome then
    let f := t.2.fresh
    let rec_ := head ++ signer s ++ tail ++ sigBytes f.1 ++ zeros 14
    ({ s with arch := { s.arch with txns := s.arch.txns ++ [(seq, rec_)], txnSince := s.arch.txnSince <|> some (legalNow s t.2) } },
     q8Rec 4 (0x59 * 2 ^ 48 + c * 2 ^ 38 + seq % 2 ^ 32) (mEvt 2 f.2))
  else ({ s with unsigned := s.unsigned ++ [(c, seq, head, tail)] }, t.2)

/-- METER_KEY's slot has changed: with a key, the waiting records are signed (R496). -/
def meterKey (k : Option Nat) (t : MtrSt × Io) : MtrSt × Io :=
  if k.isNone then ({ t.1 with key := none }, t.2)
  else t.1.unsigned.foldl (fun (u : MtrSt × Io) e => txnSign e.1 e.2.1 e.2.2.1 e.2.2.2 u) ({ t.1 with key := k, unsigned := [] }, t.2)

/-- A reading from a block. -/
def readingOf (s : MtrSt) (io : Io) (b : MBlock) : Reading :=
  let l := legalAt s io b.meas
  ⟨l, civilMs s.active (meterMs s l), b.imp, b.exp⟩

/-- A transaction ends with a closing reading: signed and recorded. While PROFILE_HALT is set it carries PWR_FAIL (R445). -/
def txnFinish (c : Nat) (b : MBlock) (fl : Nat) (t : MtrSt × Io) : MtrSt × Io :=
  let x := chOf t.1 c
  match x.txn with
  | none => t
  | some k =>
    let en := readingOf t.1 t.2 b
    let flags := orFlag (orFlag (orFlag k.flags fl) (32 * b2n x.prepay)) (2 * b2n t.1.halt)
    let t1 := chPut c { x with txn := none } t
    txnSign c k.seq (txnHead t.1 c k (k.start.getD en) en flags) (tarBytes k.tarImp ++ tarBytes k.tarExp) t1

/-- The opening and closing readings that an accepted block gives. -/
def txnBlock (c : Nat) (b : MBlock) (t : MtrSt × Io) : MtrSt × Io :=
  let x := chOf t.1 c
  match x.txn with
  | none => t
  | some k =>
    let k1 : Txn := if k.start.isNone && decide (k.at_ ≤ b.meas) then { k with start := some (readingOf t.1 t.2 b) } else k
    let t1 := chPut c { x with txn := some k1 } t
    match k1.closeAt with
    | some a => if a ≤ b.meas then txnFinish c b 0 t1 else t1
    | none => t1

/-- R439: no block within ABSENT_MS of the close instant. -/
def txnLate (c : Nat) (t : MtrSt × Io) : MtrSt × Io :=
  let x := chOf t.1 c
  match x.txn, x.ref with
  | some k, some b => match k.ending with
    | some e => if e ≤ t.2.now then commit c (txnFinish c b 1 t) else t
    | none => t
  | _, _ => t

/-- A close instant is set. -/
def txnEnd (c at_ fl : Nat) (t : MtrSt × Io) : MtrSt × Io :=
  chUpd c (fun x => { x with txn := x.txn.map fun k => if k.closeAt.isSome then k else
    { k with closeAt := some at_, flags := orFlag k.flags fl, ending := some (at_ + lpAbsent t.1 * ms) } }) t

/-! Blocks (R401 to R407, R430). -/

/-- A METER_BLOCK payload. -/
def parseBlock (m : AtkMsg) : MBlock :=
  ⟨m.seq, u64 m.payload 8, u16 m.payload 2, u64 m.payload 16, u64 m.payload 24, u8 m.payload 1 % 2 == 1⟩

/-- The checks of R403 but the last. -/
def blockOk (s : MtrSt) (m : AtkMsg) : Bool :=
  let c := u8 m.payload 0
  m.payload.length == 48 && lpEn s c && lpHead s c == m.src && u64 m.payload 40 == lpSerial s c && decide (u64 m.payload 8 ≤ m.time)

/-- The bound of R404 on a delta over a time in ns: P_MAX_W times it times 1.01, in mWh, plus one. -/
def plausible (pmax dt : Nat) (d : Int) : Bool := decide ((d - 1) * 360000000000 ≤ (pmax * dt * 101 : Nat))

/-- An accepted block is the new reference; HEAD_ERR (R407), the end of an absence (R406), the transaction. Assumption log: 117 (DEDUCED). -/
def blockTaken (c : Nat) (b : MBlock) (t : MtrSt × Io) : MtrSt × Io :=
  let x := chOf t.1 c
  let x1 : MtrCh := { x with
    st := 1, ref := some b, acceptedAt := t.2.now, bad := false,
    flags := if b.headErr then orFlag x.flags 32 else x.flags }
  let x2 := if b.headErr then x1.txnFlag 128 else x1
  let io1 := if x.st = 2 then chanRec c 1 b.seq t.2 else t.2
  let io2 := if b.headErr && Nat.land x.flags 32 == 0 then chanRec c 5 b.seq io1 else io1
  commit c (txnBlock c b (chPut c x2 (t.1, mEvt 0 io2)))

/-- A block that passed R403: baseline, delta, or suspicion (R404, R405). Assumption log: 117 (DEDUCED). -/
def takeBlock (c : Nat) (b : MBlock) (t : MtrSt × Io) : MtrSt × Io :=
  let x := chOf t.1 c
  match x.ref with
  | none => blockTaken c b t
  | some r =>
    if b.ctrId = r.ctrId then
      let dI : Int := (b.imp : Int) - r.imp
      let dE : Int := (b.exp : Int) - r.exp
      let dt := b.meas - r.meas
      if dI < 0 ∨ dE < 0 then chPut c { x with st := 3 } (t.1, chanRec c 2 b.seq t.2)
      else if !(plausible (lpPMax t.1 c) dt dI && plausible (lpPMax t.1 c) dt dE) then
        chPut c { x with st := 3 } (t.1, chanRec c 3 b.seq t.2)
      else
        let iv := ivOf t.1 (legalAt t.1 t.2 b.meas)
        let cur := decide (iv ≤ t.1.iv.iv)
        let carry := decide (iv < t.1.iv.iv) || decide (ivOf t.1 (legalAt t.1 t.2 r.meas) < t.1.iv.iv)
        let x1 := x.add cur t.1.iv.tariff dI.toNat dE.toNat
        let x2 : MtrCh := if carry then { x1 with flags := orFlag x1.flags 2 } else x1
        blockTaken c b (takeCredit c dI.toNat (chPut c x2 t))
    else
      let x1 := { x with flags := orFlag x.flags 64 }.txnFlag 8
      blockTaken c b (logRoll 5 (le 8 b.imp ++ le 8 b.exp) (chPut c x1 (t.1, chanRec c 4 b.seq t.2)))

/-- R403, R455: a METER_BLOCK that has passed R324. -/
def meterBlock (active : Bool) (m : AtkMsg) (t : MtrSt × Io) : MtrSt × Io :=
  let c := u8 m.payload 0
  let b := parseBlock m
  let x := chOf t.1 c
  if !t.1.running then t
  else if active then
    let newer := match x.ref with
      | some r => decide (r.meas < b.meas)
      | none => true
    if blockOk t.1 m && newer then takeBlock c b t
    else
      let io1 := if x.bad then t.2 else chanRec c 6 m.seq t.2
      chPut c { x with bad := true, refused := x.refused + 1 } (t.1, io1)
  else
    let newer := match Tbl.get t.1.kept none c with
      | some k => decide (k.meas < b.meas)
      | none => true
    if blockOk t.1 m && newer then ({ t.1 with kept := Tbl.set t.1.kept none c (some b) }, t.2) else t

/-- R406, R439: ABSENT_MS without an accepted block; or without the closing reading of a transaction. Assumption log: 118 (DEDUCED). -/
def channelAbsent (c : Nat) (t : MtrSt × Io) : MtrSt × Io :=
  let x := chOf t.1 c
  let t1 := if t.1.running && decide (c < 256) && chCfg t.1 c && t.2.active && (x.st == 1 || x.st == 3)
      && decide (x.acceptedAt + lpAbsent t.1 * ms ≤ t.2.now) then
    commit c (chPut c ({ x with st := 2, flags := orFlag x.flags 1 }.txnFlag 1) (t.1, chanRec c 0 0 t.2))
  else t
  txnLate c t1

/-- R457: after a takeover the kept blocks newer than each channel's reference are integrated. -/
def mtrTakeover (t : MtrSt × Io) : MtrSt × Io :=
  let t1 := (channels t.1).foldl (fun (u : MtrSt × Io) c => chUpd c (fun x => x.txnFlag 16) u) t
  let t2 := t1.1.kept.foldl (fun (u : MtrSt × Io) e => match e.2 with
    | some b =>
      let newer := match (chOf u.1 e.1).ref with
        | some r => decide (r.meas < b.meas)
        | none => true
      if newer then takeBlock e.1 b u else u
    | none => u) t1
  ({ t2.1 with kept := [] }, t2.2)

/-! Meter points (R408, R409, R431). -/

/-- 1 mWh in units of 2^-32 W times 125 µs. -/
def mWhUnits : Nat := 28800 * 2 ^ 32

/-- An element's power at a sample, 2^-32 W: its calibrated voltage times its calibrated, delayed current. The gains have
30 fraction bits each. Assumption log: 116 (DEDUCED). -/
def elemPower (io : Io) (e : Nat) (raw : Int × Int) : Int :=
  let v := (raw.1 - sW (io.reg (Reg.MTR.CAL_V_OFS e))) * (io.reg (Reg.MTR.CAL_V_GAIN e)).toNat
  let i := (raw.2 - sW (io.reg (Reg.MTR.CAL_I_OFS e))) * (io.reg (Reg.MTR.CAL_I_GAIN e)).toNat
  odiv (v * i) (2 ^ 28)

/-- The elements of a point. -/
def pointElems (s : MtrSt) (p : Nat) : List Nat := (List.range 8).filter fun e => bitsN (lpMask s p) e e == 1

/-- R409: eight failures in a row stop the point. -/
def pointFault (p : Nat) (t : MtrSt × Io) : MtrSt × Io :=
  let c := 256 + p
  let x := chOf t.1 c
  if decide (p < 8) && decide (8 ≤ x.badPw) && x.st != 4 then commit c (chPut c { x with st := 4 } (t.1, chanRec c 7 0 t.2)) else t

/-- One point at one sample: `bad`: a residue check failed. Assumption log: 116 (DEDUCED). -/
def pointSample (p : Nat) (pw0 : Int) (bad : Bool) (t : MtrSt × Io) : MtrSt × Io :=
  let c := 256 + p
  let x := chOf t.1 c
  if !chCfg t.1 c || x.st == 4 then t
  else
    let pw := if bad then x.pw else pw0
    let io1 : Io := if bad then t.2.errRec .mtr 0 ⟨4, 0, 0, 0, 0x40400000, p, t.2.now⟩ else t.2
    let aI := x.e.accImp + (if 0 ≤ pw then pw.toNat else 0)
    let aE := x.e.accExp + (if 0 ≤ pw then 0 else pw.natAbs)
    let cur := decide (ivOf t.1 (legalNow t.1 t.2) ≤ t.1.iv.iv)
    let x1 := { x with e := { x.e with accImp := aI % mWhUnits, accExp := aE % mWhUnits },
                       badPw := if bad then x.badPw + 1 else 0, pw := pw }.add cur t.1.iv.tariff (aI / mWhUnits) (aE / mWhUnits)
    pointFault p (chPut c x1 (t.1, io1))

/-- R414: a calibration window takes the element's energy at the sample nearest each end. -/
def calLatch (now : Nat) (energy : Int) (r : CalRun) : CalRun :=
  { r with e0 := if r.e0.isNone && decide (r.t0 ≤ now + 62500) then some energy else r.e0,
           e1 := if r.e1.isNone && decide (r.t1 ≤ now + 62500) then some energy else r.e1 }

/-- R408: one sample of the eight elements: raw voltage and raw current delayed by PH_CORR; `bad`: the points whose
residue check failed. Assumption log: 116 (DEDUCED). -/
def metrologySample (raw : List (Int × Int)) (bad : List Nat) (t : MtrSt × Io) : MtrSt × Io :=
  if !t.1.running then t
  else
    let pws := (List.range 8).map fun e => elemPower t.2 e ((raw[e]?).getD (0, 0))
    let s1 : MtrSt := { t.1 with
      sampleAt := t.2.now,
      elemE := (List.range 8).foldl (fun (u : Tbl Int) e => Tbl.upd u 0 e (· + (pws[e]?).getD 0)) t.1.elemE }
    let s2 : MtrSt := { s1 with
      calRun := Tbl.mapVals s1.calRun none fun e r => r.map (calLatch t.2.now (Tbl.get s1.elemE 0 e)) }
    (List.range 8).foldl (fun (u : MtrSt × Io) p =>
      pointSample p ((pointElems u.1 p).foldl (fun (a : Int) e => a + (pws[e]?).getD 0) 0) (bad.contains p) u) (s2, t.2)

/-- R413, R414: ANNOUNCE. -/
def calAnnounce (p : List Byte) (t : MtrSt × Io) : MtrSt × Io :=
  let a := u64 p 8
  let z := u64 p 16
  if p.length == 32 && decide (u8 p 0 < 8) && u8 p 1 == 1 && u16 p 2 == 0 && u64 p 24 == 0 && decide (a + sec ≤ z)
      && decide (z ≤ a + 3600 * sec) && decide (t.2.now + 10 * ms ≤ a) then
    ({ t.1 with calRun := Tbl.set t.1.calRun none (u8 p 0) (some ⟨u32 p 4, a, z, none, none⟩) }, t.2)
  else t

/-- R414: RESULT. The error in ppm; without reference energy the quotient has no value and is free. -/
def calResult (p : List Byte) (t : MtrSt × Io) : MtrSt × Io :=
  let e := u8 p 0
  match Tbl.get t.1.calRun none e with
  | some r => match r.e0, r.e1 with
    | some a, some b =>
      if p.length == 32 && u8 p 1 == 2 && u16 p 2 == 0 && r.run == u32 p 4 then
        let ref := u64 p 24
        -- microwatt-hours: 28.8 units of 2^32
        let num : Int := ((b - a) * 10 - (ref * (288 * 2 ^ 32) : Nat)) * 1000000
        let f := t.2.fresh
        let ppm := if ref = 0 then Config.freeInt f.1 else odiv num (ref * (288 * 2 ^ 32))
        ({ t.1 with calRun := Tbl.set t.1.calRun none e none }, legalRec 7 (unS 32 (sat32 ppm)) (if ref = 0 then f.2 else t.2))
      else t
    | _, _ => t
  | none => t

/-- R411: the seal loop has been seen open, or closed, for 10 ms. -/
def sealEvent (isOpen : Bool) (t : MtrSt × Io) : MtrSt × Io :=
  if t.2.flag Reg.MTR.SEAL 31 == isOpen then t
  else
    let cnt := if isOpen then min 32 (t.1.sealCnt + 1) else t.1.sealCnt
    let t1 := logPerm (if isOpen then 1 else 2) (le 16 cnt) ({ t.1 with sealCnt := cnt }, t.2)
    (t1.1, legalRec (if isOpen then 0 else 1) 0 (mEvt 7 (t1.2.setFlag Reg.MTR.SEAL 31 isOpen)))

/-- R410, R412: Sepia writes word `w` (0 to 4) of element e's calibration set; `lcOk`: the life-cycle state is PROVISIONED or
MAINTENANCE. The entry carries the element, the new set, and a digest of the old one. -/
def calWrite (who : Who) (e w : Nat) (v : Word) (lcOk : Bool) (t : MtrSt × Io) : MtrSt × Io :=
  let a := 0x40400600 + 0x20 * e + 4 * w
  if !(decide (e < 8) && decide (w < 5)) then t
  else if !mayWrite who a then (t.1, t.2.accessAt 1 who a v.toNat)
  else if !(t.2.flag Reg.MTR.SEAL 31 && lcOk) then (t.1, t.2.accessAt 3 who a v.toNat)
  else if 32 ≤ t.1.sealCnt ∨ 256 ≤ t.1.perm.length then logRoll 3 (le 16 e) t
  else
    let t1 := logPerm 4 (le 1 e ++ le 1 w ++ le 4 v.toNat) (t.1, t.2.setReg a v)
    (t1.1, legalRec 2 e (t1.2.setReg (Reg.MTR.CAL_STAMP e) (w32 (t1.1.perm.length - 1))))

end Sys2Proof.Machine
end

