-- ==== Sys2Proof/Machine/MtrOps.lean ====
section
/-! DEFINITION. Sys2Proof/Machine/MtrOps.lean: intervals, the clock's adjustments, the mailbox, the archive, tokens, the
ledger, and Sepia's start (R415 to R437, R441 to R460). -/
namespace Sys2Proof.Machine

/-! Intervals (R420 to R422, R425, R428, R429, R432, R433, R445). -/

/-- The entry a channel writes when its interval closes. -/
def profEnt (x : MtrCh) (iv tariff flags legalS dI dE : Nat) : ProfEnt :=
  ⟨x.e.imp, x.e.exp, iv % 2 ^ 32, tariff, flags, satU 16 legalS, dI * 4 / 1000, dE * 4 / 1000⟩

/-- R432, R433, R445: a channel takes an entry; the Boolean: it found no room. Assumption log: 127 (DEDUCED). -/
def MtrCh.profile (x : MtrCh) (p : ProfEnt) : MtrCh × Bool :=
  if 192 ≤ x.unarch then (x, true)
  else
    let counts := Nat.land p.flags 24 == 0
    let x1 : MtrCh := { x with ring := (x.ring ++ [p]).drop (x.ring.length + 1 - 192), unarch := x.unarch + 1 }
    let x2 : MtrCh := if counts && decide (x.maxImp < p.dImp) then { x1 with maxImp := p.dImp, maxImpIv := p.iv } else x1
    (if counts && decide (x.maxExp < p.dExp) then { x2 with maxExp := p.dExp, maxExpIv := p.iv } else x2, false)

/-- Every channel writes an entry made by `mk`; where one has no room PROFILE_HALT is set. -/
def profileAll (mk : MtrCh → ProfEnt) (t : MtrSt × Io) : MtrSt × Io :=
  (channels t.1).foldl (fun (u : MtrSt × Io) c =>
    let x := chOf u.1 c
    let r := x.profile (mk x)
    let u1 := chPut c r.1 u
    if r.2 && !u1.1.halt then ({ u1.1 with halt := true }, legalRec 4 0 u1.2) else u1) t

/-- Every channel commits. -/
def commitAll (t : MtrSt × Io) : MtrSt × Io := (channels t.1).foldl (fun (u : MtrSt × Io) c => commit c u) t

/-- L up to now, of the open interval, in ns of powered time. -/
def ivLasted (t : MtrSt × Io) : Int := t.1.iv.acc + (legalNow t.1 t.2 - t.1.iv.since)

/-- The open interval closes, with flags added to every channel's. Assumption log: 127 (DEDUCED). -/
def closeInterval (extra : Nat) (t : MtrSt × Io) : MtrSt × Io :=
  let iv := t.1.iv
  let long := decide (900000000000 < legalNow t.1 t.2 - iv.openL)
  let t1 := profileAll (fun x =>
    let fl := orFlag x.flags extra
    let fl1 := if long && Nat.land fl 8 != 0 then orFlag fl 128 else fl
    profEnt x iv.iv iv.tariff fl1 (ivLasted t / 1000000000).toNat (x.e.imp - x.e.imp0) (x.e.exp - x.e.exp0)) t
  let t2 := commitAll t1
  (t2.1, q8Rec 4 (0x58 * 2 ^ 48 + iv.iv % 2 ^ 32) (mEvt 1 t2.2))

/-- R428: PENDING becomes ACTIVE. -/
def activate (t : MtrSt × Io) : MtrSt × Io :=
  ({ t.1 with active := t.1.pending, pending := [], calSeen := true },
   q8Rec 4 (0x5E * 2 ^ 48 + 2 ^ 44 + calId t.1.pending) t.2)

/-- R429: the BILLING record of a boundary. -/
def billing (iv : Nat) (t : MtrSt × Io) : MtrSt × Io :=
  let s := t.1
  let recs := (channels s).map fun c =>
    let x := chOf s c
    (⟨iv, c, x.e.imp, x.e.exp, x.e.tarImp, x.e.tarExp, x.maxImp, x.maxExp⟩ : BillRec)
  let s1 : MtrSt := { s with
    arch := { s.arch with bills := s.arch.bills ++ recs, billSince := s.arch.billSince <|> some (legalNow s t.2) } }
  let t1 := (channels s).foldl (fun (u : MtrSt × Io) c => chUpd c (fun x => { x with maxImp := 0, maxExp := 0 }) u) (s1, t.2)
  (t1.1, legalRec 6 0 t1.2)

/-- The boundary at which interval `iv` begins: calendar, then billing. Assumption log: 121 (DEDUCED). -/
def boundary (iv : Nat) (t : MtrSt × Io) : MtrSt × Io :=
  let due := !t.1.pending.isEmpty && (calActM t.1.pending == 0 || decide (calActM t.1.pending ≤ iv * 900000))
  let t1 := if due then activate t else t
  if billingAt t1.1.active (iv * 900000) then billing iv t1 else t1

/-- A boundary passed over: one SKIPPED entry of zero energy per channel. Assumption log: 121 (DEDUCED). -/
def skipInterval (flags : Nat) (iv : Nat) (t : MtrSt × Io) : MtrSt × Io :=
  let t1 := boundary iv t
  profileAll (fun x => profEnt x iv (tariffAt t1.1.active (iv * 900000)) (orFlag 16 flags) 0 0 0) t1

/-- A channel enters a new interval: energy that was measured in it already is added. Assumption log: 118 (DEDUCED). -/
def MtrCh.enter (x : MtrCh) (tariff flags : Nat) : MtrCh :=
  let x1 : MtrCh := { x with
    flags := orFlag (if x.st = 2 then 1 else 0) flags,
    e := { x.e with imp0 := x.e.imp, exp0 := x.e.exp, nextImp := 0, nextExp := 0 } }
  x1.add true tariff x.e.nextImp x.e.nextExp

/-- Interval `iv` opens: R425, R428, R429. -/
def openInterval (iv flags : Nat) (t : MtrSt × Io) : MtrSt × Io :=
  let t1 := boundary iv t
  let l := legalNow t1.1 t1.2
  let tar := tariffAt t1.1.active (iv * 900000)
  let t2 := (channels t1.1).foldl (fun (u : MtrSt × Io) c => chUpd c (fun x => x.enter tar flags) u) t1
  ({ t2.1 with iv := ⟨true, iv, tar, l, l, 0⟩ }, t2.2)

/-- The open interval closes and the one that contains M opens; the boundaries between are passed over. `extra`: flags of
the interval closed, `skip`: further flags of those passed over, `fl`: flags of the one that opens. Assumption log: 121 (DEDUCED). -/
def advanceTo (iv extra skip fl : Nat) (t : MtrSt × Io) : MtrSt × Io :=
  let t1 := closeInterval extra t
  let n := t.1.iv.iv + 1
  openInterval iv fl ((List.range (iv - n)).foldl (fun (u : MtrSt × Io) k => skipInterval skip (n + k) u) t1)

/-- Meter time now. -/
def meterNow (t : MtrSt × Io) : Nat := meterMs t.1 (legalNow t.1 t.2)

/-- R420: M has reached the end boundary of the open interval plus GRACE_MS. -/
def intervalClose (t : MtrSt × Io) : MtrSt × Io :=
  if t.1.running && t.1.iv.on && decide ((t.1.iv.iv + 1) * 900000 + lpGrace t.1 ≤ meterNow t) then
    advanceTo (max (t.1.iv.iv + 1) (meterNow t / 900000)) 0 0 0 t
  else t

/-! Adjustments of meter time (R417, R419, R421, R422). -/

/-- CLOCK_ADJ on the open interval and the open transactions. Assumption log: 120 (DEDUCED), 126 (DEDUCED). -/
def markAdj (ivToo : Bool) (t : MtrSt × Io) : MtrSt × Io :=
  (channels t.1).foldl (fun (u : MtrSt × Io) c =>
    chUpd c (fun x => { x with flags := if ivToo then orFlag x.flags 8 else x.flags }.txnFlag 4) u) t

/-- M has moved by an adjustment of `d`: back (R421), or forward past the end of the open interval (R422). Assumption log: 120 (DEDUCED). -/
def adjusted (d : Int) (t : MtrSt × Io) : MtrSt × Io :=
  let t1 := markAdj (decide (d < 0)) t
  if decide (0 < d) && t1.1.iv.on && decide ((t1.1.iv.iv + 1) * 900000 ≤ meterNow t1) then advanceTo (meterNow t1 / 900000) 8 0 0 t1
  else t1

/-- R419: a change of TAI-UTC, from PTP (`some`) or back to the parameter. -/
def taiUpdate (utc : Option Nat) (t : MtrSt × Io) : MtrSt × Io :=
  if !t.1.running then t
  else
    let new : Int := utc.elim t.1.clk.tai fun x => (x : Int)
    let d : Int := (new - t.1.clk.tai) * (-1000)
    let t1 : MtrSt × Io := ({ t.1 with clk := { t.1.clk with tai := new, fromPtp := t.1.clk.fromPtp || utc.isSome } }, t.2)
    if d = 0 then t1
    else
      let t2 := adjusted d (logRoll 8 (leS 8 d ++ leS 8 new) t1)
      (t2.1, clockRec 1 d t2.2)

/-- A step of the site time by `d` ns before the site runs: L does not move (R415), so D takes it up, and so do the times
that Sepia measures from. Assumption log: 120 (DEDUCED). -/
def mtrSiteStep (d : Int) (s : MtrSt) : MtrSt :=
  let sh := fun (x : Nat) => ((x : Int) + d).toNat
  { s with
    clk := { s.clk with d := s.clk.d - d, slew := s.clk.slew.map sh },
    ch := s.ch.map fun e => (e.1, { e.2 with
      acceptedAt := sh e.2.acceptedAt, txn := e.2.txn.map fun k => { k with ending := k.ending.map sh } }) }

/-- D and the slew at now, written down so that the slew can begin anew from here. -/
def LClock.settle (c : LClock) (now : Nat) : LClock := { c with d := c.dAt now, slew := c.slew.map fun _ => now }

/-- R417: site time is held for the first time. -/
def legalTimeHeld (t : MtrSt × Io) : MtrSt × Io :=
  if !(t.1.running && !t.1.clk.held && t.2.flag Reg.FAB.PTP_STAT 31) then t
  else
    let d := t.1.clk.d
    let s : MtrSt := { t.1 with clk := { t.1.clk with held := true } }
    if d < 0 then
      let t1 := adjusted 1 ({ s with clk := { s.clk with d := 0 } }, t.2)
      (t1.1, clockRec 2 ((-d) / 1000000) t1.2)
    else if d = 0 then (s, t.2)
    else if d ≤ 3600000000000 then
      ({ s with clk := { s.clk with slew := some t.2.now } }, clockRec 3 (d / 1000000) t.2)
    else ({ s with clk := { s.clk with fault := true } }, clockRec 4 (d / 1000000) t.2)

/-- R417: D has reached zero. -/
def legalSlewEnd (t : MtrSt × Io) : MtrSt × Io :=
  if t.1.clk.slew.isSome && decide (t.1.clk.dAt t.2.now = 0) then ({ t.1 with clk := { t.1.clk with d := 0, slew := none } }, t.2)
  else t

/-- R416: L goes to MRAM. -/
def legalTimeSave (t : MtrSt × Io) : MtrSt × Io :=
  if t.1.running then
    let l := legalNow t.1 t.2
    ({ t.1 with clk := { t.1.clk with saved := l }, iv := { t.1.iv with acc := ivLasted t, since := l } }, t.2)
  else t

/-- R435: every meter point commits. -/
def supplyEarlyWarning (t : MtrSt × Io) : MtrSt × Io :=
  if t.1.running then
    (List.range 8).foldl (fun (u : MtrSt × Io) p => if chCfg u.1 (256 + p) then commit (256 + p) u else u) (legalTimeSave t)
  else t

/-! Sepia's start (R417, R436, R439, R450), resets and erasure (R437). -/

/-- A reset: what MRAM holds remains. -/
def mtrReset (s : MtrSt) : MtrSt :=
  { s with
    running := false, check := [], kept := [], hmi := [], clear := [], calRun := [], sync := true,
    ch := (List.range 8).foldl (fun (u : Tbl MtrCh) p => Tbl.set u MtrCh.init (256 + p) (Tbl.get s.nv MtrCh.init (256 + p))) s.ch }

/-- R437: RETURNED erases MRAM; the fuses keep the seal counter. -/
def mtrErase (s : MtrSt) : MtrSt := { MtrSt.init with sealCnt := s.sealCnt, lp := s.lp, check := s.check }

/-- A channel at the start. Assumption log: 118 (DEDUCED), 130 (DEDUCED). -/
def MtrCh.boot (x : MtrCh) (cfg point : Bool) (now : Nat) : MtrCh :=
  { x with
    st := if !cfg then 0 else if point then 1 else if x.ref.isSome then 1 else 0,
    acceptedAt := now, bad := false, badPw := 0,
    txn := x.txn.map fun k => { k with closeAt := some 0, flags := orFlag k.flags 2, ending := none } }

/-- R417, R436, R439, R450: Sepia starts with a legal-parameter section, its check value, and the RTC's time, none where
VBAT was lost. `cut`: the start follows a power cut. Assumption log: 130 (DEDUCED). -/
def mtrBoot (lp : Tbl Byte) (check : List Byte) (rtc : Option Int) (cut : Bool) (t : MtrSt × Io) : MtrSt × Io :=
  let s := t.1
  let now := t.2.now
  let l : Int := match rtc with
    | some x => max x s.clk.saved
    | none => s.clk.saved
  let s1 : MtrSt := { s with
    lp := lp, check := check, running := true,
    clk := { s.clk with d := l - now, slew := none, held := false, fault := false, rtcLost := rtc.isNone,
                        tai := mU16 lp 8, fromPtp := false, saved := l } }
  let s2 : MtrSt := { s1 with
    ch := (List.range 264).foldl (fun (u : Tbl MtrCh) c =>
      Tbl.upd u MtrCh.init c fun x => x.boot (chCfg s1 c) (decide (256 ≤ c)) now) s1.ch,
    iv := { s1.iv with since := l } }
  let io1 := if rtc.isNone then clockRec 5 0 t.2 else t.2
  let pf := if cut then 4 else 0
  let iv := ivOf s2 l
  if s2.iv.on then
    if s2.iv.iv < iv then advanceTo iv pf pf pf (s2, io1)
    else (channels s2).foldl (fun (u : MtrSt × Io) c => chUpd c (fun x => { x with flags := orFlag x.flags pf }) u) (s2, io1)
  else openInterval iv pf (s2, io1)

/-! The mailbox (R419, R426, R438, R439, R449, R452, R459). -/

/-- A command completes. Assumption log: 124 (DEDUCED). -/
def mbxDone (cmd result : Nat) (ret : Option Nat) (t : MtrSt × Io) : MtrSt × Io :=
  let io1 := t.2.setReg Reg.MTR.MBX_STAT (w32 (2 ^ 30 + result * 2 ^ 16 + cmd * 2 ^ 8))
  (t.1, mEvt 8 (match ret with
    | some r => io1.setReg Reg.MTR.MBX_RET (w32 r)
    | none => io1))

/-- n bytes of MBX_DATA. -/
def mbxBytes (io : Io) (n : Nat) : List Byte := ((List.range ((n + 3) / 4)).flatMap fun i => le 4 (io.reg (Reg.MTR.MBX_DATA i)).toNat).take n

def mbxArg (io : Io) (i : Nat) : Nat := (io.reg (Reg.MTR.MBX_ARG i)).toNat

/-- TXN_OPEN. Assumption log: 125 (DESIGN CHOICE), 126 (DEDUCED). -/
def txnOpen (t : MtrSt × Io) : MtrSt × Io :=
  let c := mbxArg t.2 0 % 256
  if !t.1.running then t
  else if !chCfg t.1 c then mbxDone 1 2 none t
  else if (chOf t.1 c).txn.isSome then mbxDone 1 7 none t
  else
    let seq := (t.1.txnSeq + 1) % 2 ^ 32
    let k : Txn := ⟨seq, t.2.now, none, mbxBytes t.2 24, 0, [], [], none, none, none⟩
    let t1 := chUpd c (fun x => { x with txn := some k }) ({ t.1 with txnSeq := seq }, t.2)
    mbxDone 1 0 (some seq) (commit c t1)

/-- TXN_CLOSE. -/
def txnClose (t : MtrSt × Io) : MtrSt × Io :=
  let c := mbxArg t.2 0 % 256
  if !t.1.running then t
  else if !chCfg t.1 c then mbxDone 2 2 none t
  else match (chOf t.1 c).txn with
    | none => mbxDone 2 7 none t
    | some k => mbxDone 2 0 (some k.seq) (commit c (txnEnd c t.2.now 0 t))

/-- A block's mark on a transaction, unless a block since then has it. Assumption log: 131 (DEDUCED). -/
def Txn.marked (k : Txn) (parked : Bool) (since : Nat) (b : MBlock) : Txn :=
  if parked && decide (since ≤ b.meas) && !(k.mark.any fun m => decide (since ≤ m.1.meas)) then
    { k with mark := some (b, k.tarImp, k.tarExp) }
  else k

/-- The tariff vectors of a mark. -/
def Txn.atMark (k : Txn) (i e : Tbl Nat) : Txn := { k with tarImp := i, tarExp := e }

/-- R439: the first block accepted since SESS shows the dispenser in IDLE or ENDED, from `since` on, may be a closing reading.
Assumption log: 131 (DEDUCED). -/
def txnMark (c : Nat) (parked : Bool) (since : Nat) (t : MtrSt × Io) : MtrSt × Io :=
  match (chOf t.1 c).ref with
  | some b => chUpd c (fun x => { x with txn := x.txn.map fun k => k.marked parked since b }) t
  | none => t

/-- R439: SESS has shown the dispenser in IDLE or ENDED, since `since`, for 2 s. Assumption log: 131 (DEDUCED). -/
def txnAutoClose (c : Nat) (parked : Bool) (since : Nat) (t : MtrSt × Io) : MtrSt × Io :=
  if t.1.running && decide (c < 256) && parked && decide (since + 2 * sec ≤ t.2.now) then
    match (chOf t.1 c).txn with
    | some k =>
      if k.closeAt.isSome then txnLate c t
      else
        let t1 := commit c (txnEnd c since 64 t)
        match k.mark.filter (fun m => decide (since ≤ m.1.meas)), (chOf t1.1 c).ref with
        | some m, _ => txnFinish c m.1 0 (chUpd c (fun x => { x with txn := x.txn.map fun k => k.atMark m.2.1 m.2.2 }) t1)
        | none, some b => if since ≤ b.meas then txnFinish c b 0 t1 else txnLate c t1
        | none, none => t1
    | none => t
  else t

/-- A CALENDAR record. -/
def calRec (k result id : Nat) (io : Io) : Io :=
  q8Rec (if k = 2 then 8 else 4) (0x5E * 2 ^ 48 + k * 2 ^ 44 + result * 2 ^ 32 + id % 2 ^ 32) io

/-- CAL_LOAD. `sigOk`: the signature verifies under TARIFF_KEY. -/
def calLoad (sigOk : Bool) (t : MtrSt × Io) : MtrSt × Io :=
  let n := mbxArg t.2 0
  let c := mbxBytes t.2 (min n 4096)
  let refuse := fun (r : Nat) => mbxDone 3 r none (t.1, calRec 2 r (calId c) t.2)
  if !t.1.running then t
  else if !sigOk then refuse 3
  else if calActM c != 0 && decide (calActM c ≤ meterNow t + 1000) then refuse 4
  else if decide (4096 < n) || !calFormatOk c then refuse 5
  else if !t.1.active.isEmpty && calId c == calId t.1.active then refuse 10
  else mbxDone 3 0 (some (calId c)) ({ t.1 with pending := c }, calRec 0 0 (calId c) t.2)

/-- CAL_CANCEL. -/
def calCancel (t : MtrSt × Io) : MtrSt × Io :=
  if !t.1.running then t
  else if t.1.pending.isEmpty then mbxDone 4 0 (some 0) t
  else
    let id := calId t.1.pending
    mbxDone 4 0 (some id) ({ t.1 with pending := [] }, calRec 3 0 id t.2)

/-- CIVIL_ADJ. -/
def civilAdj (t : MtrSt × Io) : MtrSt × Io :=
  if !t.1.running then t
  else
    let d := sxt 32 (mbxArg t.2 0)
    let l := legalNow t.1 t.2
    let day := t.1.clk.recent.filter fun e => decide (l - e.1 < 86400000000000)
    let sum := (day.map Prod.snd).foldl (· + ·) 0
    let old := t.1.clk.adj
    if decide (d.natAbs ≤ lpAdjMax t.1) && decide (sum + d.natAbs ≤ lpAdjDay t.1) then
      let s1 : MtrSt := { t.1 with clk := { t.1.clk with adj := old + d, recent := day ++ [(l, d.natAbs)] } }
      let t1 := logRoll 6 (leS 8 old ++ leS 8 (old + d)) (s1, t.2)
      let t2 := adjusted d (t1.1, clockRec 0 d t1.2)
      mbxDone 5 0 (some (unS 32 (sat32 (old + d)))) t2
    else mbxDone 5 6 none (logRoll 7 (leS 8 old ++ leS 8 old) t)

/-- An HMI record for a head. Assumption log: 129 (DESIGN CHOICE). -/
def hmiSend (disp : Nat) (ty field : Nat) (bs : List Byte) (t : MtrSt × Io) : MtrSt × Io :=
  ({ t.1 with hmi := t.1.hmi ++ [(disp, [BitVec.ofNat 8 ty, BitVec.ofNat 8 bs.length, BitVec.ofNat 8 field, 0] ++ bs)] }, t.2)

/-- DISPLAY. Assumption log: 129 (DESIGN CHOICE). -/
def display (t : MtrSt × Io) : MtrSt × Io :=
  let a := mbxArg t.2 0
  let field := bitsN a 15 8
  let n := bitsN a 23 16
  if !t.1.running then t
  else if field < 0x10 then mbxDone 6 9 none t
  else if 64 < n then mbxDone 6 2 none t
  else mbxDone 6 0 none (hmiSend (a % 256) (if n = 0 then 0x11 else 0x10) field (mbxBytes t.2 n) t)

/-- PREPAY. -/
def prepay (t : MtrSt × Io) : MtrSt × Io :=
  let c := mbxArg t.2 0 % 256
  let v := mbxArg t.2 1
  if !t.1.running then t
  else if !chCfg t.1 c || decide (1 < v) then mbxDone 7 2 none t
  else mbxDone 7 0 none (commit c (chUpd c (fun x => { x with prepay := v == 1 }) t))

/-- ARCH_READ. -/
def archRead (t : MtrSt × Io) : MtrSt × Io :=
  if !t.1.running then t
  else match t.1.arch.pages.find? fun p => p.seq == mbxArg t.2 0 + mbxArg t.2 1 * 2 ^ 32 with
    | some p => mbxDone 8 0 none (t.1, (List.range 1024).foldl (fun (io : Io) i => io.setReg (Reg.MTR.MBX_DATA i) (w32 (u32 p.bytes (4 * i)))) t.2)
    | none => mbxDone 8 8 none t

/-- A write of a reserved command. -/
def mbxReserved (cmd : Nat) (t : MtrSt × Io) : MtrSt × Io := if t.1.running then mbxDone cmd 2 none t else t

/-! The archive (R441 to R446). -/

def profBytes (p : ProfEnt) : List Byte :=
  le 8 p.imp ++ le 8 p.exp ++ le 4 p.iv ++ le 1 p.tariff ++ le 1 p.flags ++ le 2 p.legalS ++ le 4 p.dImp ++ le 4 p.dExp

/-- A log entry: L and the event code share the first eight bytes. -/
def logBytes (e : LogEnt) : List Byte :=
  leS 7 e.l ++ le 1 e.code ++ (e.detail ++ zeros 16).take 16 ++ (List.range 8).map (Config.digest e.dig)

/-- A channel image of a BILLING record, 512 bytes. -/
def billBytes (b : BillRec) : List Byte :=
  le 4 b.iv ++ le 4 b.ch ++ le 8 b.imp ++ le 8 b.exp ++ tarBytes b.tarImp ++ tarBytes b.tarExp ++ le 4 b.maxImp ++ le 4 b.maxExp ++ zeros 224

/-- What waits to be archived in a page: count, FIRST, the payload; none where none is due (R443). Assumption log: 122 (DEDUCED). -/
def archDue (kind ch : Nat) (t : MtrSt × Io) : Option (Nat × Nat × List Byte) :=
  let s := t.1
  let old := fun (since : Option Int) => match since with
    | some l0 => decide (l0 + 900000000000 ≤ legalNow s t.2)
    | none => false
  match kind with
  | 1 =>
    let x := chOf s ch
    let es := (x.ring.drop (x.ring.length - x.unarch)).take 96
    if chCfg s ch && decide (96 ≤ x.unarch) then some (96, ((es.head?).map ProfEnt.iv).getD 0, es.flatMap profBytes) else none
  | 2 =>
    let es := s.arch.txns.take 7
    if es.length == 7 || (!es.isEmpty && old s.arch.txnSince) then some (es.length, ((es.head?).map Prod.fst).getD 0, es.flatMap Prod.snd) else none
  | 3 =>
    let es := (s.roll.drop s.arch.logDone).take 120
    if es.length == 120 || (!es.isEmpty && old s.arch.logSince) then some (es.length, s.arch.logDone, es.flatMap logBytes) else none
  | 4 =>
    let es := s.arch.bills.take 7
    if es.length == 7 || (!es.isEmpty && old s.arch.billSince) then some (es.length, ((es.head?).map BillRec.iv).getD 0, es.flatMap billBytes) else none
  | _ => none

/-- A page's bytes (R442). -/
def pageBytes (s : MtrSt) (kind ch count seq first : Nat) (l : Int) (prev sig : Nat) (body : List Byte) : List Byte :=
  le 2 kind ++ le 2 ch ++ le 4 count ++ le 8 seq ++ le 8 first ++ leS 8 l ++ (List.range 32).map (Config.digest prev) ++ signer s
    ++ zeros 56 ++ (body ++ zeros 3840).take 3840 ++ sigBytes sig ++ zeros 14

/-- R446: the archive stops. -/
def archFault (t : MtrSt × Io) : MtrSt × Io :=
  let t1 := logRoll 9 [] ({ t.1 with arch := { t.1.arch with fault := true, busy := none } }, t.2)
  (t1.1, mEvt 6 t1.2)

/-- R443, R444, R446: an archive page is due. `ok`: the RPMB's counter and key and the page at its recorded position verify.
Assumption log: 122 (DEDUCED). -/
def archivePageDue (kind ch : Nat) (ok : Bool) (t : MtrSt × Io) : MtrSt × Io :=
  let s := t.1
  if !s.running || s.arch.fault || s.arch.busy.isSome || s.key.isNone then t
  else match archDue kind ch t with
    | none => t
    | some (count, first, body) =>
      if !ok then archFault t
      else
        let place := Tbl.get s.arch.next 0 kind
        let l := legalNow s t.2
        let free := match s.arch.pages.find? fun p => p.kind == kind && p.place == place with
          | some p => decide (p.writeL + 400 * 86400000000000 < l)
          | none => decide (place < lpPages s kind)
        let full := bitsN s.arch.full (kind - 1) (kind - 1) == 1
        if free then
          let f := t.2.fresh
          let g := f.2.fresh
          let chn := if kind = 1 then ch else 0xFFFF
          let pg : Page := ⟨kind, chn, s.arch.seq, count, l, place, pageBytes s kind chn count s.arch.seq first l f.1 g.1 body⟩
          let s1 : MtrSt := { s with
            arch := { s.arch with busy := some pg, full := if full then s.arch.full - 2 ^ (kind - 1) else s.arch.full } }
          let io1 := g.2.drive "EMMC" place [kind, s.arch.seq]
          (s1, if full then mEvt 6 (legalRec 5 0 io1) else io1)
        else if full then t
        else ({ s with arch := { s.arch with full := s.arch.full + 2 ^ (kind - 1) } }, mEvt 6 (legalRec 3 0 t.2))

/-- R443, R446: a page has been written and the RPMB updated; `ok` false: the RPMB check failed. Assumption log: 127 (DEDUCED). -/
def archiveWriteDone (ok : Bool) (t : MtrSt × Io) : MtrSt × Io :=
  let s := t.1
  match s.arch.busy with
  | none => t
  | some p =>
    if !ok then archFault t
    else
      let nxt := if p.place + 1 < lpPages s p.kind then p.place + 1 else 0
      let a : ArchSt := { s.arch with
        busy := none, seq := s.arch.seq + 1, next := Tbl.set s.arch.next 0 p.kind nxt,
        pages := (s.arch.pages.filter fun q => !(q.kind == p.kind && q.place == p.place)) ++ [p] }
      let l := legalNow s t.2
      match p.kind with
      | 1 =>
        let x := chOf s p.ch
        let s1 : MtrSt := { s with arch := a, ch := Tbl.set s.ch MtrCh.init p.ch { x with unarch := x.unarch - p.count } }
        ({ s1 with halt := s1.halt && (channels s1).any fun c => decide (192 ≤ (chOf s1 c).unarch) }, t.2)
      | 2 =>
        let rest := a.txns.drop p.count
        ({ s with arch := { a with txns := rest, txnSince := (rest.head?).map fun e => s64 e.2 16 } }, t.2)
      | 3 =>
        let done := a.logDone + p.count
        let cut := s.roll.length - 16384
        ({ s with roll := s.roll.drop (min cut done),
                  arch := { a with logDone := done - min cut done, logSince := (s.roll[done]?).map LogEnt.l } }, t.2)
      | _ =>
        let rest := a.bills.drop p.count
        ({ s with arch := { a with bills := rest, billSince := if rest.isEmpty then none else some l } }, t.2)

/-! Tokens (R447, R448). -/

/-- The value of 20 ASCII digits. -/
def tokenValue (d : List Byte) : Option Nat :=
  if d.length == 20 && d.all fun b => decide (0x30 ≤ b.toNat) && decide (b.toNat ≤ 0x39) then
    some (d.foldl (fun (n : Nat) b => n * 10 + (b.toNat - 0x30)) 0)
  else none

/-- The result of R447: 0 ACCEPTED, 1 FORMAT, 2 TAG, 3 USED, 4 OLD, 5 LOCKED, 6 CLASS. Assumption log: 128 (DEDUCED), 129 (DESIGN CHOICE). -/
def tokenResult (s : MtrSt) (c now : Nat) (v : Option Nat) (tagOk : Bool) : Nat :=
  if now < (chOf s c).lock.until_ then 5
  else match v with
    | none => 1
    | some n =>
      let tid := bitsN n 61 38
      if 2 ^ 66 ≤ n then 1
      else if 1 < bitsN n 65 62 then 6
      else if !tagOk then 2
      else if s.tids.length = 65536 ∧ tid ≤ (s.tids.head?).getD 0 then 4
      else if s.tids.contains tid then 3
      else 0

/-- R448: a result enters the lock. Assumption log: 128 (DEDUCED). -/
def TokLock.note (k : TokLock) (r now : Nat) : TokLock :=
  if r = 0 then { k with bad := [], len := 0 }
  else
    let bad := (k.bad.filter fun x => decide (now < x + 600 * sec)) ++ [now]
    if bad.length < 3 then { k with bad := bad }
    else
      let len := if k.len = 0 ∨ k.setAt + 3600 * sec ≤ now then 60 else min 3600 (2 * k.len)
      ⟨[], now + len * sec, len, now⟩

/-- A number inserted into an ascending list. -/
def insertAsc (x : Nat) : List Nat → List Nat
  | [] => [x]
  | y :: r => if x < y then x :: y :: r else y :: insertAsc x r

/-- R447, R448, R449: a token is entered for channel c. -/
def tokenEntry (c : Nat) (digits : List Byte) (tagOk : Bool) (t : MtrSt × Io) : MtrSt × Io :=
  if !(t.1.running && decide (c < 256) && chCfg t.1 c) then t
  else
    let v := tokenValue digits
    let r := tokenResult t.1 c t.2.now v tagOk
    let n := v.getD 0
    let tid := if r = 1 ∨ r = 5 then 0 else bitsN n 61 38
    let x := chOf t.1 c
    let x1 := { x with lock := x.lock.note r t.2.now }
    let io1 := q8Rec (if r = 0 then 4 else 8) (0x5A * 2 ^ 48 + c * 2 ^ 38 + r * 2 ^ 34 + tid) (mEvt 3 t.2)
    if r = 0 then
      let amt : Nat := bitsN n 37 22 * (if bitsN n 65 62 = 0 then 10000 else 100000)
      let new : Int := x.e.credit + amt
      let tids := insertAsc tid t.1.tids
      let s1 : MtrSt := { t.1 with tids := if 65536 < tids.length then tids.drop 1 else tids }
      let io2 := if x.e.credit ≤ 0 ∧ 0 < new then creditRec c 2 new io1 else io1
      commit c (chPut c { x1 with e := { x.e with credit := new } } (s1, (io2.drive "HMI" c [4, r]).drive "HMI" c [5, unS 64 new]))
    else chPut c x1 (t.1, io1.drive "HMI" c [4, r])

/-- R448: a lock time expires. -/
def tokenUnlock (c : Nat) (t : MtrSt × Io) : MtrSt × Io :=
  let k := (chOf t.1 c).lock
  if k.until_ != 0 && decide (k.until_ ≤ t.2.now) then chUpd c (fun x => { x with lock := { k with until_ := 0 } }) t else t

/-! The check value on a display (R450, R451, R454). -/

def hexDigit (n : Nat) : Byte := BitVec.ofNat 8 (if n < 10 then 0x30 + n else 0x37 + n)

/-- R451. -/
def checkText (c : List Byte) : List Byte :=
  (List.range 8).flatMap fun i => (if i != 0 && i % 2 == 0 then [0x20] else []) ++ [hexDigit (u8 c i / 16), hexDigit (u8 c i % 16)]

def checkRequest (disp : Nat) (t : MtrSt × Io) : MtrSt × Io :=
  if t.1.running && decide (disp < 256) then
    hmiSend disp 0x10 0 (checkText t.1.check) ({ t.1 with clear := Tbl.set t.1.clear 0 disp (t.2.now + 30 * sec) }, t.2)
  else t

def checkClear (disp : Nat) (t : MtrSt × Io) : MtrSt × Io :=
  let due := Tbl.get t.1.clear 0 disp
  if due != 0 && decide (due ≤ t.2.now) then hmiSend disp 0x11 0 [] ({ t.1 with clear := Tbl.set t.1.clear 0 disp 0 }, t.2) else t

/-! The ledger of the pair (R455, R456). -/

/-- A ledger delta from the partner. -/
def ledgerDelta (d : LedgerDelta) (t : MtrSt × Io) : MtrSt × Io :=
  if t.2.active || !t.1.running || !t.1.sync then t
  else if d.seq = t.1.ledger + 1 then
    ({ t.1 with ledger := d.seq, ch := if d.ch < 256 then Tbl.set t.1.ch MtrCh.init d.ch d.st else t.1.ch,
                tids := d.tids.getD t.1.tids }, t.2)
  else ({ t.1 with sync := false }, (legalRec 8 0 t.2).drive "LEDGER_IMAGE_REQ" 0 [t.1.ledger])

/-- R456: the full ledger image has been applied. -/
def ledgerImage (seq : Nat) (chs : Tbl MtrCh) (tids : List Nat) (t : MtrSt × Io) : MtrSt × Io :=
  let own := t.1.ch.filter fun e => decide (256 ≤ e.1)
  ({ t.1 with ledger := seq, sync := true, tids := tids, ch := (chs.filter fun e => decide (e.1 < 256)) ++ own }, t.2)

/-! What the registers show. -/

def half (hi : Bool) (n : Nat) : Word := if hi then w32 (n / 2 ^ 32) else w32 n

/-- The channel window (MTR.CH_WIN). -/
def chWinView (s : MtrSt) (c o : Nat) : Option Word :=
  let x := chOf s c
  let hi := o % 8 == 4
  let ref := x.ref
  let meas := (ref.map MBlock.meas).getD 0
  let tx := match x.txn with
    | some k => (k.start.map fun r => unS 64 r.l).getD 0
    | none => 0
  if o = 0x400 then
    some (w32 (x.st * 2 ^ 29 + b2n x.txn.isSome * 2 ^ 8 + b2n x.prepay * 2 ^ 7 + bitsN x.flags 5 5 * 2 ^ 6 + bitsN x.flags 1 1 * 2 ^ 5
      + b2n (x.lock.until_ != 0) * 2 ^ 4 + s.iv.tariff % 16))
  else if o = 0x404 then some (w32 ((ref.map MBlock.seq).getD 0))
  else if o < 0x410 then some (half hi (meas))
  else if o < 0x418 then some (half hi x.e.imp)
  else if o < 0x420 then some (half hi x.e.exp)
  else if o < 0x428 then some (half hi ((ref.map MBlock.imp).getD 0))
  else if o < 0x430 then some (half hi ((ref.map MBlock.exp).getD 0))
  else if o < 0x438 then some (half hi (unS 64 x.e.credit))
  else if o < 0x440 then some (half hi tx)
  else if o = 0x440 then some (w32 x.maxImp)
  else if o = 0x444 then some (w32 x.maxExp)
  else if o = 0x448 then some (w32 (x.maxExpIv % 2 ^ 16 * 2 ^ 16 + x.maxImpIv % 2 ^ 16))
  else if o = 0x44C then some (w32 ((ref.map MBlock.ctrId).getD 0))
  else if 0x480 ≤ o ∧ o < 0x500 then some (half hi (Tbl.get x.e.tarImp 0 ((o - 0x480) / 8)))
  else if 0x500 ≤ o ∧ o < 0x580 then some (half hi (Tbl.get x.e.tarExp 0 ((o - 0x500) / 8)))
  else none

/-- CHECK_HI and CHECK_LO: byte 0 in [31:24]. -/
def checkWord (c : List Byte) (o : Nat) : Word := w32 (u8 c o * 2 ^ 24 + u8 c (o + 1) * 2 ^ 16 + u8 c (o + 2) * 2 ^ 8 + u8 c (o + 3))

/-- The MTR registers that show Sepia's state; `k`: the key of a register. -/
def mtrView (s : MtrSt) (io : Io) (k : Nat) : Option Word :=
  let a := k % 2 ^ 40
  let o := a - 0x40400000
  let l := unS 64 (legalNow s io)
  if a < 0x40400000 ∨ 0x40410000 ≤ a then none
  else match o with
    | 0 => some (w32 (b2n s.halt * 128 + b2n (!io.active && s.sync && s.running) * 64 + b2n (!s.pending.isEmpty) * 32 + b2n (!s.calSeen) * 16 + b2n s.running))
    | 4 => some (checkWord s.check 0)
    | 8 => some (checkWord s.check 4)
    | 0x10 => some (half false l)
    | 0x14 => some (half true l)
    | 0x18 => some (w32 (b2n (s.clk.fault || (s.clk.rtcLost && !s.clk.held)) * 2 ^ 31 + b2n s.clk.slew.isSome * 2 ^ 30
        + b2n s.clk.rtcLost * 2 ^ 29 + b2n s.clk.fromPtp * 2 ^ 28 + unS 16 s.clk.tai))
    | 0x1C => some (wS (sat32 (odiv (s.clk.dAt io.now) 1000)))
    | 0x20 => some (wS (sat32 s.clk.adj))
    | 0x24 => some (w32 s.iv.iv)
    | 0x28 => some (setBits (setBits (io.reg k) 13 8 s.sealCnt) 7 0 (satU 8 (256 - s.perm.length)))
    | 0x2C => some (w32 (if s.active.isEmpty then 0 else calId s.active))
    | 0x30 => some (w32 (if s.pending.isEmpty then 0 else calId s.pending))
    | 0x34 => some (half false (if s.pending.isEmpty then 0 else calActM s.pending))
    | 0x38 => some (half true (if s.pending.isEmpty then 0 else calActM s.pending))
    | 0x3C => some (w32 (s.arch.full * 2 ^ 28 + b2n s.arch.fault * 2 ^ 27))
    | 0x40 => some (w32 ((s.tids.head?).getD 0))
    | 0x44 => some (w32 s.tids.length)
    | 0x48 => some (half false s.ledger)
    | 0x4C => some (half true s.ledger)
    | _ => if 0x400 ≤ o ∧ o < 0x600 then chWinView s (io.fld Reg.MTR.CH_SEL 8 0) o else none

end Sys2Proof.Machine
end

