-- ==== Sys2Proof/Machine/PntTable.lean ====
section
/-! DEFINITION. Sys2Proof/Machine/PntTable.lean: points, profiles, and finding a key: T0, T1, the stash, rehash (R218,
R219, R224, R230 to R239, R247). -/
namespace Sys2Proof.Machine

/-- Q4 and Q5 as PNT writes them (R255, R257, R259). -/
def q4 : Io.QDst := ⟨4, 4, Reg.PNT.Q4_DROP, 0x40140000, 14⟩
def q5 : Io.QDst := ⟨5, 5, Reg.PNT.Q5_DROP, 0x40140000, 15⟩

def ptOf (p : PntSt) (i : Nat) : PtRec := Tbl.get p.pts PtRec.init i
def PntSt.putPt (p : PntSt) (i : Nat) (r : PtRec) : PntSt := { p with pts := Tbl.set p.pts PtRec.init i r }
def nodeRec (p : PntSt) (n : Nat) : Option RNode := Tbl.get p.nodes none n
def PntSt.putNode (p : PntSt) (n : Nat) (r : RNode) : PntSt := { p with nodes := Tbl.set p.nodes none n (some r) }
def profOf (p : PntSt) (i : Nat) : Option Prof := Tbl.get p.prof none i
def sprofOf (p : PntSt) (i : Nat) : Option SProf := Tbl.get p.sprof none i

/-! STATUS bits (R218). -/

def stDefined (s : Nat) : Bool := bitsN s 15 15 == 1
def stValid (s : Nat) : Bool := bitsN s 0 0 == 1
def stHard (s : Nat) : Bool := bitsN s 2 1 != 0
def stSoft (s : Nat) : Bool := bitsN s 4 3 != 0
def stRate (s : Nat) : Bool := bitsN s 5 5 == 1
def stStale (s : Nat) : Bool := bitsN s 6 6 == 1

/-- STATUS from its bits. -/
def mkStatus (bad stale rate softHi softLo hardHi hardLo valid : Bool) : Nat :=
  32768 + b2n bad * 128 + b2n stale * 64 + b2n rate * 32 + b2n softHi * 16 + b2n softLo * 8 + b2n hardHi * 4
    + b2n hardLo * 2 + b2n valid

/-- A point that counts stale (R218, R261). -/
def PtRec.stale (r : PtRec) : Bool :=
  stDefined r.status && (r.lost || !stValid r.status || stStale r.status || bitsN r.status 7 7 == 1)

def PtRec.defined (r : PtRec) : Bool := stDefined r.status

/-! Profiles. -/

/-- The profile that eight words hold (R219), where it passes its ordering checks. -/
def profOfWords (w : Nat → Word) : Option Prof :=
  let p : Prof := ⟨sW (w 0), sW (w 1), sW (w 2), sW (w 3), (w 4).toNat, (w 5).toNat, bits (w 6) 15 0, bits (w 6) 23 16, bit (w 6) 24⟩
  if p.hardLo ≤ p.softLo ∧ p.softLo ≤ p.softHi ∧ p.softHi ≤ p.hardHi ∧ (p.hyst : Int) < p.softHi - p.softLo ∧ p.role ≤ 6
      ∧ bits (w 6) 31 25 = 0 ∧ w 7 = 0 then some p else none

/-- The words of a profile. -/
def Prof.words (p : Prof) : List Word :=
  [wS p.hardLo, wS p.hardHi, wS p.softLo, wS p.softHi, w32 p.rateMax, w32 p.hyst,
   w32 (p.staleMs + p.role * 65536 + b2n p.report * 16777216), 0]

/-- The string profile that twelve words hold (R247), where it passes its ordering checks. -/
def sprofOfWords (w : Nat → Word) : Option SProf :=
  let h := fun (i : Nat) (hi : Bool) => sxt 16 (if hi then bits (w i) 31 16 else bits (w i) 15 0)
  let p : SProf := ⟨(w 0).toNat, (w 1).toNat, sW (w 2), sW (w 3), sW (w 4), sW (w 5), h 6 false, h 6 true, h 7 false, h 7 true,
    h 8 false, h 8 true, bits (w 9) 15 0, bits (w 9) 23 16, bits (w 9) 31 24, bits (w 10) 15 0⟩
  if p.vDisEnd < p.vDisKnee ∧ p.vChgKnee < p.vChgEnd ∧ p.tLoEnd < p.tLoKnee ∧ p.tLoKnee ≤ p.tHiKnee ∧ p.tHiKnee < p.tHiEnd
      ∧ p.tcEnd < p.tcKnee ∧ 10 ≤ p.staleMs ∧ p.sag ≤ 50 ∧ p.soft ≤ 100 ∧ bits (w 10) 31 16 = 0 ∧ w 11 = 0 then some p else none

def SProf.words (p : SProf) : List Word :=
  let two := fun (lo hi : Int) => w32 (unS 16 lo + unS 16 hi * 65536)
  [w32 p.iDis, w32 p.iChg, wS p.vDisEnd, wS p.vDisKnee, wS p.vChgKnee, wS p.vChgEnd, two p.tLoEnd p.tLoKnee,
   two p.tHiKnee p.tHiEnd, two p.tcEnd p.tcKnee, w32 (p.staleMs + p.sag * 65536 + p.soft * 16777216), w32 p.staleTol, 0]

/-! Hashing (R230). -/

/-- mix of R230. -/
def mix (x : Nat) : Nat :=
  let x1 := Nat.xor x (x / 2 ^ 33) * 0xFF51AFD7ED558CCD % 2 ^ 64
  let x2 := Nat.xor x1 (x1 / 2 ^ 33) * 0xC4CEB9FE1A85EC53 % 2 ^ 64
  Nat.xor x2 (x2 / 2 ^ 33)

/-- Bucket of a key in table t, numbered t * 2^22 + b. -/
def bucketOf (salts : Nat × Nat) (t key : Nat) : Nat :=
  t * 4194304 + mix (Nat.xor key (if t = 0 then salts.1 else salts.2)) % 4194304

/-- Fingerprint of a key. -/
def fprint (salts : Nat × Nat) (key : Nat) : Nat := mix (Nat.xor key salts.1) / 2 ^ 32

def slotGet (p : PntSt) (b s : Nat) : Option HEnt := Tbl.get p.slots none (b * 8 + s)
def PntSt.slotPut (p : PntSt) (b s : Nat) (e : Option HEnt) : PntSt := { p with slots := Tbl.set p.slots none (b * 8 + s) e }

/-- The index that a bucket gives for a key: GEN, fingerprint and the record's KEY match. -/
def bucketFind (p : PntSt) (gen : Bool) (fp key b : Nat) : Option Nat :=
  (List.range 8).findSome? fun s =>
    match slotGet p b s with
    | some e =>
      let r := ptOf p e.idx
      if e.gen = gen ∧ e.fp = fp ∧ r.key = key ∧ r.defined ∧ !r.lost then some e.idx else none
    | none => none

/-- Both buckets of a key under one pair of salts. -/
def tablesFind (p : PntSt) (salts : Nat × Nat) (gen : Bool) (key : Nat) : Option Nat :=
  match bucketFind p gen (fprint salts key) key (bucketOf salts 0 key) with
  | some i => some i
  | none => bucketFind p gen (fprint salts key) key (bucketOf salts 1 key)

/-- R232. -/
def lookupKey (p : PntSt) (key : Nat) : Option Nat :=
  match tablesFind p p.salts p.gen key with
  | some i => some i
  | none =>
    match (p.stash.find? fun e => e.key == key && !(ptOf p e.idx).lost) with
    | some e => some e.idx
    | none =>
      match p.prev with
      | some old => tablesFind p old (!p.gen) key
      | none => none

/-- The first free slot of a bucket. -/
def freeSlot (p : PntSt) (b : Nat) : Option Nat := (List.range 8).find? fun s => (slotGet p b s).isNone

/-- R233: an entry looks for a place under the current salts. `t`: the table that a displaced entry moves to, none for a
fresh entry, which tries T0 and then T1. The result: the tables, and the entry left over when MAX_KICK is used up. Assumption log: 61 (DEDUCED). -/
def place : Nat → Option Nat → Nat → Nat → PntSt → PntSt × Option (Nat × Nat)
  | kicks, t, key, idx, p =>
    let e : HEnt := ⟨p.gen, idx, fprint p.salts key⟩
    let t0 := t.getD 0
    let b0 := bucketOf p.salts t0 key
    let b1 := bucketOf p.salts 1 key
    match freeSlot p b0, (if t.isNone then freeSlot p b1 else none) with
    | some s, _ => (p.slotPut b0 s (some e), none)
    | none, some s => (p.slotPut b1 s (some e), none)
    | none, none =>
      match kicks with
      | 0 => (p, some (key, idx))
      | k + 1 =>
        let s := p.victim % 8
        match slotGet p b0 s with
        | none => (p.slotPut b0 s (some e), none)
        | some v =>
          let q := { p.slotPut b0 s (some e) with victim := (p.victim + 1) % 8 }
          place k (if v.gen = p.gen then some (1 - t0) else none) (ptOf p v.idx).key v.idx q

/-- REHASH_AT. Assumption log: 62 (DEDUCED). -/
def rehashAt (io : Io) : Nat := io.fld Reg.PNT.CFG 25 16

/-- The stash takes an entry: occupancy, its highest value, STASH_HI, STASH_INS_CNT. -/
def stashAdd (key idx : Nat) (p : PntSt) (io : Io) : PntSt × Io :=
  let q := { p with stash := p.stash ++ [⟨key, idx, p.gen⟩] }
  let n := q.stash.length
  let io1 := (io.count Reg.PNT.STASH_INS_CNT).peak Reg.PNT.STASH_HWM n
  (q, if n = rehashAt io / 2 then io1.evt 0x40140000 6 else io1)

/-- R233: a key is inserted. `none`: no room; nothing is changed. Assumption log: 61 (DEDUCED). -/
def insertKey (useStash : Bool) (key idx : Nat) (p : PntSt) (io : Io) : Option (PntSt × Io) :=
  match place (io.fld Reg.PNT.CFG 7 0) none key idx p with
  | (q, none) => some (q, io)
  | (q, some (k, i)) => if useStash && decide (q.stash.length < 1024) then some (stashAdd k i q io) else none

/-- A key leaves the tables and the stash. -/
def removeKey (key idx : Nat) (p : PntSt) : PntSt :=
  let drop := fun (salts : Nat × Nat) (p : PntSt) =>
    [bucketOf salts 0 key, bucketOf salts 1 key].foldl (fun p b =>
      (List.range 8).foldl (fun p s =>
        match slotGet p b s with
        | some e => if e.idx = idx then p.slotPut b s none else p
        | none => p) p) p
  let p1 := drop p.salts p
  let p2 := match p1.prev with
    | some old => drop old p1
    | none => p1
  { p2 with stash := p2.stash.filter fun e => e.idx != idx }

/-- R231, R236: a rehash starts with a new pair of salts, drawn from Helmet's random numbers. -/
def rehashStart (p : PntSt) (io : Io) : PntSt × Io :=
  if p.prev.isSome then (p, io)
  else
    let draw := fun n : Nat => (List.range 8).foldl (fun a i => a * 256 + (Config.random (n + i)).toNat) 0
    let io1 : Io := { io with free := io.free + 16 }
    ({ p with prev := some p.salts, salts := (draw io.free, draw (io.free + 8)), gen := !p.gen },
     ((io1.setFlag Reg.PNT.STAT 1 true).setReg Reg.PNT.MIG_PTR 0).evt 0x40140000 7)

/-- R235, R239: occupancy starts a rehash. Assumption log: 62 (DEDUCED). -/
def maybeRehash (p : PntSt) (io : Io) : PntSt × Io :=
  let gap := match p.rehashEnd with
    | some t => decide (t + io.fld Reg.PNT.CFG 15 8 * sec ≤ io.now)
    | none => true
  if decide (rehashAt io ≤ p.stash.length) && gap && !io.flag Reg.PNT.STAT 5 then rehashStart p io else (p, io)

/-- Row REHASH_REQUEST: CTRL.REHASH is written 1 (R235); ignored while a rehash runs. -/
def rehashRequest (p : PntSt) (io : Io) : PntSt × Io := rehashStart p io

/-- One entry of the previous generation moves under the new salts (R236). With no room even in the stash it is left
where it is. -/
def migrate (key idx : Nat) (p : PntSt) (io : Io) : PntSt × Io :=
  match insertKey true key idx p io with
  | some r => r
  | none => (p, io)

/-- R236, R239, row REHASH_END: the walk over every bucket in ascending order, the stash, and the end of the rehash. -/
def rehashEnd (p : PntSt) (io : Io) : PntSt × Io :=
  match p.prev with
  | none => (p, io)
  | some _ =>
    let old := p.slots.filter fun e => match e.2 with
      | some h => h.gen != p.gen
      | none => false
    let r1 := old.foldl (fun (s : PntSt × Io) e =>
      match Tbl.get s.1.slots none e.1 with
      | some h => if h.gen = s.1.gen then s
          else migrate (ptOf s.1 h.idx).key h.idx { s.1 with slots := Tbl.set s.1.slots none e.1 none } s.2
      | none => s) (p, io)
    let st := r1.1.stash
    let r2 := st.foldl (fun (s : PntSt × Io) e => migrate e.key e.idx s.1 s.2) ({ r1.1 with stash := [] }, r1.2)
    let q := { r2.1 with prev := none, rehashEnd := some io.now }
    let io1 := (((r2.2.setFlag Reg.PNT.STAT 1 false).setReg Reg.PNT.MIG_PTR (w32 8388608)).count Reg.PNT.REHASH_CNT).evt 0x40140000 8
    (q, if rehashAt io ≤ 2 * q.stash.length then (io1.setFlag Reg.PNT.STAT 5 true).evt 0x40140000 9 else io1)

/-- R234, row STASH_RETRY: once per millisecond the oldest stash entry is tried again. -/
def stashRetry (p : PntSt) (io : Io) : PntSt × Io :=
  let w := io.now / ms + 1
  if p.retry = w then (p, io)
  else
    let q := { p with retry := w }
    match p.stash with
    | [] => (q, io)
    | e :: r =>
      match insertKey false e.key e.idx { q with stash := r } io with
      | some s => s
      | none => (q, io)

/-- R239, row PRESS_CLR: the next time the occupancy reaches REHASH_AT a rehash can start again. -/
def pressClr (io : Io) : Io := io.setFlag Reg.PNT.STAT 5 false

end Sys2Proof.Machine
end

