-- ==== Sys2Proof/Machine/Pnt.lean ====
section
/-! DEFINITION. Sys2Proof/Machine/Pnt.lean: definitions, ingest, the sweeper and the rollup of the point plane
(chapter 06). -/
namespace Sys2Proof.Machine

/-! Rollup (R244 to R246). Node numbers fix the level. -/

/-- The level of a node: 0 module, 1 string, 2 rack, 3 bank, 4 no node. -/
def nodeLevel (n : Nat) : Nat :=
  if n < 1048576 then 0 else if n < 1114112 then 1 else if n < 1118208 then 2 else if n < 1118464 then 3 else 4

/-- The string above a node: itself, or the parent of a module. -/
def stringAbove (p : PntSt) (n : Nat) : Option Nat :=
  if nodeLevel n = 1 then some n
  else if nodeLevel n = 0 then (nodeRec p n).bind RNode.parent
  else none

def PntSt.updNode (p : PntSt) (n : Nat) (f : RNode → RNode) : PntSt :=
  match nodeRec p n with
  | some r => p.putNode n (f r)
  | none => p

/-- One count of R245 after a point enters or leaves it. -/
def bump (was is : Bool) (n : Nat) : Nat := if was = is then n else if is then n + 1 else n - 1

/-- R245: the counts of a node after a point's record changes. -/
def RNode.recount (r : RNode) (a b : PtRec) : RNode :=
  { r with
    hardN := bump (a.defined && stHard a.status) (b.defined && stHard b.status) r.hardN,
    softN := bump (a.defined && stSoft a.status) (b.defined && stSoft b.status) r.softN,
    staleN := bump a.stale b.stale r.staleN }

/-- R246: a node is queued for rescan. Assumption log: 63 (DEDUCED). -/
def queueRescan (n : Nat) (p : PntSt) (io : Io) : PntSt × Io :=
  match nodeRec p n with
  | none => (p, io)
  | some r =>
    if p.queue.contains n then (p, io)
    else
      let q := p.putNode n { r with rescan := true }
      if p.queue.length < 65536 then ({ q with queue := q.queue ++ [n] }, io) else (q, io.count Reg.PNT.RESCAN_OVF_CNT)

/-- R245: a value worse than extremes is written into its node and its ancestors: `role` 1 voltage, 2 temperature. -/
def worsen (role : Nat) (v : Int) : Nat → Option Nat → PntSt → PntSt
  | 0, _, p => p
  | _ + 1, none, p => p
  | k + 1, some n, p =>
    match nodeRec p n with
    | none => p
    | some r =>
      let r1 := if role = 1 then { r with vMin := min r.vMin v, vMax := max r.vMax v }
        else { r with tMin := min r.tMin v, tMax := max r.tMax v }
      worsen role v k r.parent (p.putNode n r1)

/-- Whether a value is one of its node's extremes. -/
def atExtreme (role : Nat) (v : Int) (r : RNode) : Bool :=
  if role = 1 then v == r.vMin || v == r.vMax else v == r.tMin || v == r.tMax

/-- Whether leaving `old` for `new` improves an extreme that `old` set. -/
def improves (role : Nat) (old new : Int) (r : RNode) : Bool :=
  let lo := if role = 1 then r.vMin else r.tMin
  let hi := if role = 1 then r.vMax else r.tMax
  (old == lo && decide (old < new)) || (old == hi && decide (new < old))

/-- R245: the rollup after point i's record changes from a to b. `sample`: a sample was accepted. -/
def rollupLeaf (role : Nat) (sample : Bool) (a b : PtRec) (p : PntSt) (io : Io) : PntSt × Io :=
  match b.parent with
  | none => (p, io)
  | some n =>
    let p1 := p.updNode n fun r => r.recount a b
    let p2 := if nodeLevel n = 0 then
        (match stringAbove p1 n with
         | some s => p1.updNode s fun r => r.recount a b
         | none => p1)
      else p1
    let r := (if role = 1 ∨ role = 2 then
        (match nodeRec p2 n with
         | some nd =>
           let was := a.defined && !a.stale
           let gone := was && b.stale && atExtreme role a.value nd
           let better := was && !b.stale && improves role a.value b.value nd
           let p3 := if b.stale then p2 else worsen role b.value 4 (some n) p2
           if gone || better then queueRescan n p3 io else (p3, io)
         | none => (p2, io))
      else (p2, io))
    match stringAbove r.1 n with
    | none => r
    | some s =>
      if sample then
        (r.1.updNode s fun x =>
          let x1 := { x with lastTime := max x.lastTime b.time }
          if b.stale then x1
          else match role with
            | 3 => { x1 with iStr := b.value }
            | 4 => { x1 with vStr := unS 32 b.value }
            | 6 => { x1 with closed := decide (b.value ≠ 0), hasClosed := true }
            | _ => x1, r.2)
      else r

/-- The role of a point. -/
def roleOf (p : PntSt) (r : PtRec) : Nat :=
  match profOf p r.profile with
  | some q => q.role
  | none => 0

/-- The points attached to a node, and its child nodes. -/
def attached (r : RNode) : List Nat := (List.range r.nPt).map fun i => r.firstPt + i
def children (r : RNode) : List Nat := (List.range r.nNode).map fun i => r.firstNode + i

/-- R246: a node's extremes recomputed. -/
def freshExtremes (p : PntSt) (r : RNode) : RNode :=
  let e0 := { r with vMin := 2147483647, vMax := -2147483648, tMin := 2147483647, tMax := -2147483648 }
  let e1 := (attached r).foldl (fun e i =>
    let q := ptOf p i
    if q.stale || !q.defined then e
    else match roleOf p q with
      | 1 => { e with vMin := min e.vMin q.value, vMax := max e.vMax q.value }
      | 2 => { e with tMin := min e.tMin q.value, tMax := max e.tMax q.value }
      | _ => e) e0
  (children r).foldl (fun e n =>
    match nodeRec p n with
    | some c => { e with vMin := min e.vMin c.vMin, vMax := max e.vMax c.vMax, tMin := min e.tMin c.tMin, tMax := max e.tMax c.tMax }
    | none => e) e1

/-- R246: a rescan of a node; the parent is queued when an extreme that it held improves. -/
def rescanNode (n : Nat) (p : PntSt) (io : Io) : PntSt × Io :=
  match nodeRec p n with
  | none => (p, io)
  | some r =>
    let r1 := { freshExtremes p r with rescan := false }
    let q := p.putNode n r1
    match r.parent with
    | none => (q, io)
    | some m =>
      match nodeRec q m with
      | none => (q, io)
      | some pr =>
        let gain := (r.vMin == pr.vMin && decide (r.vMin < r1.vMin)) || (r.vMax == pr.vMax && decide (r1.vMax < r.vMax))
          || (r.tMin == pr.tMin && decide (r.tMin < r1.tMin)) || (r.tMax == pr.tMax && decide (r1.tMax < r.tMax))
        if gain then queueRescan m q io else (q, io)

/-! Exceptions (R255, R256). -/

/-- A Q4 packet about a point. -/
def q4Pt (io : Io) (ty prio idx : Nat) (r : PtRec) (withSeq : Bool) : Io :=
  io.pktN q4 0 47 prio
    [ty * 2 ^ 48 + idx * 2 ^ 20 + r.status, (if withSeq then r.seq % 2 ^ 24 * 2 ^ 32 else 0) + unS 32 r.value]

/-- HARD, SOFT and STALE are all clear. -/
def quietSt (s : Nat) : Bool := !stHard s && !stSoft s && !stStale s

/-- R255: the records of a change of a point whose profile reports. -/
def exceptions (report : Bool) (idx : Nat) (a b : PtRec) (io : Io) : Io :=
  if !report then io
  else
    let up := fun (f : Nat → Bool) => f b.status && !f a.status
    let hardUp := (bitsN b.status 1 1 == 1 && bitsN a.status 1 1 == 0) || (bitsN b.status 2 2 == 1 && bitsN a.status 2 2 == 0)
    let softUp := (bitsN b.status 3 3 == 1 && bitsN a.status 3 3 == 0) || (bitsN b.status 4 4 == 1 && bitsN a.status 4 4 == 0)
    let io1 := if hardUp then (q4Pt io 0xA0 0xC idx b true).evt 0x40140000 0 else io
    let io2 := if softUp then (q4Pt io1 0xA1 8 idx b true).evt 0x40140000 1 else io1
    let io3 := if up stRate then (q4Pt io2 0xA2 8 idx b true).evt 0x40140000 3 else io2
    let io4 := if up stStale then (q4Pt io3 0xA3 8 idx b false).evt 0x40140000 2 else io3
    if !quietSt a.status && quietSt b.status then q4Pt io4 0xA4 4 idx b true else io4

/-- A point's record changes: one write, the rollup, the exceptions. -/
def changePt (idx : Nat) (sample : Bool) (b : PtRec) (p : PntSt) (io : Io) : PntSt × Io :=
  let a := ptOf p idx
  let r := rollupLeaf (roleOf p b) sample a b (p.putPt idx b) io
  let report := match profOf p b.profile with
    | some q => q.report
    | none => false
  (r.1, exceptions report idx a b r.2)

/-! Ingest (R225 to R227, R240). -/

/-- One sample. -/
structure Sample where
  key : Nat
  v : Int
  seq : Nat
  t : Nat
  bad : Bool
  deriving DecidableEq, Repr

/-- R227: a band's bit. `out`: beyond the limit; `back`: back inside by HYST. -/
def bandBit (was out back : Bool) : Bool := if out then true else if back then false else was

/-- R226: what an accepted sample makes of a record. -/
def PtRec.take (r : PtRec) (q : Option Prof) (x : Sample) : PtRec :=
  let s := r.status
  if x.bad then
    { r with
      status := mkStatus true false (stRate s) (bitsN s 4 4 == 1) (bitsN s 3 3 == 1) (bitsN s 2 2 == 1) (bitsN s 1 1 == 1) true,
      seq := x.seq, time := x.t }
  else
    match q with
    | none => { r with status := mkStatus false false false false false false false true, seq := x.seq, time := x.t, value := x.v }
    | some f =>
      let rate := stValid s && decide (0 < f.rateMax)
        && decide ((f.rateMax : Int) * ((x.t : Int) - r.time) < ((x.v - r.value).natAbs : Int) * 1000000000)
      let hi := fun (i : Nat) (lim : Int) => bandBit (bitsN s i i == 1) (decide (lim < x.v)) (decide (x.v ≤ lim - f.hyst))
      let lo := fun (i : Nat) (lim : Int) => bandBit (bitsN s i i == 1) (decide (x.v < lim)) (decide (lim + f.hyst ≤ x.v))
      { r with
        status := mkStatus false false rate (hi 4 f.softHi) (lo 3 f.softLo) (hi 2 f.hardHi) (lo 1 f.hardLo) true,
        seq := x.seq, time := x.t, value := x.v }

/-- R240: an unknown key. -/
def unknownKey (src key : Nat) (p : PntSt) (io : Io) : PntSt × Io :=
  let io1 := io.count Reg.PNT.UNKNOWN_CNT
  let u := Tbl.get p.unk Unk.init src
  let due := match u.at_ with
    | some t => decide (t + 100 * ms ≤ io.now)
    | none => true
  if due then
    ({ p with unk := Tbl.set p.unk Unk.init src ⟨some io.now, 0⟩ },
     (io1.pktN q4 0 47 4 [0xA5 * 2 ^ 48 + src * 65536 + satU 16 (u.n + 1), key % 2 ^ 48]).evt 0x40140000 4)
  else ({ p with unk := Tbl.set p.unk Unk.init src { u with n := u.n + 1 } }, io1)

/-- R226 for one sample. -/
def ingest (src : Nat) (x : Sample) (p : PntSt) (io : Io) : PntSt × Io :=
  if x.key / 2 ^ 48 ≠ src then (p, io.count Reg.PNT.REJ_NODE_CNT)
  else if io.now + ms < x.t then (p, io.count Reg.PNT.REJ_TIME_CNT)
  else
    match lookupKey p x.key with
    | none => unknownKey src x.key p io
    | some idx =>
      let r := ptOf p idx
      if stValid r.status && !(newer x.seq r.seq && decide (r.time ≤ x.t)) then (p, io.count Reg.PNT.REJ_SEQ_CNT)
      else changePt idx true (r.take (profOf p r.profile) x) p (io.count Reg.PNT.INGEST_CNT)

/-- The samples of a payload in one of the two forms of R225, in entry order; none for any other payload. Assumption log: 65 (DESIGN CHOICE). -/
def blockSamples (b : List Byte) : Option (List Sample) :=
  let n := u16 b 2
  if u8 b 1 ≠ 0 then none
  else if u8 b 0 = 1 then
    if 1 ≤ n ∧ n ≤ 56 ∧ b.length = 24 + 24 * n ∧ u32 b 4 = 0 ∧ u64 b 16 = 0
        ∧ (List.range n).all (fun i => decide (u8 b (24 + 24 * i + 20) ≤ 1) && leN b (24 + 24 * i + 21) 3 == 0) then
      some ((List.range n).map fun i =>
        let o := 24 + 24 * i
        ⟨u64 b o, s32 b (o + 8), u32 b (o + 12), u64 b 8 + u32 b (o + 16), u8 b (o + 20) == 1⟩)
    else none
  else if u8 b 0 = 2 then
    if 1 ≤ n ∧ n ≤ 320 ∧ b.length = 24 + 4 * n then
      some ((List.range n).map fun i =>
        ⟨(u64 b 16 + i) % 2 ^ 64, s32 b (24 + 4 * i), u32 b 4, u64 b 8, u32 b (24 + 4 * i) == 0x80000000⟩)
    else none
  else none

/-- R225, R229: an accepted POINT_BLOCK message. `fifo`: blocks already in the ingest FIFO. Assumption log: 65 (DESIGN CHOICE). -/
def pointBlock (fifo src : Nat) (b : List Byte) (p : PntSt) (io : Io) : PntSt × Io :=
  if !io.flag Reg.PNT.CTRL 0 then (p, io)
  else if 512 ≤ fifo then (p, (io.count Reg.PNT.BLK_DROP_CNT).evt 0x40140000 12)
  else
    match blockSamples b with
    | some l => l.foldl (fun s x => ingest src x s.1 s.2) (p, io)
    | none => (p, io)

/-! Commands (R220 to R223). -/

/-- The arguments of a command. -/
structure PntArgs where
  key : Nat
  a0 : Nat
  a1 : Nat
  a2 : Nat
  a3 : Nat
  deriving DecidableEq, Repr

/-- What a command ends with: RESULT and CMD_RES. -/
structure PntRes where
  code : Nat
  res : Nat
  deriving DecidableEq, Repr

/-- 0x1F_FFFF: no parent. -/
def noParent : Nat := 0x1FFFFF

/-- The parent of element i of a range. -/
def elemParent (a3 i : Nat) : Option Nat :=
  if a3 % 2097152 = noParent then none else some (a3 % 2097152 + i / max (bitsN a3 27 21) 1)

/-- The first element of a range that satisfies a condition. -/
def firstBad (n : Nat) (bad : Nat → Bool) : Option Nat := (List.range n).find? bad

/-- Elements added to a node form one contiguous range with what it has, at most 64 (R221, NONCONTIG). -/
def joins (first n lo hi : Nat) : Bool :=
  decide (n + (hi - lo) ≤ 64) && (n == 0 || hi == first || first + n == lo)

/-- Elements taken from a node leave one contiguous range. -/
def leaves (first n lo hi : Nat) : Bool := decide (lo ≤ first) || decide (first + n ≤ hi)

/-- The elements of a range that fall to a parent, as offsets lo to hi - 1. -/
def shareOf (a3 count parent : Nat) : Nat × Nat :=
  let pp := max (bitsN a3 27 21) 1
  let k := parent - a3 % 2097152
  (k * pp, min count ((k + 1) * pp))

/-- The parents that a range names. -/
def rangeParents (a3 count : Nat) : List Nat :=
  if a3 % 2097152 = noParent then []
  else (List.range ((count + max (bitsN a3 27 21) 1 - 1) / max (bitsN a3 27 21) 1)).map fun k => a3 % 2097152 + k

/-- PER_PARENT is 1 to 64 where there is a parent. -/
def perParentOk (a3 : Nat) : Bool := a3 % 2097152 == noParent || (decide (1 ≤ bitsN a3 27 21) && decide (bitsN a3 27 21 ≤ 64))

/-- The refusals of ADD_RANGE before any key is placed (R221). Assumption log: 57 (DEDUCED). -/
def addRangeCheck (p : PntSt) (x : PntArgs) : Option PntRes :=
  let n := x.a1
  if 2 ^ 25 ≤ x.a0 ∨ 2 ^ 17 ≤ n ∨ 2 ^ 12 ≤ x.a2 ∨ 2 ^ 28 ≤ x.a3 then some ⟨7, x.a0 % 2 ^ 25⟩
  else if n = 0 ∨ 65536 < n ∨ 33554432 < x.a0 + n ∨ 2 ^ 48 < x.key % 2 ^ 48 + n ∨ !perParentOk x.a3
      ∨ (rangeParents x.a3 n).any (fun m => decide (4 ≤ nodeLevel m)) then some ⟨4, x.a0⟩
  else if (profOf p x.a2).isNone then some ⟨7, x.a0⟩
  else
    match firstBad n (fun i => (lookupKey p (x.key + i)).isSome), firstBad n (fun i => (ptOf p (x.a0 + i)).defined) with
    | some i, _ => some ⟨1, x.a0 + i⟩
    | none, some i => some ⟨2, x.a0 + i⟩
    | none, none =>
      match (rangeParents x.a3 n).find? (fun m => (nodeRec p m).isNone || decide (2 ≤ nodeLevel m)) with
      | some m => some ⟨7, x.a0 + (shareOf x.a3 n m).1⟩
      | none =>
        match (rangeParents x.a3 n).find? (fun m =>
            let r := (nodeRec p m).getD RNode.init
            let s := shareOf x.a3 n m
            !joins r.firstPt r.nPt (x.a0 + s.1) (x.a0 + s.2)) with
        | some m => some ⟨6, x.a0 + (shareOf x.a3 n m).1⟩
        | none => none

/-- The keys of a range are placed in order; the offset of the first with no room. -/
def placeAllKeys (key first : Nat) : List Nat → PntSt × Io → PntSt × Io × Option Nat
  | [], s => (s.1, s.2, none)
  | i :: r, s =>
    match insertKey true (key + i) (first + i) s.1 s.2 with
    | some t => placeAllKeys key first r t
    | none => (s.1, s.2, some i)

/-- A new point is attached: it counts stale until its first sample (R245). -/
def attachPt (idx : Nat) (r : PtRec) (p : PntSt) : PntSt :=
  let p1 := p.putPt idx r
  match r.parent with
  | none => p1
  | some n =>
    let p2 := p1.updNode n fun x => { (x.recount PtRec.init r) with firstPt := if x.nPt = 0 then idx else min x.firstPt idx, nPt := x.nPt + 1 }
    if nodeLevel n = 0 then
      (match stringAbove p2 n with
       | some s => p2.updNode s fun x => x.recount PtRec.init r
       | none => p2)
    else p2

/-- ADD_RANGE (R220 to R222). The points are written first, because a displaced key is read from its record. Assumption log: 61 (DEDUCED). -/
def addRange (x : PntArgs) (p : PntSt) (io : Io) : PntRes × PntSt × Io :=
  match addRangeCheck p x with
  | some e => (e, p, io)
  | none =>
    let q := (List.range x.a1).foldl (fun p i =>
      attachPt (x.a0 + i) ⟨0, 0, 0, x.key + i, 32768, x.a2, elemParent x.a3 i, false⟩ p) p
    match placeAllKeys x.key x.a0 (List.range x.a1) (q, io) with
    | (q1, io1, none) =>
      let io2 := io1.setReg Reg.PNT.DEF_CNT (w32 ((io1.reg Reg.PNT.DEF_CNT).toNat + x.a1))
      let r := maybeRehash q1 io2
      (⟨0, 0⟩, r.1, r.2)
    | (_, _, some i) =>
      (⟨3, x.a0 + i⟩, p, (io.pktN q4 0 47 0xC [0xA6 * 2 ^ 48 + (x.a0 + i) * 2 ^ 20, (x.key + i) % 2 ^ 48]).evt 0x40140000 5)

/-- A point is detached and removed. -/
def detachPt (idx : Nat) (p : PntSt) (io : Io) : PntSt × Io :=
  let a := ptOf p idx
  let p1 := removeKey a.key idx p
  match a.parent with
  | none => (p1.putPt idx PtRec.init, io)
  | some n =>
    let role := roleOf p a
    let held := match nodeRec p1 n with
      | some nd => (role = 1 ∨ role = 2) && !a.stale && atExtreme role a.value nd
      | none => false
    let p2 := (p1.putPt idx PtRec.init).updNode n fun x =>
      { (x.recount a PtRec.init) with firstPt := if x.firstPt = idx then idx + 1 else x.firstPt, nPt := x.nPt - 1 }
    let p3 := if nodeLevel n = 0 then
        (match stringAbove p2 n with
         | some s => p2.updNode s fun x => x.recount a PtRec.init
         | none => p2)
      else p2
    if held then queueRescan n p3 io else (p3, io)

/-- DEL_RANGE. Assumption log: 58 (DESIGN CHOICE). -/
def delRange (x : PntArgs) (p : PntSt) (io : Io) : PntRes × PntSt × Io :=
  let n := x.a1
  if x.a0 ≠ 0 ∨ 2 ^ 17 ≤ n ∨ x.a2 ≠ 0 ∨ x.a3 ≠ 0 then (⟨7, 0⟩, p, io)
  else if n = 0 ∨ 65536 < n ∨ 2 ^ 48 < x.key % 2 ^ 48 + n then (⟨4, 0⟩, p, io)
  else
    let found := (List.range n).map fun i => lookupKey p (x.key + i)
    if found.any Option.isNone then
      let f := io.fresh
      (⟨5, Config.freeNat f.1 % 33554432⟩, p, f.2)
    else
      let idxs := found.filterMap fun o => o
      let broken := idxs.find? fun i =>
        match (ptOf p i).parent.bind (nodeRec p) with
        | some r =>
          let keep := (attached r).filter fun j => !idxs.contains j
          match keep.head?, keep.getLast? with
          | some lo, some hi => decide (hi - lo + 1 ≠ keep.length)
          | _, _ => false
        | none => false
      match broken with
      | some i => (⟨6, i⟩, p, io)
      | none =>
        let r := idxs.foldl (fun (s : PntSt × Io) i => detachPt i s.1 s.2) (p, io)
        let q := idxs.foldl (fun (s : PntSt) i =>
          match (ptOf p i).parent with
          | some m => s.updNode m fun z =>
              (match ((attached ((nodeRec p m).getD RNode.init)).filter fun j => !idxs.contains j).head? with
               | some lo => { z with firstPt := lo }
               | none => { z with firstPt := 0 })
          | none => s) r.1
        (⟨0, 0⟩, q, r.2.setReg Reg.PNT.DEF_CNT (w32 ((r.2.reg Reg.PNT.DEF_CNT).toNat - n)))

/-- LOOKUP. Assumption log: 58 (DESIGN CHOICE). -/
def pntLookup (x : PntArgs) (p : PntSt) (io : Io) : PntRes × PntSt × Io :=
  if x.a0 ≠ 0 ∨ x.a1 ≠ 0 ∨ x.a2 ≠ 0 ∨ x.a3 ≠ 0 then (⟨7, 0⟩, p, io)
  else
    match lookupKey p x.key with
    | some i => (⟨0, i⟩, p, io)
    | none =>
      let f := io.fresh
      (⟨5, Config.freeNat f.1 % 33554432⟩, p, f.2)

/-- SET_PROFILE: taken into use from each point's next sample (R224). -/
def setProfile (x : PntArgs) (p : PntSt) (io : Io) : PntRes × PntSt × Io :=
  if x.key ≠ 0 ∨ 2 ^ 25 ≤ x.a0 ∨ 2 ^ 17 ≤ x.a1 ∨ 2 ^ 12 ≤ x.a2 ∨ x.a3 ≠ 0 then (⟨7, x.a0 % 2 ^ 25⟩, p, io)
  else if x.a1 = 0 ∨ 65536 < x.a1 ∨ 33554432 < x.a0 + x.a1 then (⟨4, x.a0⟩, p, io)
  else if (profOf p x.a2).isNone then (⟨7, x.a0⟩, p, io)
  else
    match firstBad x.a1 (fun i => !(ptOf p (x.a0 + i)).defined) with
    | some i => (⟨5, x.a0 + i⟩, p, io)
    | none =>
      (⟨0, 0⟩, (List.range x.a1).foldl (fun p i => p.putPt (x.a0 + i) { ptOf p (x.a0 + i) with profile := x.a2 }) p, io)

/-- PARAM of a new node (R221). -/
def paramOk (p : PntSt) (level param : Nat) : Bool :=
  match level with
  | 1 => (sprofOf p param).isSome
  | 3 => decide (param < 64)
  | _ => param == 0

/-- DEF_NODES. Assumption log: 57 (DEDUCED). -/
def defNodes (x : PntArgs) (p : PntSt) (io : Io) : PntRes × PntSt × Io :=
  let n := x.a1
  let lv := nodeLevel x.a0
  if x.key ≠ 0 ∨ 2 ^ 21 ≤ x.a0 ∨ 2 ^ 17 ≤ n ∨ 2 ^ 8 ≤ x.a2 ∨ 2 ^ 28 ≤ x.a3 then (⟨7, x.a0 % 2 ^ 21⟩, p, io)
  else if n = 0 ∨ 65536 < n ∨ 4 ≤ lv ∨ nodeLevel (x.a0 + n - 1) ≠ lv ∨ !perParentOk x.a3 then (⟨4, x.a0⟩, p, io)
  else if !paramOk p lv x.a2 then (⟨7, x.a0⟩, p, io)
  else
    match firstBad n (fun i => (nodeRec p (x.a0 + i)).isSome) with
    | some i => (⟨2, x.a0 + i⟩, p, io)
    | none =>
      match (rangeParents x.a3 n).find? (fun m => (nodeRec p m).isNone || decide (nodeLevel m ≠ lv + 1)) with
      | some m => (⟨7, x.a0 + (shareOf x.a3 n m).1⟩, p, io)
      | none =>
        match (rangeParents x.a3 n).find? (fun m =>
            let r := (nodeRec p m).getD RNode.init
            let s := shareOf x.a3 n m
            !joins r.firstNode r.nNode (x.a0 + s.1) (x.a0 + s.2)) with
        | some m => (⟨6, x.a0 + (shareOf x.a3 n m).1⟩, p, io)
        | none =>
          let q := (List.range n).foldl (fun p i =>
            let par := elemParent x.a3 i
            let p1 := p.putNode (x.a0 + i) { RNode.init with parent := par, param := x.a2 }
            match par with
            | some m => p1.updNode m fun r =>
                { r with firstNode := if r.nNode = 0 then x.a0 + i else min r.firstNode (x.a0 + i), nNode := r.nNode + 1 }
            | none => p1) p
          (⟨0, 0⟩, q, io)

/-- DEL_NODES. A node of the range that is not defined is passed over: R221 names no refusal for it. Assumption log: 57 (DEDUCED), 59 (DEDUCED). -/
def delNodes (x : PntArgs) (p : PntSt) (io : Io) : PntRes × PntSt × Io :=
  let n := x.a1
  if x.key ≠ 0 ∨ 2 ^ 21 ≤ x.a0 ∨ 2 ^ 17 ≤ n ∨ x.a2 ≠ 0 ∨ x.a3 ≠ 0 then (⟨7, x.a0 % 2 ^ 21⟩, p, io)
  else if n = 0 ∨ 65536 < n ∨ 1118464 < x.a0 + n then (⟨4, x.a0⟩, p, io)
  else
    let has := (List.range n).filter fun i => (nodeRec p (x.a0 + i)).isSome
    let gone := has.map fun i => x.a0 + i
    match firstBad n (fun i => match nodeRec p (x.a0 + i) with
        | some r => decide (0 < r.nPt) || (children r).any fun c => !gone.contains c
        | none => false) with
    | some i => (⟨7, x.a0 + i⟩, p, io)
    | none =>
      let broken := gone.find? fun g =>
        match (nodeRec p g).bind RNode.parent with
        | some m =>
          (match nodeRec p m with
           | some r =>
             let keep := (children r).filter fun c => !gone.contains c
             match keep.head?, keep.getLast? with
             | some lo, some hi => decide (hi - lo + 1 ≠ keep.length)
             | _, _ => false
           | none => false)
        | none => false
      match broken with
      | some g => (⟨6, g⟩, p, io)
      | none =>
        let r := gone.foldl (fun (s : PntSt × Io) g =>
          match nodeRec s.1 g with
          | none => s
          | some nd =>
            let p1 : PntSt := { s.1 with nodes := Tbl.set s.1.nodes none g none, queue := s.1.queue.filter fun k => k != g }
            match nd.parent with
            | none => (p1, s.2)
            | some m =>
              match nodeRec p1 m with
              | none => (p1, s.2)
              | some pr =>
                let keep := (children pr).filter fun c => c != g && (nodeRec p1 c).isSome
                let p2 := p1.putNode m { pr with nNode := keep.length, firstNode := keep.head?.getD 0 }
                queueRescan m p2 s.2) (p, io)
        (⟨0, 0⟩, r.1, r.2)

/-- The command arguments in the registers. -/
def pntArgs (io : Io) : PntArgs :=
  ⟨io.pair Reg.PNT.CMD_KEY_LO, (io.reg (Reg.PNT.CMD_ARG 0)).toNat, (io.reg (Reg.PNT.CMD_ARG 1)).toNat,
   (io.reg (Reg.PNT.CMD_ARG 2)).toNat, (io.reg (Reg.PNT.CMD_ARG 3)).toNat⟩

/-- One command by its code. Assumption log: 57 (DEDUCED). -/
def pntExec (op : Nat) (x : PntArgs) (p : PntSt) (io : Io) : PntRes × PntSt × Io :=
  match op with
  | 1 => addRange x p io
  | 2 => delRange x p io
  | 3 => pntLookup x p io
  | 4 => setProfile x p io
  | 5 => defNodes x p io
  | 6 => delNodes x p io
  | _ => (⟨7, 0⟩, p, io)

/-- R220: a write of CMD runs a command with the arguments in the registers. -/
def pntCommand (who : Who) (op : Nat) (p : PntSt) (io : Io) : PntSt × Io :=
  if mayWrite who Reg.PNT.CMD then
    let r := pntExec op (pntArgs io) p io
    (r.2.1, ((r.2.2.setReg Reg.PNT.CMD_STAT (w32 (r.1.code * 65536 + op * 256))).setReg Reg.PNT.CMD_RES (w32 r.1.res)).evt 0x40140000 13)
  else (p, io.access .pnt 0 1 who Reg.PNT.CMD op)

/-! The sweeper (R241 to R243, R261). -/

/-- The next defined point from an index on, wrapping. -/
def nextDefined (p : PntSt) (i : Nat) : Option (Nat × Bool) :=
  match p.pts.find? fun e => decide (i ≤ e.1) && e.2.defined with
  | some e => some (e.1, false)
  | none => (p.pts.find? fun e => e.2.defined).map fun e => (e.1, true)

/-- R261: a bucket's entries are lost. -/
def loseBucket (p : PntSt) (b : Nat) : PntSt := (List.range 8).foldl (fun p s => p.slotPut b s none) p

/-- R261: a node is rebuilt by a full rescan, counts included. -/
def rebuildNode (p : PntSt) (n : Nat) : PntSt :=
  match nodeRec p n with
  | none => p
  | some r =>
    let pts := attached r ++ (if nodeLevel n = 1 then (children r).flatMap fun c => attached ((nodeRec p c).getD RNode.init) else [])
    let cnt := fun f : PtRec → Bool => (pts.filter fun i => f (ptOf p i)).length
    p.putNode n { freshExtremes p r with
      rescan := false, hardN := cnt fun x => stHard x.status, softN := cnt fun x => stSoft x.status, staleN := cnt PtRec.stale }

/-- R261: STAT.REPAIR while entries may be lost. -/
def losses (e : PntEcc) (p : PntSt) (io : Io) : PntSt × Io :=
  let p1 := e.nodes.foldl rebuildNode p
  if e.buckets.isEmpty then (p1, io)
  else ({ e.buckets.foldl loseBucket p1 with sweepLoss := true }, io.setFlag Reg.PNT.STAT 4 true)

/-- R261: the sweeper reinserts a key that it does not find. -/
def repairKey (idx : Nat) (p : PntSt) (io : Io) : PntSt × Io :=
  let r := ptOf p idx
  if io.flag Reg.PNT.STAT 4 && (lookupKey p r.key).isNone && !r.lost then
    (match insertKey true r.key idx p io with
     | some s => ({ s.1 with sweepLoss := true }, s.2)
     | none => ({ p with sweepLoss := true }, io))
  else (p, io)

/-- R243: the sweeper has read the last point attached to a module. Assumption log: 63 (DEDUCED). -/
def sweepModule (idx : Nat) (p : PntSt) (io : Io) : PntSt × Io :=
  match (ptOf p idx).parent with
  | none => (p, io)
  | some n =>
    match nodeRec p n with
    | none => (p, io)
    | some r =>
      if idx + 1 = r.firstPt + r.nPt then
        rescanNode n { p with queue := p.queue.filter fun k => k != n } io
      else (p, io)

/-- Row SWEEP_VISIT: the sweeper visits the next defined point. -/
def sweepVisit (e : PntEcc) (p0 : PntSt) (io0 : Io) : PntSt × Io :=
  let s := losses e p0 io0
  let p := s.1
  let io := s.2
  if !io.flag Reg.PNT.CTRL 2 then s
  else
    match nextDefined p p.sweep with
    | none => s
    | some (idx, wrapped) =>
      let io1 := if wrapped && !p.sweepLoss then io.setFlag Reg.PNT.STAT 4 false else io
      let q := { p with sweep := idx + 1, sweepLoss := if wrapped then false else p.sweepLoss }
      let r := ptOf q idx
      let a := if e.rec_ && !r.lost then
          let c := changePt idx false { r with lost := true } q io1
          (c.1, (c.2.count Reg.PNT.ECC_LOST_CNT).evt 0x40140000 11)
        else
          match profOf q r.profile with
          | some f =>
            if stValid r.status && f.staleMs != 0 && !stStale r.status && decide (r.time + f.staleMs * ms < io.now) then
              changePt idx false { r with status := r.status + 64 } q io1
            else (q, io1)
          | none => (q, io1)
      let b := repairKey idx a.1 a.2
      sweepModule idx b.1 b.2

/-! The rollup pass (R247 to R252, R257, R258). -/

/-- ramp of R248, Q16.16. -/
def ramp (x e k : Int) : Nat := if x ≤ e then 0 else if k ≤ x then 65536 else ((x - e) * 65536 / (k - e)).toNat

/-- The zero causes of a string, as bits 31 to 28 of STR_STATE, and SOFT as bit 27. -/
def strCauses (now : Nat) (q : SProf) (r : RNode) : Nat :=
  b2n (r.hasClosed && !r.closed) * 2 ^ 31 + b2n (decide (0 < r.hardN)) * 2 ^ 30 + b2n (decide (q.staleTol < r.staleN)) * 2 ^ 29
    + b2n (decide (r.lastTime + q.staleMs * ms < now)) * 2 ^ 28 + b2n (decide (0 < r.softN)) * 2 ^ 27

/-- R248: the discharge and charge limits of a string. -/
def stringLimits (now : Nat) (q : SProf) (r : RNode) : Nat × Nat :=
  if strCauses now q r / 2 ^ 28 ≠ 0 ∨ r.vMax < r.vMin ∨ r.tMax < r.tMin then (0, 0)
  else
    let hi := ramp (-r.tMax) (-q.tHiEnd) (-q.tHiKnee)
    let fd := ramp r.vMin q.vDisEnd q.vDisKnee * min (ramp r.tMin q.tLoEnd q.tLoKnee) hi / 65536
    let fc := ramp (-r.vMax) (-q.vChgEnd) (-q.vChgKnee) * min (ramp r.tMin q.tcEnd q.tcKnee) hi / 65536
    let cut := fun i : Nat => if 0 < r.softN then i * (100 - q.soft) / 100 else i
    let iD := cut (q.iDis * fd / 65536)
    let iC := cut (q.iChg * fc / 65536)
    (iD * r.vStr * (100 - q.sag) / 100000000, iC * r.vStr / 1000000)

/-- The nodes of a level, ascending. -/
def levelNodes (p : PntSt) (lv : Nat) : List Nat :=
  p.nodes.filterMap fun e => if nodeLevel e.1 = lv ∧ e.2.isSome then some e.1 else none

/-- Strings: their limits written into their nodes. `residue`: strings whose arithmetic fails its check (R250). Assumption log: 202 (DEDUCED). -/
def passStrings (now : Nat) (residue : List Nat) (p : PntSt) : PntSt :=
  (levelNodes p 1).foldl (fun p n =>
    p.updNode n fun r =>
      let l := match sprofOf p r.param with
        | some q => if residue.contains (n - 1048576) then (0, 0) else stringLimits now q r
        | none => (0, 0)
      { r with pDis := l.1 % 2 ^ 32, pChg := l.2 % 2 ^ 32 }) p

/-- R249: racks and banks sum their children. -/
def passSums (lv : Nat) (p : PntSt) : PntSt :=
  (levelNodes p lv).foldl (fun p n =>
    p.updNode n fun r =>
      let sum := fun f : RNode → Nat => ((children r).map fun c => f ((nodeRec p c).getD RNode.init)).foldl (· + ·) 0
      { r with pDis := sum RNode.pDis % 2 ^ 32, pChg := sum RNode.pChg % 2 ^ 32 }) p

/-- The banks that name a source. -/
def sourceBanks (p : PntSt) (s : Nat) : List RNode :=
  (levelNodes p 3).filterMap fun n => (nodeRec p n).bind fun r => if r.param = s then some r else none

/-- R249: a source's limit. Assumption log: 202 (DEDUCED). -/
def sourceLimit (p : PntSt) (f : RNode → Nat) (s : Nat) : Nat :=
  min ((sourceBanks p s).map f).sum 0x7FFFFFFF

/-- The strings under a source. -/
def sourceStrings (p : PntSt) (s : Nat) : List RNode :=
  (sourceBanks p s).flatMap fun b => (children b).flatMap fun k =>
    (children ((nodeRec p k).getD RNode.init)).filterMap (nodeRec p)

/-- R258: the Q5 records of one string, and what they say. -/
def stringRecs (now delta : Nat) (p : PntSt) (n : Nat) : List Nat × StrLast :=
  match nodeRec p n with
  | none => ([], StrLast.init)
  | some r =>
    let s := n - 1048576
    let old := Tbl.get p.strLast StrLast.init s
    let far := fun a b : Nat => decide (delta ≤ (a - b) + (b - a))
    let causes := match sprofOf p r.param with
      | some q => strCauses now q r
      | none => 0
    let lim := far r.pDis old.dis || far r.pChg old.chg
    let chg := causes / 2 ^ 28 != old.causes / 2 ^ 28
    ((if lim then [0x92 * 2 ^ 48 + s * 2 ^ 32 + r.pDis, 0x93 * 2 ^ 48 + s * 2 ^ 32 + r.pChg] else [])
      ++ (if chg then [0x94 * 2 ^ 48 + s * 2 ^ 32 + causes] else []),
     ⟨if lim then r.pDis else old.dis, if lim then r.pChg else old.chg, if chg then causes else old.causes⟩)

/-- R257, R258: the Q5 packet of pass k. -/
def q5Packet (k now : Nat) (p : PntSt) (io : Io) : PntSt × Io :=
  let delta := io.fld Reg.PNT.Q5_CFG 15 0
  let all := levelNodes p 1
  let want := fun n => !(stringRecs now delta p n).1.isEmpty
  let order := (all.filter fun n => p.left.contains n && want n) ++ (all.filter fun n => !p.left.contains n && want n)
  let now_ := order.take (io.fld Reg.PNT.Q5_CFG 27 16)
  let rest := order.drop (io.fld Reg.PNT.Q5_CFG 27 16)
  let srcs := (List.range 64).filter fun s => !(sourceBanks p s).isEmpty
  let srcRecs := srcs.flatMap fun s =>
    let zero := fun f : RNode → Nat => satU 8 ((sourceStrings p s).filter fun r => f r == 0).length
    [0x91 * 2 ^ 48 + s * 2 ^ 42 + zero RNode.pDis * 2 ^ 32 + sourceLimit p RNode.pDis s,
     0x91 * 2 ^ 48 + s * 2 ^ 42 + 2 ^ 41 + zero RNode.pChg * 2 ^ 32 + sourceLimit p RNode.pChg s]
  let roll := 0x90 * 2 ^ 48 + b2n (!rest.isEmpty) * 2 ^ 46 + b2n p.prev.isSome * 2 ^ 45 + k % 2 ^ 32
  let body := roll :: srcRecs ++ now_.flatMap fun n => (stringRecs now delta p n).1
  let last := now_.foldl (fun t n => Tbl.set t StrLast.init (n - 1048576) (stringRecs now delta p n).2) p.strLast
  ({ p with strLast := last, left := rest }, io.pktN q5 0 47 4 body)

/-- The number of the pass that site time is in: pass k starts at k * 10 ms - 2 ms (R251). -/
def passNow (now : Nat) : Nat := (now + 2 * ms) / (10 * ms)

/-- Row ROLLUP_PASS: the pass that is due, once (R251). Assumption log: 63 (DEDUCED), 64 (DEDUCED). -/
def rollupPass (residue : List Nat) (p : PntSt) (io : Io) : PntSt × Io :=
  let k := passNow io.now
  if io.flag Reg.PNT.CTRL 1 && decide (p.lastPass ≤ k) then
    let start := k * 10 * ms - 2 * ms
    let due := p.queue
    let r := due.foldl (fun (s : PntSt × Io) n => rescanNode n { s.1 with queue := s.1.queue.filter fun m => m != n } s.2) (p, io)
    let q := passSums 3 (passSums 2 (passStrings start residue r.1))
    let tbl := fun f : RNode → Nat => (List.range 64).foldl (fun t s => Tbl.set t 0 s (sourceLimit q f s)) []
    let q1 := { q with lastPass := k + 1, ready := some (tbl RNode.pDis, tbl RNode.pChg) }
    let io1 := r.2.setPair Reg.PNT.ROLL_TIME_LO start
    let io2 := if residue.isEmpty then io1
      else (io1.evt 0x40140000 16).errRec .pnt 0 ⟨4, 0, 0, 0, 0, residue.headD 0, io.now⟩
    q5Packet k start q1 io2
  else (p, io)

/-- R252, row ROLL_LATE: pass k has not completed by k * 10 ms. Assumption log: 64 (DEDUCED). -/
def rollLate (p : PntSt) (io : Io) : PntSt × Io :=
  let k := io.now / (10 * ms)
  if io.flag Reg.PNT.CTRL 1 && decide (p.lastPass ≤ k) && decide (p.lateAt ≤ k) then
    ({ p with lateAt := k + 1 }, ((io.count Reg.PNT.ROLL_LATE_CNT).evt 0x40140000 10).setFlag Reg.PNT.STAT 3 true)
  else (p, io)

/-- Step 1 of tick n, n a multiple of 40 (R31, R251, R252). -/
def pntStep1 (n : Nat) (p : PntSt) (io : Io) : PntSt × Io :=
  let k := n / 40
  if n % 40 ≠ 0 ∨ !io.flag Reg.PNT.CTRL 1 then (p, io)
  else
    match p.ready with
    | some l =>
      if p.lastPass = k + 1 then
        let io1 := (List.range 64).foldl (fun io s =>
          (io.setReg (Reg.PNT.SRC_DIS s) (w32 (Tbl.get l.1 0 s))).setReg (Reg.PNT.SRC_CHG s) (w32 (Tbl.get l.2 0 s)))
          (io.setFlag Reg.PNT.STAT 3 false)
        ({ p with pubAt := some (k * 10 * ms - 2 * ms) }, io1)
      else rollLate p io
    | none => rollLate p io

/-- R39: what ALLOC reads of a source at time t: discharge and charge limits, and whether they are stale. -/
def srcLimits (p : PntSt) (io : Io) (t s : Nat) : Int × Int × Bool :=
  match p.pubAt with
  | some a =>
    if a + 30 * ms < t then (0, 0, true)
    else ((io.reg (Reg.PNT.SRC_DIS s)).toNat, (io.reg (Reg.PNT.SRC_CHG s)).toNat, false)
  | none => (0, 0, true)

/-! Windows (R224, R228, R244). -/

/-- The eight words of a point record. -/
def PtRec.words (r : PtRec) : List Word :=
  [w32 r.time, w32 (r.time / 2 ^ 32), wS r.value, w32 r.seq, w32 r.key, w32 (r.key / 2 ^ 32),
   w32 (r.status + r.profile * 65536),
   match r.parent with
   | some n => w32 (2 ^ 31 + n)
   | none => 0]

/-- The sixteen words of a node record; an undefined node reads zero. -/
def rollNodeWords (r : Option RNode) : List Word :=
  match r with
  | none => List.replicate 16 0
  | some x =>
    [wS x.vMin, wS x.vMax, wS x.tMin, wS x.tMax, wS x.iStr, w32 x.vStr, w32 (x.hardN % 65536 + x.softN % 65536 * 65536),
     w32 (x.staleN % 65536 + (b2n x.rescan + b2n x.closed * 2 + b2n x.hasClosed * 4) * 65536),
     (match x.parent with
      | some n => w32 (2 ^ 31 + n)
      | none => 0),
     w32 x.firstPt, w32 (x.nPt + x.nNode * 65536), w32 (x.firstNode + x.param * 2 ^ 24), w32 x.pDis, w32 x.pChg,
     w32 x.lastTime, w32 (x.lastTime / 2 ^ 32)]

/-- Registers from `a` on take words. -/
def setWords (io : Io) (a : Nat) (l : List Word) : Io := (l.mapIdx fun i w => (i, w)).foldl (fun io e => io.setReg (a + 4 * e.1) e.2) io

/-- Row RD_IDX_WRITE: the record is latched in one step. -/
def rdIdxWrite (who : Who) (i : Nat) (p : PntSt) (io : Io) : Io :=
  if mayWrite who Reg.PNT.RD_IDX then
    let r := ptOf p (i % 33554432)
    setWords ((io.setReg Reg.PNT.RD_IDX (w32 (i % 33554432))).setReg Reg.PNT.RD_STAT (w32 (b2n r.lost))) (Reg.PNT.RD_DATA 0) r.words
  else io.access .pnt 0 1 who Reg.PNT.RD_IDX i

/-- Row NODE_SEL_WRITE. -/
def nodeSelWrite (who : Who) (n : Nat) (p : PntSt) (io : Io) : Io :=
  if mayWrite who Reg.PNT.NODE_SEL then
    setWords (io.setReg Reg.PNT.NODE_SEL (w32 (n % 2097152))) (Reg.PNT.NODE_WIN 0) (rollNodeWords (nodeRec p (n % 2097152)))
  else io.access .pnt 0 1 who Reg.PNT.NODE_SEL n

/-- Row PROF_SEL_WRITE (R224). -/
def profSelWrite (who : Who) (v : Word) (p : PntSt) (io : Io) : PntSt × Io :=
  if mayWrite who Reg.PNT.PROF_SEL then
    let i := bits v 11 0
    let io1 := io.setReg Reg.PNT.PROF_SEL (w32 (i + b2n (bit v 31) * 2 ^ 31))
    if bit v 31 then
      (match profOfWords fun k => io.reg (Reg.PNT.PROF_WIN k) with
       | some q => ({ p with prof := Tbl.set p.prof none i (some q) }, io1)
       | none => (p, io1.access .pnt 0 4 who Reg.PNT.PROF_SEL v.toNat))
    else (p, setWords io1 (Reg.PNT.PROF_WIN 0) (match profOf p i with
      | some q => q.words
      | none => List.replicate 8 0))
  else (p, io.access .pnt 0 1 who Reg.PNT.PROF_SEL v.toNat)

/-- Row SPROF_SEL_WRITE (R224). -/
def sprofSelWrite (who : Who) (v : Word) (p : PntSt) (io : Io) : PntSt × Io :=
  if mayWrite who Reg.PNT.SPROF_SEL then
    let i := bits v 7 0
    let io1 := io.setReg Reg.PNT.SPROF_SEL (w32 (i + b2n (bit v 31) * 2 ^ 31))
    if bit v 31 then
      (match sprofOfWords fun k => io.reg (Reg.PNT.SPROF_WIN k) with
       | some q => ({ p with sprof := Tbl.set p.sprof none i (some q) }, io1)
       | none => (p, io1.access .pnt 0 4 who Reg.PNT.SPROF_SEL v.toNat))
    else (p, setWords io1 (Reg.PNT.SPROF_WIN 0) (match sprofOf p i with
      | some q => q.words
      | none => List.replicate 12 0))
  else (p, io.access .pnt 0 1 who Reg.PNT.SPROF_SEL v.toNat)

/-- What PNT's registers show of its state. -/
def pntView (p : PntSt) (io : Io) (k : Nat) : Option Word :=
  if k = Reg.PNT.STASH_OCC then some (w32 p.stash.length)
  else if k = Reg.PNT.STAT then some (setBits (io.reg k) 2 2 (b2n p.gen))
  else none

/-- The bytes that a list of words makes. -/
def wordBytes (l : List Word) : List Byte := l.flatMap fun w => le 4 w.toNat

/-- One byte of PNT's DRAM ranges (R253), by its offset in DRAM. -/
def pntDram (p : PntSt) (o : Nat) : Byte :=
  let at_ := fun (l : List Word) (i : Nat) => (wordBytes l).getD i 0
  if o < 0x40000000 then at_ (ptOf p (o / 32)).words (o % 32)
  else if o < 0x60000000 then
    (match Tbl.get p.slots none ((o - 0x40000000) / 8) with
     | some e => (le 8 (2 ^ 63 + b2n e.gen * 2 ^ 62 + e.idx * 2 ^ 32 + e.fp)).getD (o % 8) 0
     | none => 0)
  else at_ (rollNodeWords (nodeRec p ((o - 0x60000000) / 64))) (o % 64)

/-- What THRM and CTLE read of a point (R130, R196, R218). -/
def pointVal (p : PntSt) (i : Nat) : Int := (ptOf p i).value

/-- R262: tables and node records cleared, new salts, counters of the registers untouched. -/
def pntReset (p : PntSt) (io : Io) : PntSt × Io :=
  let draw := fun n : Nat => (List.range 8).foldl (fun a i => a * 256 + (Config.random (n + i)).toNat) 0
  ({ PntSt.init with salts := (draw io.free, draw (io.free + 8)), victim := p.victim }, { io with free := io.free + 16 })

end Sys2Proof.Machine
end

