-- ==== Sys2Proof/Machine/Scratchpad.lean ====
section
/-! DEFINITION. Sys2Proof/Machine/Scratchpad.lean: the scratchpad, its owners and its test, and the DRAM (chapter 14,
R253, R254). -/
namespace Sys2Proof.Machine

/-- The bytes of a memory: unlisted bytes read `d`. Assumption log: 7 (PRESUMED). -/
def memRead (m : Tbl Byte) (d : Byte) (a : Nat) : Nat → List Byte
  | 0 => []
  | n + 1 => Tbl.get m d a :: memRead m d (a + 1) n

/-- Write bytes from an address upward. -/
def memWrite (m : Tbl Byte) (d : Byte) (a : Nat) : List Byte → Tbl Byte
  | [] => m
  | b :: r => memWrite (Tbl.set m d a b) d (a + 1) r

/-- The memories are in canonical form: addresses strictly rising, no byte equal to what an unlisted address reads as. -/
def Memory.wf (m : MemSt) : Bool := Tbl.wf (fun _ => 0) m.spm && Tbl.wf (fun _ => 0) m.dram && Tbl.wf (fun _ => 0xFF) m.flash

/-- A value as stored: little-endian. -/
def memVal (m : Tbl Byte) (d : Byte) (a n : Nat) : Nat := leN (memRead m d a n) 0 n

/-- The bank of a scratchpad byte offset, by the mode of the 2 MiB group it lies in (R566). -/
def spmBank (io : Io) (a : Nat) : Nat :=
  let b := a / 0x80000 % 32
  let g := b / 4 * 4
  if io.fld (Reg.SPM.BANK_CFG g) 29 28 = 2 then g + a / 8 % 4 else b

/-- The bank whose BANK_CFG governs a byte: bank 4k for a gang (R566). -/
def spmGov (io : Io) (a : Nat) : Nat :=
  let b := a / 0x80000 % 32
  let g := b / 4 * 4
  if io.fld (Reg.SPM.BANK_CFG g) 29 28 = 2 then g else b

/-- Owner and SHARE of the bank, or of the half of a SPLIT bank, that holds a byte (R563, R566). -/
def spmOwner (io : Io) (a : Nat) : Nat × Bool :=
  let r := Reg.SPM.BANK_CFG (spmGov io a)
  if io.fld r 29 28 = 1 ∧ a / 0x40000 % 2 = 1 then (io.fld r 15 12, io.flag r 7) else (io.fld r 11 8, io.flag r 6)

/-- R563, R565: port A is granted CORES banks and shared engine banks, port B the bank of its engine; nobody while a
handover is in progress. Assumption log: 162 (DEDUCED). -/
def spmGranted (io : Io) (eng a : Nat) : Bool :=
  let o := spmOwner io a
  !io.flag (Reg.SPM.BANK_CFG (spmGov io a)) 31
    && (if eng = 0 then o.1 == 1 || (decide (2 ≤ o.1 ∧ o.1 ≤ 9) && o.2) else decide (2 ≤ eng ∧ eng ≤ 9) && o.1 == eng)

/-- The initiator of a port access, coded as R591 codes it. -/
def SpAcc.code (c : SpAcc) : Nat := if c.eng = 0 then c.who.code else 0x10 + c.eng

/-- The block whose log takes a memory error of a port access: the engine's, or DRC for a core or the DMA (R587). -/
def SpAcc.log (c : SpAcc) : Block :=
  match c.eng with
  | 2 => .xcr | 3 => .sess | 4 => .fab | 5 => .can | 6 => .t1s | 7 => .spn | 8 => .mir | 9 => .pnt
  | _ => .drc

/-- The part of an access that falls in the 64-bit word of its first byte, or the part past it (R569): byte address,
length and data. Assumption log: 162 (DEDUCED). -/
def SpAcc.part (c : SpAcc) (second : Bool) : Option (Nat × Nat × Nat) :=
  let n1 := min c.size (8 - c.addr % 8)
  if second then
    if n1 < c.size then some (c.addr + n1, c.size - n1, c.data / 2 ^ (8 * n1)) else none
  else some (c.addr, n1, c.data)

/-- Whether two byte ranges share a byte. Assumption log: 164 (DEDUCED). -/
def overlap (a n b m : Nat) : Bool := decide (a < b + m) && decide (b < a + n)

/-- A port-B write when port A writes the same word in the same cycle: only the lanes that A does not write (R567). Assumption log: 164 (DEDUCED). -/
def writeBehind (m : Tbl Byte) (a : Nat) (bs : List Byte) (a2 n2 : Nat) : Tbl Byte :=
  match bs with
  | [] => m
  | b :: r => writeBehind (if a2 ≤ a ∧ a < a2 + n2 then m else Tbl.set m 0 a b) (a + 1) r a2 n2

/-- What the scratchpad answers and holds after one cycle in which port A performs `pa` and port B `pb` (R567). The
answers are the values read. GANG banks serve a read from before the write. -/
def spmCycle (gang : Bool) (m : Tbl Byte) (pa pb : Option (Bool × Nat × Nat × Nat)) : Tbl Byte × Nat × Nat :=
  let before := m
  let m1 := match pb with
    | some (true, b, n, v) =>
      match pa with
      | some (true, a, k, _) => writeBehind m b (le n v) a k
      | _ => memWrite m 0 b (le n v)
    | _ => m
  let m2 := match pa with
    | some (true, a, k, v) => memWrite m1 0 a (le k v)
    | _ => m1
  let rd := if gang then before else m2
  let va := match pa with
    | some (false, a, k, _) => memVal rd 0 a k
    | _ => 0
  let vb := match pb with
    | some (false, b, n, _) => memVal rd 0 b n
    | _ => 0
  (m2, va, vb)

/-- R568: port B lost overlapping lanes in the word of byte `a`. Assumption log: 164 (DEDUCED). -/
def spmConflict (io : Io) (a : Nat) : Io :=
  ((((io.setFlag (Reg.SPM.BANK_STAT (spmBank io a)) 0 true).evt 0x40030000 0).setReg Reg.SPM.CONFLICT_ADDR
    (w32 (a / 8 * 8))).count Reg.SPM.CONFLICT_CNT)

/-- A granted access that reads its word (a read, or a write of part of a word, R570) shows the check-code error. -/
def SpAcc.checks (c : SpAcc) : Bool := !c.write || c.size != 8 || c.addr % 8 != 0

/-- Record the check-code error of an access (R586, R587). Assumption log: 163 (DEDUCED). -/
def spmEcc (c : SpAcc) (io : Io) : Io :=
  if c.checks then
    if c.ecc = 1 then io.errRec c.log 0 ⟨2, 0, c.code, 0, 0x10000000 + c.addr, 0, io.now⟩
    else if c.ecc = 2 then io.errRec c.log 0 ⟨3, 0, c.code, 0, 0x10000000 + c.addr, 0, io.now⟩
    else io
  else io

/-- An access that its port is not granted (R564): discarded, recorded in SPM's log. Assumption log: 162 (DEDUCED). -/
def spmRefuse (c : SpAcc) (io : Io) : Io :=
  io.errRec .spm 0 ⟨1, 1, c.code, (if c.write then c.data % 256 else 0), 0x10000000 + c.addr, 0, io.now⟩

/-- Port A serves the application cores and the DMA, and no other initiator; port B serves engines. -/
def SpAcc.served (c : SpAcc) : Bool :=
  c.eng != 0 || match c.who with
    | .core _ | .dma => true
    | .sepia | .gauntlet | .host | .part => false

/-- Whether the access may touch its bytes: inside the scratchpad, granted at both ends, and of a size R569 names. -/
def spmOk (io : Io) (c : SpAcc) : Bool :=
  c.served && (c.size == 1 || c.size == 2 || c.size == 4 || c.size == 8) && decide (c.addr + c.size ≤ 0x1000000)
    && spmGranted io c.eng c.addr && spmGranted io c.eng (c.addr + c.size - 1)

/-- The access in one of its two cycles as `spmCycle` takes it; a write that met an uncorrectable word writes nothing
(R570). -/
def SpAcc.cyc (c : Option SpAcc) (second : Bool) : Option (Bool × Nat × Nat × Nat) :=
  c.bind fun c => (c.part second).bind fun p => if c.write && c.checks && c.ecc == 2 then none else some (c.write, p)

/-- What an initiator gets of a word found uncorrectable (R587): the DMA the word with its poison indication, a core an access fault.
Assumption log: 163 (DEDUCED). -/
def sickRead (who : Who) (a v : Nat) (io : Io) : Io :=
  if who = .dma then ({ io with bus := v } : Io).drive "POISON" 0 [a] else ({ io with bus := 0 } : Io).drive "ACCESS_FAULT" 0 [a]

/-- R567, R569: the accesses of both ports that begin in one cycle. What port A read goes to `bus`; what port B read
is driven to its engine. Assumption log: 163 (DEDUCED). -/
def spmAccess (pa pb : Option SpAcc) (m : MemSt) (io : Io) : MemSt × Io :=
  let ok := fun (c : Option SpAcc) => c.bind fun c => if spmOk io c then some c else none
  let io1 := (pa.elim io fun c => if spmOk io c then spmEcc c io else spmRefuse c io)
  let io2 := (pb.elim io1 fun c => if spmOk io c then spmEcc c io1 else spmRefuse c io1)
  let a := ok pa
  let b := ok pb
  let gang := (a.elim (b.elim 0 fun c => c.addr) fun c => c.addr)
  let isGang := decide (io.fld (Reg.SPM.BANK_CFG (gang / 0x80000 % 32 / 4 * 4)) 29 28 = 2)
  let a1 := SpAcc.cyc a false
  let b1 := SpAcc.cyc b false
  let r1 := spmCycle isGang m.spm a1 b1
  let a2 := SpAcc.cyc a true
  let b2 := SpAcc.cyc b true
  let r2 := spmCycle isGang r1.1 a2 b2
  let clash := fun (x y : Option (Bool × Nat × Nat × Nat)) => match x, y with
    | some (true, p, n, _), some (true, q, k, _) => overlap p n q k
    | _, _ => false
  let io3 := if clash a1 b1 then spmConflict io2 (b.elim 0 fun c => c.addr) else io2
  let io4 := if clash a2 b2 then spmConflict io3 (b.elim 0 fun c => c.addr / 8 * 8 + 8) else io3
  let sh := fun (c : Option SpAcc) => c.elim 0 fun c => min c.size (8 - c.addr % 8)
  let va := r1.2.1 + r2.2.1 * 2 ^ (8 * sh a)
  let vb := r1.2.2 + r2.2.2 * 2 ^ (8 * sh b)
  let poison := fun (c : Option SpAcc) => c.elim false fun c => !c.write && c.ecc == 2
  let io6 := if poison a then sickRead (a.elim .part fun c => c.who) (0x10000000 + a.elim 0 fun c => c.addr) va io4 else { io4 with bus := va }
  ({ m with spm := r2.1 },
   match b with
   | some c => if c.write then io6 else io6.drive "PORT_B" c.eng [vb, b2n (poison b)]
   | none => io6)

/-- The bank is one of the three that follow bank 4k of a gang (R566). -/
def inGang (io : Io) (b : Nat) : Bool := b % 4 != 0 && io.fld (Reg.SPM.BANK_CFG (b % 32 / 4 * 4)) 29 28 == 2

/-- What BANK_CFG shows of a bank of a gang: OWNER and SHARE of bank 4k (R566). -/
def spmView (io : Io) (k o : Nat) : Option Word :=
  let b := (o - 0x100) / 4
  let lead := io.reg (Reg.SPM.BANK_CFG (b / 4 * 4))
  if 0x100 ≤ o ∧ o < 0x180 ∧ inGang io b then some (setBits (setBits (io.reg k) 11 8 (bits lead 11 8)) 6 6 (bits lead 6 6)) else none

/-- R565: a new OWNER begins a handover. The owners of a SPLIT bank's halves are both taken from the write. In a gang bank 4k's OWNER and
SHARE stand for all four banks; a write of them to another bank of the gang changes nothing. -/
def bankOwner (who : Who) (b : Nat) (v : Word) (io : Io) : Io :=
  let a := Reg.SPM.BANK_CFG (b % 32)
  let old := io.reg a
  if mayWrite who a then
    let bad := decide (bits v 11 8 > 9) || decide (bits v 15 12 > 9)
    let v1 := setBits (setBits (setBits (setBits old 7 7 (bits v 7 7)) 6 6 (bits v 6 6))
      11 8 (if bits v 11 8 > 9 then bits old 11 8 else bits v 11 8))
      15 12 (if bits v 15 12 > 9 then bits old 15 12 else bits v 15 12)
    let v2 := if bits v1 15 8 != bits old 15 8 then setBits v1 31 31 1 else v1
    let io1 := io.setReg a v2
    if inGang io b then io else if bad then io1.accessAt 2 who a v.toNat else io1
  else io.accessAt 1 who a v.toNat

/-- R565: the old owner's accesses are complete and the bank passes to the new owner. Assumption log: 165 (DEDUCED). -/
def bankDone (b : Nat) (io : Io) : Io :=
  let a := Reg.SPM.BANK_CFG (b % 32)
  if io.flag a 31 then (io.setFlag a 31 false).evt 0x40030000 1 else io

/-- The banks that a change to or from a mode concerns (R566). -/
def modeBanks (b old new : Nat) : List Nat :=
  if old = 2 ∨ new = 2 then [b / 4 * 4, b / 4 * 4 + 1, b / 4 * 4 + 2, b / 4 * 4 + 3] else [b]

/-- R566: MODE is taken only while every bank concerned has OWNER NONE, and for GANG only at bank 4k. -/
def bankMode (who : Who) (b : Nat) (v : Word) (io : Io) : Io :=
  let a := Reg.SPM.BANK_CFG (b % 32)
  let old := io.fld a 29 28
  let new := bits v 29 28
  if mayWrite who a then
    if new = 3 then io.accessAt 2 who a v.toNat
    else if ((modeBanks (b % 32) old new).all fun k => io.fld (Reg.SPM.BANK_CFG k) 11 8 == 0
        && io.fld (Reg.SPM.BANK_CFG k) 15 12 == 0) && (new != 2 || b % 4 == 0) && !inGang io b then
      io.setFld a 29 28 new
    else io.accessAt 4 who a v.toNat
  else io.accessAt 1 who a v.toNat

/-- R571 to R573: Mitten copies, tests and restores one region of 256 bytes, and goes on to the next after GAP_US. A
mismatch at `bad` marks the bank BAD and records a MEMTEST error; the contents are unchanged. Assumption log: 165 (DEDUCED). -/
def mitten (bad : Option Nat) (m : MemSt) (io : Io) : MemSt × Io :=
  if io.flag Reg.SPM.MIT_CFG 31 && decide (m.mitAt ≤ io.now) then
    let r := m.mitNext % 65536
    let io1 := io.setReg Reg.SPM.MIT_STAT (w32 r)
    let io2 := match bad with
      | some pos =>
        ((io1.setFlag (Reg.SPM.BANK_CFG (spmBank io (r * 256))) 30 true).evt 0x40030000 2).errRec .spm 0
          ⟨6, 0, 0x21, pos, 0x10000000 + r * 256, 0, io.now⟩
      | none => io1
    let io3 := if r = 65535 then io2.setReg Reg.SPM.MIT_PASS_CNT (io2.reg Reg.SPM.MIT_PASS_CNT + 1) else io2
    ({ m with mitNext := (r + 1) % 65536, mitAt := io.now + io.fld Reg.SPM.MIT_CFG 15 0 * us }, io3)
  else (m, io)

/-- The address ranges of DRAM that PNT reserves (R253), as byte offsets within the DRAM. -/
def dramReserved (o : Nat) : Bool := decide (o < 0x68000000)

/-- R254: the channel and the bank of a DRAM byte offset. -/
def dramChannel (a : Nat) : Nat := (bitsN a 6 6 + bitsN a 14 14 + bitsN a 22 22 + bitsN a 30 30) % 2
def dramBank (a : Nat) : Nat := Nat.xor (bitsN a 10 7) (Nat.xor (bitsN a 18 15) (bitsN a 26 23))

/-- Whether R20 grants an initiator a DRAM access. `boot`: before the application cores are released (R657), while
Sepia may write. -/
def dramRight (who : Who) (boot : Bool) : Right :=
  match who with
  | .core _ | .dma | .part => .rw
  | .sepia => if boot then .rw else .ro
  | .host | .gauntlet => .no

/-- The words of DRAM that a range of bytes touches. -/
def dramWords (o n : Nat) : List Nat := if (o % 8) + n > 8 then [o / 8, o / 8 + 1] else [o / 8]

/-- R253, R586 to R588: a core or DMA access to DRAM of `size` bytes at offset `o`. `ecc`: what the check code shows. -/
def dramAccess (who : Who) (boot write : Bool) (o size data ecc : Nat) (m : MemSt) (io : Io) : MemSt × Io :=
  let a := 0x100000000 + o
  let g := dramRight who boot
  if o + size > 0x80000000 then (m, { io.unmapped who a data with bus := 0 })
  else if g = .no ∨ (write ∧ g ≠ .rw) ∨ (write ∧ dramReserved o ∧ who ≠ .part) then
    (m, { io.access .drc 0 1 who a (if write then data else 0) with bus := 0 })
  else
    let sick := ecc == 2 || (dramWords o size).any fun w => m.dramBad.contains w
    let full := write && size == 8 && o % 8 == 0
    if full then
      ({ m with dram := memWrite m.dram 0 o (le size data), dramBad := m.dramBad.filter fun w => w != o / 8 }, io)
    else if sick then
      let io1 := (io.count Reg.DRC.UE_CNT).errRec .drc 0 ⟨3, 0, who.code, 0, a, 0, io.now⟩
      if write then (m, io1) else (m, sickRead who a (memVal m.dram 0 o size) io1)
    else
      let io1 := if ecc = 1 then (io.count Reg.DRC.CE_CNT).errRec .drc 0 ⟨2, 0, who.code, 0, a, 0, io.now⟩ else io
      if write then ({ m with dram := memWrite m.dram 0 o (le size data) }, io1)
      else (m, { io1 with bus := memVal m.dram 0 o size })

/-- R588: the scrubber reads the next 64-byte unit; `ecc` as above, `word` which of its eight words shows it. -/
def dramScrub (ecc word : Nat) (m : MemSt) (io : Io) : MemSt × Io :=
  if io.flag Reg.DRC.SCRUB_CFG 31 then
    let u := m.scrubNext % 0x2000000
    let w := u * 8 + word % 8
    let io1 := io.setReg Reg.DRC.SCRUB_PTR (w32 u)
    let io2 :=
      if ecc = 1 then (io1.count Reg.DRC.CE_CNT).errRec .drc 0 ⟨2, 0, 0x20, 0, 0x100000000 + w * 8, 0, io.now⟩
      else if ecc = 2 then (io1.count Reg.DRC.UE_CNT).errRec .drc 0 ⟨3, 0, 0x20, 0, 0x100000000 + w * 8, 0, io.now⟩
      else io1
    ({ m with scrubNext := (u + 1) % 0x2000000,
              dramBad := if ecc = 2 ∧ ¬ m.dramBad.contains w then w :: m.dramBad else m.dramBad }, io2)
  else (m, io)

end Sys2Proof.Machine
end

