-- ==== Sys2Proof/Machine/Spn.lean ====
section
/-! DEFINITION. Sys2Proof/Machine/Spn.lean: the site power-line mesh (R372 to R397). -/
namespace Sys2Proof.Machine

/-- Q13 as SPN writes it (R395 to R397). -/
def q13 : Io.QDst := ⟨13, 13, Reg.SPN.Q13_DROP, 0x40330000, 9⟩

def nbrOf (s : SpnSt) (a : Nat) : Nbr := Tbl.get s.nbr Nbr.init a
def nbrPut (a : Nat) (n : Nbr) (s : SpnSt) : SpnSt := { s with nbr := Tbl.set s.nbr Nbr.init a n }
def spnEn (io : Io) : Bool := io.flag Reg.SPN.CTRL 0
def ownMesh (io : Io) : Nat := io.fld Reg.SPN.CFG 9 0

/-- The unit is the coordinator (R392, R393). -/
def isCoord (s : SpnSt) (io : Io) : Bool := spnEn io && io.flag Reg.SPN.CTRL 1 && io.active && !s.conflict

/-! Tone maps (R382). -/

/-- Unmasked carriers (R373). -/
def nOn (io : Io) : Nat :=
  ((List.range 1155).filter fun i => !io.flag (Reg.SPN.MASK (i / 32)) (i % 32)).length

/-- thr(b), Q8.8 dB. -/
def thrQ : List Nat := [256, 1024, 2048, 2688, 3456, 4224, 4992, 5760, 6528, 7296]

/-- The largest b from 0 to 10 with snr at or above thr(b) plus margin and adjustment, all Q8.8 dB. -/
def carBits (snr : Int) (need : Nat) : Nat := (thrQ.takeWhile fun t => decide ((t + need : Nat) ≤ snr)).length

/-- Rates in the order of R315's code: numerator, denominator, adj(R) in Q8.8 dB. -/
def rateOf (r : Nat) : Nat × Nat × Nat := if r = 0 then (1, 2, 0) else if r = 1 then (2, 3, 384) else (5, 6, 768)

/-- The map at one rate: bits of each carrier and cap_R. -/
def mapAtRate (snr : List Int) (margin r : Nat) : List Nat × Nat :=
  let q := rateOf r
  let b := snr.map fun x => carBits x (margin * 256 + q.2.2)
  (b, q.1 * b.foldl (· + ·) 0 / q.2.1)

/-- derive_map: none where the link stays ROBUST. `spread`: the delay spread, ns. Assumption log: 110 (DEDUCED). -/
def deriveMap (io : Io) (tmi : Nat) (snr : List Int) (spread : Nat) : Option ToneMap :=
  let margin := io.fld Reg.SPN.MAC_CFG 19 16
  let m := fun r => mapAtRate snr margin r
  let r := if (m 0).2 ≥ (m 1).2 ∧ (m 0).2 ≥ (m 2).2 then 0 else if (m 1).2 ≥ (m 2).2 then 1 else 2
  if (m r).2 < nOn io / 4 then none else some ⟨tmi, r, decide (4000 < spread), (m r).2, (m r).1⟩

/-- M in µs for a link toward a neighbour (the chapter's Routes): saturated for a LOST link. Assumption log: 110 (DEDUCED). -/
def linkM (io : Io) (n : Nbr) : Nat :=
  if n.st = 3 then 0xFFFF
  else
    let mapped := n.st == 2
    let cap := if mapped then (n.tx.map fun t => t.bits).getD 0 else nOn io / 4
    let long := !mapped || (n.tx.map fun t => t.long).getD true
    let nsym := (4320 + (max cap 1 - 1)) / max cap 1
    let x := 20480 + nsym * (if long then 5120 else 4608) + 47648
    min 0xFFFF (x * 65536 / ((65536 - min n.per 65535) * 100))

/-! Neighbour states (R386). -/

/-- A Q13 record about mesh address a. -/
def q13Rec (ty prio a low : Nat) (io : Io) : Io := io.rec1 q13 35 prio (ty * 2 ^ 48 + a % 1024 * 2 ^ 38 + low)

/-- A frame is heard from a neighbour. -/
def spnHeard (a : Nat) (s : SpnSt) (io : Io) : SpnSt × Io :=
  let n := nbrOf s a
  let n1 := { n with heard := n.heard + 1, heardAt := io.now,
                     eighth := if n.heard + 1 = 8 then some io.now else n.eighth }
  if n.st = 0 ∨ n.st = 3 then
    let n2 : Nbr := { n1 with st := 1 }
    (nbrPut a n2 s, q13Rec 0xE8 4 a (linkM io n2) (io.evt 0x40330000 0))
  else (nbrPut a n1 s, io)

/-- MAPPED to ROBUST with a cause: 0 TM_BAD, 1 no SACK, 2 forced. -/
def toRobust (a cause : Nat) (s : SpnSt) (io : Io) : SpnSt × Io :=
  let n := nbrOf s a
  if n.st = 2 then
    (nbrPut a { n with st := 1 } s, q13Rec 0xEB 8 a (cause * 2 ^ 36) ((io.count Reg.SPN.ROBUST_CNT).evt 0x40330000 2))
  else (s, io)

/-- TM_NEW: direction 0 we transmit, 1 we receive. -/
def tmNew (a dir : Nat) (t : ToneMap) (io : Io) : Io :=
  q13Rec 0xEA 4 a (dir * 2 ^ 37 + b2n t.long * 2 ^ 36 + t.tmi * 2 ^ 31 + t.rate * 2 ^ 29 + t.bits % 2 ^ 14) (io.evt 0x40330000 1)

/-- R386: 6 s without hearing a neighbour. -/
def nbrLost (a : Nat) (s : SpnSt) (io : Io) : SpnSt × Io :=
  let n := nbrOf s a
  if (n.st = 1 ∨ n.st = 2) ∧ n.heardAt + 6 * sec ≤ io.now then
    (nbrPut a { n with st := 3 } s, q13Rec 0xE9 0xC a 0 (io.evt 0x40330000 0))
  else (s, io)

/-- R386: a TM_UPDATE from a neighbour is acknowledged; under FORCE_ROBUST it is only stored. -/
def tmUpdate (a : Nat) (t : ToneMap) (tagOk : Bool) (s : SpnSt) (io : Io) : SpnSt × Io :=
  if !(spnEn io && tagOk) then (s, io)
  else
    let h := spnHeard a s io
    let n := nbrOf h.1 a
    let io1 := h.2.drive "TM_ACK" a [t.tmi]
    if io.flag Reg.SPN.CTRL 4 then (nbrPut a { n with tx := some t } h.1, io1)
    else (nbrPut a { n with tx := some t, st := 2, noSack := 0 } h.1, tmNew a 0 t io1)

/-- R385: a neighbour acknowledges the map sent to it; frames under the previous TMI are decoded for 1 s. -/
def tmAck (a tmi : Nat) (tagOk : Bool) (s : SpnSt) (io : Io) : SpnSt × Io :=
  if !(spnEn io && tagOk) then (s, io)
  else
    let h := spnHeard a s io
    let n := nbrOf h.1 a
    match n.rxNew with
    | some t =>
      if t.tmi = tmi then
        (nbrPut a { n with rx := some t, rxNew := none, rxOld := n.rx.map fun o => (o.tmi, io.now + sec) } h.1, tmNew a 1 t h.2)
      else h
    | none => h

/-- R385: the previous TMI is no longer decoded. -/
def oldTmi (a : Nat) (s : SpnSt) (io : Io) : SpnSt :=
  let n := nbrOf s a
  match n.rxOld with
  | some (_, t) => if t ≤ io.now then nbrPut a { n with rxOld := none } s else s
  | none => s

/-- Send a TM_UPDATE with a new map. -/
def sendUpdate (a : Nat) (t : ToneMap) (s : SpnSt) (io : Io) : SpnSt × Io :=
  let n := nbrOf s a
  (nbrPut a { n with rxNew := some t, updAt := some io.now, badAt := none, pbs := 0, bad := 0 } s,
   (io.count Reg.SPN.TM_UPD_CNT).drive "TM_UPDATE" a [t.tmi, t.rate, b2n t.long, t.bits])

/-- The TMI of a neighbour's next map. Assumption log: 109 (DESIGN CHOICE). -/
def nextTmi (n : Nbr) : Nat := (n.rx.map fun t => t.tmi % 15 + 1).getD 1

/-- R383: whether a TM_UPDATE is due: after the eighth frame; at 30 s, where the capacity differs by more than 5 % or more
than 1 % of the PBs failed; after a SACK with TM_BAD. -/
def updateDue (n : Nbr) (t : ToneMap) (now : Nat) : Bool :=
  n.badAt.isSome || (n.eighth.isSome && n.updAt.isNone)
    || (match n.updAt, n.rx with
        | some u, some r =>
          decide (u + 30 * sec ≤ now)
            && (decide (5 * r.bits < 100 * ((t.bits - r.bits) + (r.bits - t.bits))) || decide (n.pbs < 100 * n.bad))
        | some u, none => decide (u + 30 * sec ≤ now)
        | none, _ => false)

/-- TM_UPDATE_DUE: `snr` and `spread` as the receiver measures them. -/
def tmDue (a : Nat) (snr : List Int) (spread : Nat) (s : SpnSt) (io : Io) : SpnSt × Io :=
  let n := nbrOf s a
  match deriveMap io (nextTmi n) snr spread with
  | some t => if spnEn io && (n.st == 1 || n.st == 2) && updateDue n t io.now then sendUpdate a t s io else (s, io)
  | none => (s, io)

/-- TM_REFRESH: a TM_UPDATE on every receive link whose new map differs in any carrier. Assumption log: 114 (DEDUCED). -/
def tmRefresh (maps : List (Nat × List Int × Nat)) (s : SpnSt) (io : Io) : SpnSt × Io :=
  maps.foldl (fun (t : SpnSt × Io) m =>
    let n := nbrOf t.1 m.1
    match deriveMap t.2 (nextTmi n) m.2.1 m.2.2 with
    | some x => if (n.st == 1 || n.st == 2) && (n.rx.map fun r => r.car) != some x.car then sendUpdate m.1 x t.1 t.2 else t
    | none => t) (s, io)

/-- R386: FORCE_ROBUST is written: 1 puts every MAPPED link into ROBUST; 0 lets stored maps take effect. Assumption log: 114 (DEDUCED). -/
def forceRobust (old new : Bool) (s : SpnSt) (io : Io) : SpnSt × Io :=
  if new && !old then (s.nbr.map Prod.fst).foldl (fun (t : SpnSt × Io) a => toRobust a 2 t.1 t.2) (s, io)
  else if old && !new then
    s.nbr.foldl (fun (t : SpnSt × Io) e => match e.2.tx with
      | some m => if e.2.st == 1 then (nbrPut e.1 { e.2 with st := 2, noSack := 0 } t.1, tmNew e.1 0 m t.2) else t
      | none => t) (s, io)
  else (s, io)

/-- A write of SPN.CTRL; `maps` are the receivers' measurements that TM_REFRESH uses. Assumption log: 114 (DEDUCED). -/
def spnCtrl (ok : Guard → Bool) (who : Who) (v : Word) (maps : List (Nat × List Int × Nat)) (s : SpnSt) (io : Io) : SpnSt × Io :=
  let io1 := io.write ok who Reg.SPN.CTRL v
  if !mayWrite who Reg.SPN.CTRL then (s, io1)
  else
    let t := forceRobust (io.flag Reg.SPN.CTRL 4) (io1.flag Reg.SPN.CTRL 4) s io1
    if bit v 8 && spnEn io1 then tmRefresh maps t.1 t.2 else t

/-! Sending (R379 to R381, R388, R389). -/

/-- The channel-access class of an Atkai message (R379). -/
def meshCa (ty : Nat) (hipri : Bool) : Nat :=
  if hipri then 3 else if ty = 2 ∨ ty = 8 ∨ ty = 5 ∨ ty = 0xB then 2 else if ty = 3 ∨ ty = 4 then 1 else 0

/-- The next hop of mesh node a toward final b. -/
def hopOf (s : SpnSt) (a b : Nat) : Option Nat :=
  let v := Tbl.get s.hops 0 (a * 1024 + b)
  if v = 0 then none else some (v - 1)

/-- The neighbour to which a message for `final` goes: by ROUTE_SET, else straight where it is a neighbour. -/
def nextHop (s : SpnSt) (io : Io) (final : Nat) : Option Nat :=
  match hopOf s (ownMesh io) final with
  | some h => some h
  | none => if (nbrOf s final).st = 1 ∨ (nbrOf s final).st = 2 then some final else none

/-- A message starts toward a neighbour. Assumption log: 113 (DESIGN CHOICE). -/
def startTx (nbr : Nat) (m : MeshMsg) (s : SpnSt) (io : Io) : SpnSt × Io :=
  let n := nbrOf s nbr
  let pbs := List.range (max 1 ((m.bytes.length + 523) / 524))
  let s1 := nbrPut nbr { n with mpdu := (n.mpdu + 1) % 256 } s
  ({ s1 with tx := s1.tx ++ [⟨nbr, n.mpdu, m, pbs, 0, false⟩] },
   (io.count Reg.SPN.TX_FRAME_CNT).drive "MESH_DATA" nbr [n.mpdu, m.final, m.msgNum, pbs.length])

/-- A broadcast message is sent once; nothing answers it. -/
def floodTx (m : MeshMsg) (s : SpnSt) (io : Io) : SpnSt × Io :=
  ({ s with flooded := (m.origin, m.msgNum) :: s.flooded },
   (io.count Reg.SPN.TX_FRAME_CNT).drive "MESH_BCAST" m.origin [m.msgNum, m.hops])

/-- The part's own messages whose path is the mesh are taken over, in the order sent. Assumption log: 115 (DESIGN CHOICE). -/
def spnCollect (s : SpnSt) (io : Io) : SpnSt × Io :=
  let fresh := (io.out.drop s.taken).filter fun m => m.path == 4
  let s0 : SpnSt := { s with taken := io.out.length }
  if !spnEn io then (s0, io)
  else fresh.foldl (fun (t : SpnSt × Io) m =>
    let bc := m.dst == 0xFFFF
    let final := if bc then 0 else ((t.2.node m.dst).map fun e => e.ip % 1024).getD 0
    let x : MeshMsg := ⟨final, 4, bc, ownMesh t.2, t.1.msgNum, 0, 0, m.bytes, m.ty, meshCa m.ty m.hipri⟩
    let s1 : SpnSt := { t.1 with msgNum := (t.1.msgNum + 1) % 256 }
    if bc then floodTx x s1 t.2
    else match nextHop s1 t.2 final with
      | some h => startTx h x s1 t.2
      | none => (s1, t.2.noPath)) (s0, io)

/-- R381: the message is dropped. -/
def meshDrop (x : MeshTx) (s : SpnSt) (io : Io) : SpnSt × Io :=
  ({ s with tx := s.tx.filter fun y => !(y.nbr == x.nbr && y.mpdu == x.mpdu) },
   q13Rec 0xED (if x.msg.ca = 3 then 0xC else 8) x.msg.final (x.msg.ca * 2 ^ 36 + x.msg.ty % 256)
     ((io.count Reg.SPN.DROP_CNT).evt 0x40330000 4))

/-- An attempt has failed for the PBs `left`: repeated, or dropped after RETRY_MAX attempts. -/
def meshRetry (x : MeshTx) (left : List Nat) (s : SpnSt) (io : Io) : SpnSt × Io :=
  if io.fld Reg.SPN.MAC_CFG 31 28 ≤ x.attempts + 1 then meshDrop x s io
  else
    let y : MeshTx := { x with left := left, attempts := x.attempts + 1, retx := true }
    ({ s with tx := s.tx.map fun z => if z.nbr = x.nbr ∧ z.mpdu = x.mpdu then y else z },
     ((io.count Reg.SPN.RETX_CNT).count Reg.SPN.TX_FRAME_CNT).drive "MESH_RETX" x.nbr (x.mpdu :: left))

def findTx (s : SpnSt) (nbr mpdu : Nat) : Option MeshTx := s.tx.find? fun x => x.nbr == nbr && x.mpdu == mpdu

/-- R381, R386: a SACK: a bit for each PB received, and TM_BAD. -/
def meshSack (nbr mpdu got : Nat) (bad : Bool) (s0 : SpnSt) (io0 : Io) : SpnSt × Io :=
  if !spnEn io0 then (s0, io0)
  else
    let c := spnCollect s0 io0
    let h := spnHeard nbr c.1 c.2
    let s := nbrPut nbr { nbrOf h.1 nbr with noSack := 0 } h.1
    let t := if bad then toRobust nbr 0 s h.2 else (s, h.2)
    match findTx t.1 nbr mpdu with
    | some x =>
      let left := x.left.filter fun i => bitsN got i i == 0
      if left.isEmpty then ({ t.1 with tx := t.1.tx.filter fun y => !(y.nbr == nbr && y.mpdu == mpdu) }, t.2)
      else meshRetry x left t.1 t.2
    | none => t

/-- R379, R381, R386: no SACK preamble in time. -/
def sackTimeout (nbr mpdu : Nat) (s0 : SpnSt) (io0 : Io) : SpnSt × Io :=
  if !spnEn io0 then (s0, io0)
  else
    let c := spnCollect s0 io0
    match findTx c.1 nbr mpdu with
    | some x =>
      let n := nbrOf c.1 nbr
      let s := nbrPut nbr { n with noSack := n.noSack + 1 } c.1
      let t := if io0.fld Reg.SPN.MAC_CFG 27 24 ≤ n.noSack + 1 then toRobust nbr 1 s c.2 else (s, c.2)
      meshRetry x (List.range (max 1 ((x.msg.bytes.length + 523) / 524))) t.1 t.2
    | none => c

/-- R375. -/
def ldOvc (io : Io) : Io := (io.count Reg.SPN.LD_OVC_CNT).evt 0x40330000 6

/-! Receiving (R377, R378, R380, R384, R388, R389). -/

/-- What a completed message is for the part: an Atkai message's bytes and the mesh address it came from, or nothing.
Assumption log: 113 (DESIGN CHOICE). -/
def meshDeliver (own : Nat) (m : MeshMsg) (s : SpnSt) (io : Io) : (SpnSt × Io) × Option (List Byte × Nat) :=
  let mine := m.bcast || m.final == own
  let dlv := if mine && m.kind == 0 then some (m.bytes, m.origin) else none
  if m.bcast then
    (if s.relays.contains own && decide (0 < m.hops) && !s.flooded.contains (m.origin, m.msgNum) then
      floodTx { m with hops := m.hops - 1 } s io else (s, io), dlv)
  else if mine then ((s, io), dlv)
  else if m.hops = 0 then ((s, io), none)
  else
    let f := io.fresh
    let ts := if m.kind = 0 ∧ m.ty = 0xB then m.ts + Config.freeNat f.1 else m.ts
    match nextHop s io m.final with
    | some h => (startTx h { m with hops := m.hops - 1, ts := ts } s f.2, none)
    | none => ((s, io), none)

/-- The message that the PBs held make, where all from 0 to the LAST are there. -/
def meshWhole (pbs : List MeshPb) : Option MeshMsg :=
  match pbs.find? fun p => p.last with
  | some l =>
    let get := fun i => pbs.find? fun p => p.idx == i
    let all := (List.range (l.idx + 1)).map get
    if all.all Option.isSome then
      let bs := all.flatMap fun o => (o.map fun p => p.data).getD []
      let p0 := (get 0).getD l
      some ⟨p0.final, p0.hops, p0.bcast, p0.origin, p0.msgNum, p0.kind, p0.ts, bs, u8 bs 1, meshCa (u8 bs 1) (u8 bs 3 % 2 == 1)⟩
    else none
  | none => none

/-- A DATA frame (R377, R380): `drop`: how many dB its decision-error SNR lies below the map's basis (R384). Assumption log: 112 (DESIGN CHOICE). -/
def meshData (fc : MeshFc) (pbs : List MeshPb) (drop : Nat) (s0 : SpnSt) (io0 : Io) :
    (SpnSt × Io) × Option (List Byte × Nat) :=
  if !spnEn io0 then ((s0, io0), none)
  else if !fc.crcOk then ((s0, io0.count Reg.SPN.FC_ERR_CNT), none)
  else if fc.netId != io0.fld Reg.SPN.CFG 23 10 || (!fc.bcast && fc.dst != ownMesh io0) then ((s0, io0), none)
  else
    let c := spnCollect s0 io0
    let h := spnHeard fc.src c.1 (c.2.count Reg.SPN.RX_FRAME_CNT)
    let good := pbs.filter fun p => p.crcOk
    let nbad := pbs.length - good.length
    let bad := decide (0 < nbad) && decide (io0.fld Reg.SPN.MAC_CFG 23 20 < drop)
    let n := nbrOf h.1 fc.src
    let s1 := nbrPut fc.src { n with pbs := n.pbs + pbs.length, bad := n.bad + nbad,
                                     badAt := if bad && !fc.bcast then some io0.now else n.badAt } h.1
    let io1 := h.2.countN Reg.SPN.PB_ERR_CNT nbad
    let key := fc.src * 256 + fc.mpdu % 256
    let held := match Tbl.get s1.rx none key with
      | some r => if fc.retx then r else ⟨[], false⟩
      | none => ⟨[], false⟩
    let all := held.pbs ++ good.filter fun p => !held.pbs.any fun q => q.idx == p.idx
    let io2 := if fc.bcast then io1
      else io1.drive "MESH_SACK" fc.src [fc.mpdu, (all.map fun p => 2 ^ p.idx).foldl (· + ·) 0, b2n bad]
    match meshWhole all with
    | some m =>
      let s2 : SpnSt := { s1 with rx := Tbl.set s1.rx none key (some ⟨all, true⟩) }
      if held.fin then ((s2, io2), none) else meshDeliver (ownMesh io0) m s2 io2
    | none => (({ s1 with rx := Tbl.set s1.rx none key (some ⟨all, false⟩) }, io2), none)

/-! Coordination (R387 to R393). -/

/-- Metrics that a mesh node reports for its links. -/
def metricsIn (a : Nat) (l : List (Nat × Nat)) (s : SpnSt) : SpnSt :=
  { s with metric := l.foldl (fun (t : Tbl Nat) x => Tbl.set t 0 (a * 1024 + x.1) (min x.2 0xFFFF)) s.metric }

/-- The unit's own links as an NBR_REPORT lists them. -/
def ownMetrics (s : SpnSt) (io : Io) : List (Nat × Nat) :=
  (s.nbr.filter fun e => e.2.st != 0).map fun e => (e.1, linkM io e.2)

/-- R387: an NBR_REPORT reaches the unit. -/
def nbrReport (a : Nat) (l : List (Nat × Nat)) (tagOk : Bool) (s : SpnSt) (io : Io) : SpnSt :=
  if spnEn io && tagOk then metricsIn a l s else s

/-- R387: every 2 s. `meas`: PB error rate and mean SNR of each neighbour as the receiver has them. Assumption log: 112 (DESIGN CHOICE). -/
def nbrReportSend (meas : List (Nat × Nat × Nat)) (s : SpnSt) (io : Io) : SpnSt × Io :=
  if !spnEn io || decide (io.now / (2 * sec) < s.repWin) then (s, io)
  else
    let s1 := meas.foldl (fun (t : SpnSt) m => nbrPut m.1 { nbrOf t m.1 with per := m.2.1, snr := m.2.2 } t) s
    let own := ownMetrics s1 io
    let s2 : SpnSt := { metricsIn (ownMesh io) own s1 with repWin := io.now / (2 * sec) + 1 }
    (s2, if isCoord s io then io else io.drive "NBR_REPORT" s.actAddr (own.flatMap fun e => [e.1, e.2]))

/-- The metric of a link, none where nothing reports it or it is LOST. -/
def linkOf (s : SpnSt) (a b : Nat) : Option Nat :=
  let m := Tbl.get s.metric 0 (a * 1024 + b)
  if m = 0 ∨ m = 0xFFFF then none else some m

/-- The mesh addresses the coordinator knows: joined nodes and the units. -/
def meshNodes (s : SpnSt) (io : Io) : List Nat := ((ownMesh io :: s.partner.toList) ++ s.joined.map Prod.fst).eraseDups

/-- The sum of M along a path from a; none where a link is missing or LOST. -/
def pathSum (s : SpnSt) : Nat → MeshPath → Option Nat
  | _, [] => some 0
  | a, b :: r => match linkOf s a b, pathSum s b r with
    | some m, some t => some (m + t)
    | _, _ => none

/-- The cheaper of two paths, the first where they cost the same. Assumption log: 109 (DESIGN CHOICE). -/
def cheaper : Option (Nat × MeshPath) → Option (Nat × MeshPath) → Option (Nat × MeshPath)
  | some x, some y => if y.1 < x.1 then some y else some x
  | some x, none => some x
  | none, y => y

/-- The cheapest paths to b in at most k hops from every node of `ns`. Assumption log: 109 (DESIGN CHOICE). -/
def cheapest (s : SpnSt) (ns : List Nat) (b : Nat) : Nat → Tbl (Option (Nat × MeshPath))
  | 0 => []
  | k + 1 =>
    let t := cheapest s ns b k
    ns.foldl (fun (u : Tbl (Option (Nat × MeshPath))) a =>
      let direct := (linkOf s a b).map fun m => (m, [b])
      let best := ns.foldl (fun (x : Option (Nat × MeshPath)) c =>
        match linkOf s a c, Tbl.get t none c with
        | some m, some p => if c = a ∨ c = b ∨ p.2.contains a then x else cheaper x (some (m + p.1, c :: p.2))
        | _, _ => x) direct
      if a = b then u else Tbl.set u none a best) []

/-- The ends of the path of a node in a direction: from the unit, or to it. -/
def pathEnds (unit node dir : Nat) : Nat × Nat := if dir = 0 then (unit, node) else (node, unit)

/-- R387 for one path: replaced where it is LOST or the new sum is below the old by HYST_PCT. Assumption log: 109 (DESIGN CHOICE). -/
def routeOne (io : Io) (ns : List Nat) (un unit node dir : Nat) (s : SpnSt) : SpnSt × Bool :=
  let e := pathEnds unit node dir
  let key := (un * 2 + dir) * 1024 + node
  let old := Tbl.get s.paths [] key
  match Tbl.get (cheapest s ns e.2 4) none e.1 with
  | none => (s, false)
  | some (m, p) =>
    let take := match old, pathSum s e.1 old with
      | [], _ => true
      | _, none => true
      | _, some o => decide (m * 100 < o * (100 - io.fld Reg.SPN.MAC_CFG 15 8))
    if take && p != old then ({ s with paths := Tbl.set s.paths [] key p }, true) else (s, false)

/-- The next hops that a path gives its nodes toward its end. -/
def pathHops (a : Nat) (p : MeshPath) (s : SpnSt) : SpnSt :=
  let final := p.getLast?.getD a
  ((a :: p).zip p).foldl (fun (t : SpnSt) x => { t with hops := Tbl.set t.hops 0 (x.1 * 1024 + final) (x.2 + 1) }) s

/-- R387: the routing pass at a whole second divisible by 2. Nodes on a path between its ends are relays. -/
def meshRoutePass (s : SpnSt) (io : Io) : SpnSt × Io :=
  if !isCoord s io || decide (io.now / (2 * sec) < s.passWin) then (s, io)
  else
    let s0 : SpnSt := { metricsIn (ownMesh io) (ownMetrics s io) s with passWin := io.now / (2 * sec) + 1 }
    let ns := meshNodes s0 io
    let own := ownMesh io
    let uIdx := b2n io.unitB
    let units := (uIdx, own) :: s0.partner.toList.map fun p => (1 - uIdx, p)
    let jobs := units.flatMap fun u => (s0.joined.map Prod.fst).flatMap fun n => [(u, n, 0), (u, n, 1)]
    let r := jobs.foldl (fun (t : (SpnSt × Io) × List Nat) j =>
      let s1 := t.1.1
      let x := routeOne io ns j.1.1 j.1.2 j.2.1 j.2.2 s1
      let e := pathEnds j.1.2 j.2.1 j.2.2
      let p := Tbl.get x.1.paths [] ((j.1.1 * 2 + j.2.2) * 1024 + j.2.1)
      if x.2 then
        let s2 := pathHops e.1 p x.1
        let sum := (pathSum s2 e.1 p).getD 0xFFFF
        let io2 := q13Rec 0xEC 8 e.2 (p.length * 2 ^ 32 + min sum 0xFFFF * 2 ^ 16 + p.headD 0)
          ((t.1.2.count Reg.SPN.ROUTE_CHG_CNT).evt 0x40330000 3)
        ((s2, io2), t.2 ++ (e.1 :: p).dropLast)
      else ((x.1, t.1.2), t.2)) ((s0, io), [])
    let rel := (r.1.1.paths.flatMap fun e => e.2.dropLast).eraseDups
    let io3 := r.2.eraseDups.foldl (fun (i : Io) n => i.drive "ROUTE_SET" n
      ((r.1.1.hops.filter fun e => e.1 / 1024 == n).flatMap fun e => [e.1 % 1024, e.2 - 1])) r.1.2
    ({ r.1.1 with relays := rel }, io3.setFlag Reg.SPN.STAT 3 true)

/-- A mesh node takes next hops, pairs of final destination and next hop, from a ROUTE_SET, and whether it relays. -/
def routeSet (node : Nat) (hops : List (Nat × Nat)) (relay tagOk : Bool) (s : SpnSt) : SpnSt :=
  if tagOk then
    { s with
      hops := hops.foldl (fun (t : Tbl Nat) h => Tbl.set t 0 (node * 1024 + h.1) (h.2 + 1)) s.hops,
      relays := if relay then (if s.relays.contains node then s.relays else node :: s.relays) else s.relays.filter fun r => r != node }
  else s

/-- R390: a node asks to join with its mesh address and Atkai node ID. -/
def joinReq (addr id : Nat) (tagOk : Bool) (s : SpnSt) (io : Io) : SpnSt × Io :=
  if !(isCoord s io && tagOk) then (s, io)
  else
    let ok := match io.node id with
      | some e => e.path == 4 && e.ip % 1024 == addr
      | none => false
    let io1 := q13Rec 0xEE 4 addr (b2n ok * 2 ^ 37 + id % 65536) ((io.evt 0x40330000 5).drive "JOIN_ACK" addr [b2n ok])
    (if ok then { s with joined := Tbl.set s.joined 0 addr id } else s, io1)

/-- STAT.SYNC takes a value; SYNC_LOST where it goes to 0. -/
def setSync (b : Bool) (io : Io) : Io :=
  if io.flag Reg.SPN.STAT 2 && !b then (io.setFlag Reg.SPN.STAT 2 false).evt 0x40330000 7 else io.setFlag Reg.SPN.STAT 2 b

/-- R392: the coordinator sends a beacon at a BCN_MS boundary. Assumption log: 112 (DESIGN CHOICE). -/
def beaconSend (s : SpnSt) (io : Io) : SpnSt × Io :=
  let p := max 1 (io.fld Reg.SPN.CFG 31 24) * ms
  if !isCoord s io || decide (io.now / p < s.bcnWin) then (s, io)
  else
    ({ s with bcnWin := io.now / p + 1, beacons := s.beacons + 1, actAddr := ownMesh io },
     (setSync true (io.setFlag Reg.SPN.STAT 1 true)).drive "BEACON" (io.fld Reg.SPN.CFG 23 10)
       [ownMesh io, s.partner.getD 0, io.ownId, s.beacons])

/-- R393: a beacon from another coordinator: its NET_ID, the ACTIVE unit's mesh address and the other unit's. -/
def beaconHeard (netId act other : Nat) (tagOk : Bool) (s : SpnSt) (io : Io) : SpnSt × Io :=
  if !(spnEn io && tagOk && netId == io.fld Reg.SPN.CFG 23 10) then (s, io)
  else
    let s1 : SpnSt := { s with actAddr := act, partner := some (if act = ownMesh io then other else act) }
    if io.flag Reg.SPN.STAT 1 then
      ({ s1 with conflict := true }, (setSync true (io.setFlag Reg.SPN.STAT 1 false)).evt 0x40330000 8)
    else (s1, setSync true io)

/-- A unit that sends no beacons stops hearing the coordinator's. -/
def meshSyncLost (io : Io) : Io := if io.flag Reg.SPN.STAT 1 then io else setSync false io

/-- A unit that is no longer coordinator sends no beacons. -/
def coordSync (s : SpnSt) (io : Io) : Io :=
  if io.flag Reg.SPN.STAT 1 && !isCoord s io then io.setFlag Reg.SPN.STAT 1 false else io

/-! Windows. -/

/-- A write of NBR_SEL latches a neighbour. -/
def nbrSel (ok : Guard → Bool) (who : Who) (v : Word) (s : SpnSt) (io : Io) : Io :=
  let io1 := io.write ok who Reg.SPN.NBR_SEL v
  if !mayWrite who Reg.SPN.NBR_SEL then io1
  else
    let n := nbrOf s (bits v 9 0)
    let tm := fun (f : ToneMap → Nat) (o : Option ToneMap) => (o.map f).getD 0
    let txOn := if n.st = 2 then n.tx else none
    let w0 := n.st * 2 ^ 30 + tm ToneMap.tmi txOn * 2 ^ 26 + tm ToneMap.tmi n.rx * 2 ^ 22 + tm ToneMap.rate txOn * 2 ^ 20
      + if n.st = 0 then 0 else linkM io n
    let w1 := tm ToneMap.bits txOn % 2 ^ 14 * 2 ^ 16 + tm ToneMap.bits n.rx % 2 ^ 14
    let w3 := if n.heard = 0 then 0 else satU 32 ((io.now - n.heardAt) / sec)
    ([w0, w1, n.per % 65536 * 65536 + n.snr % 65536, w3].zip (List.range 4)).foldl
      (fun (i : Io) x => i.setReg (Reg.SPN.NBR_WIN x.2) (w32 x.1)) io1

/-- A write of RT_SEL latches the path between a unit and a node. Assumption log: 111 (DEDUCED). -/
def rtSel (ok : Guard → Bool) (who : Who) (v : Word) (s : SpnSt) (io : Io) : Io :=
  let io1 := io.write ok who Reg.SPN.RT_SEL v
  if !mayWrite who Reg.SPN.RT_SEL then io1
  else
    let un := bits v 10 10
    let node := bits v 9 0
    let p := Tbl.get s.paths [] (un * 2 * 1024 + node)
    let unit := if un = b2n io.unitB then ownMesh io else s.partner.getD 0
    let rep := fun i => if i + 1 < p.length then (p[i]?).getD 0x3FF else 0x3FF
    let w0 := if p = [] then 0x3FF else p.length * 2 ^ 29 + p.headD 0 * 2 ^ 16 + min 0xFFFF ((pathSum s unit p).getD 0xFFFF)
    ([w0, rep 0 * 65536 + rep 1, rep 2 * 65536 + rep 3].zip (List.range 3)).foldl
      (fun (i : Io) x => i.setReg (Reg.SPN.RT_WIN x.2) (w32 x.1)) io1

/-- SPN.STAT. -/
def spnView (s : SpnSt) (io : Io) (k : Nat) : Option Word :=
  if k = Reg.SPN.STAT then some (setBits (io.reg k) 25 16 (min s.joined.length 1023)) else none

/-- After a reset: nothing of the mesh is known; messages sent before it stay sent. Field nodes keep their next hops. -/
def spnReset (s : SpnSt) (io : Io) : SpnSt :=
  { SpnSt.init with taken := io.out.length, hops := s.hops.filter fun e => e.1 / 1024 != ownMesh io }

end Sys2Proof.Machine
end

