-- ==== Sys2Proof/Machine/State.lean ====
section
/-! DEFINITION. Sys2Proof/Machine/State.lean: the state of the block, plain data, and its value right after power-on reset. -/
namespace Sys2Proof.Machine

/-- Reasons to stop with a fault. The spec gives the block none: an error of an access, a memory or an engine is recorded in an
error log, an event or a queue, and the block goes on. -/
inductive Fault where
  deriving DecidableEq, Repr

/-- Reasons to refuse a command. -/
inductive Refusal where
  /-- Raised by `exec` alone, for a row whose meaning is not written. Safe: the model stops. -/
  | notModelled (mnemonic : String)
  deriving DecidableEq, Repr

/-- The TRM-7256 and the field equipment it talks to. `io`: clock, registers, error logs, queues, messages, keys; `mem`: the
memories of chapters 14 and 16; `net`: networks and field nodes' time; then one component per engine; `pow`: the
power-and-analog die's load switches and regulators; `boot`: boot, resets and supplies; `pending`: the commands that wait, first
in, first out.
Assumption log: `pending` 1 (DESIGN CHOICE). -/
structure State where
  io : Io
  mem : MemSt
  net : NetSt
  alloc : AllocSt
  lease : LeaseSt
  ctle : CtleSt
  thrm : ThrmSt
  pnt : PntSt
  sess : SessSt
  spn : SpnSt
  mtr : MtrSt
  hlm : HlmSt
  gnt : GntSt
  mir : MirSt
  pow : PowSt
  boot : BootSt
  pending : List Instr
  deriving DecidableEq, Repr

/-- Right after power-on reset: every register at its Reset column, every memory, queue and table empty, no command waiting. -/
def State.reset : State :=
  { io := Io.init, mem := MemSt.init, net := NetSt.init, alloc := AllocSt.init, lease := LeaseSt.init, ctle := CtleSt.init,
    thrm := ThrmSt.init, pnt := PntSt.init, sess := SessSt.init, spn := SpnSt.init, mtr := MtrSt.init, hlm := HlmSt.init,
    gnt := GntSt.init, mir := MirSt.init, pow := PowSt.init, boot := BootSt.init, pending := [] }

end Sys2Proof.Machine
end

