-- ==== Sys2Proof/Machine/Ops.lean ====
section
/-! DEFINITION. Sys2Proof/Machine/Ops.lean: the engines' operations on the whole state, which parts of the block run, the conditions
on writes (R12), and what the registers show. -/
namespace Sys2Proof.Machine

/-- The outcome of a command. -/
abbrev Out := Host.Outcome State Fault Refusal

namespace State

def onIo (f : Io → Io) (s : State) : State := { s with io := f s.io }
def onNet (f : NetSt → Io → NetSt × Io) (s : State) : State := let r := f s.net s.io; { s with net := r.1, io := r.2 }
def onMem (f : MemSt → Io → MemSt × Io) (s : State) : State := let r := f s.mem s.io; { s with mem := r.1, io := r.2 }
def onAlloc (f : AllocSt → Io → AllocSt × Io) (s : State) : State := let r := f s.alloc s.io; { s with alloc := r.1, io := r.2 }
def onLease (f : LeaseSt → Io → LeaseSt × Io) (s : State) : State := let r := f s.lease s.io; { s with lease := r.1, io := r.2 }
def onCtle (f : CtleSt → Io → CtleSt × Io) (s : State) : State := let r := f s.ctle s.io; { s with ctle := r.1, io := r.2 }
def onThrm (f : ThrmSt → Io → ThrmSt × Io) (s : State) : State := let r := f s.thrm s.io; { s with thrm := r.1, io := r.2 }
def onPnt (f : PntSt → Io → PntSt × Io) (s : State) : State := let r := f s.pnt s.io; { s with pnt := r.1, io := r.2 }
def onSess (f : SessSt × Io → SessSt × Io) (s : State) : State := let r := f (s.sess, s.io); { s with sess := r.1, io := r.2 }
def onSpn (f : SpnSt → Io → SpnSt × Io) (s : State) : State := let r := f s.spn s.io; { s with spn := r.1, io := r.2 }
def onMtr (f : MtrSt × Io → MtrSt × Io) (s : State) : State := let r := f (s.mtr, s.io); { s with mtr := r.1, io := r.2 }
def onHlm (f : HlmSt × Io → HlmSt × Io) (s : State) : State := let r := f (s.hlm, s.io); { s with hlm := r.1, io := r.2 }
def onGnt (f : GntSt × Io → GntSt × Io) (s : State) : State := let r := f (s.gnt, s.io); { s with gnt := r.1, io := r.2 }
def onMir (f : MirSt × Io → MirSt × Io) (s : State) : State := let r := f (s.mir, s.io); { s with mir := r.1, io := r.2 }
def onPow (f : PowSt → Io → PowSt × Io) (s : State) : State := let r := f s.pow s.io; { s with pow := r.1, io := r.2 }

/-- Site time, ns. -/
def now (s : State) : Nat := s.io.clk.now

/-- PD1 to PD8 run: neither held in reset (R660, R678) nor powered off in the quiet state (R661). Assumption log: 3 (DESIGN CHOICE). -/
def live (s : State) : Bool := !s.boot.held && !s.boot.quiet

/-- PD2, Sepia, runs: also in the quiet state. Assumption log: 3 (DESIGN CHOICE). -/
def sepia (s : State) : Bool := !s.boot.held

/-- The unit is ACTIVE (or has no partner) and its engines run. -/
def acting (s : State) : Bool := s.live && s.io.active

/-- The site runs (R26, R27): it has made its first commit, or follows the commits of its partner. -/
def running (s : State) : Bool := s.boot.committed || decide (s.alloc.lastTick ≠ 0)

/-- Load-switch channels take duties that have just been delivered (R603). -/
def settle (s : State) : State := { s with pow := lswSettle s.acting s.io s.pow }

/-- The model's dispensers whose coils lose their supply open their contactors, and those of closed pairs may stay. -/
def coil (s : State) (p : Nat) : Bool := bitsN s.gnt.die p p == 1 || partnerCoil s.mir s.io p

/-- The bank of a register key. -/
def bankOf (k : Nat) : Nat := k / 0x10000000000 - 1

/-- Whether the condition on a write of the register under key `k` holds (R12). -/
def guardAt (s : State) (k : Nat) (g : Guard) : Bool :=
  let b := bankOf k
  let a := k % 0x10000000000
  match g with
  | .free => true
  | .slotOff => !slotEn s.io b
  | .genOff => !genEn s.io b
  | .circOff => !s.io.flag (Reg.THRM.CCTL b) 31
  | .sessIdle => (sesOf s.sess b).st == .idle
  | .canOff => !s.io.flag (Reg.CAN.CTRL (a / 0x1000 % 16)) 0
  | .txFree => !(canTx (canOf s.net (a / 0x1000 % 16)) b).ready
  | .spnOff => !s.io.flag Reg.SPN.CTRL 0
  | .mtrMbx | .hlmMbx => true
  | .sealed => !s.gnt.sealed
  | .cal => false
  | .lswOff => (chanOf s.pow ((a - 0x40800100) / 0x40)).st == .off
  | .cotOff => !s.io.flag (rg ((a - 0x40810100) / 0x80) 0) 31

/-- The error log's registers (chapter 14). -/
def logView (l : ErrLog) (o : Nat) : Option Word :=
  match o with
  | 0x90 => some (w32 l.stat)
  | 0x94 | 0x98 | 0x9C | 0xA0 => some (match l.recs with
    | e :: _ => w32 (e.word ((o - 0x94) / 4))
    | [] => 0)
  | 0xAC => some l.ceCnt
  | 0xB0 => some l.ovfCnt
  | 0xB4 => some l.escCnt
  | _ => none

/-- The registers of a queue (chapter 14). -/
def queView (io : Io) (o : Nat) : Option Word :=
  if 0x100 ≤ o ∧ o < 0x500 then
    let q := io.queue ((o - 0x100) / 0x40)
    match (o - 0x100) % 0x40 with
    | 0x08 => some (w32 q.room)
    | 0x1C => some (w32 q.stat)
    | 0x24 => some (w32 q.flags)
    | 0x2C => some q.ovrCnt
    | 0x30 => some q.poisonCnt
    | _ => none
  else none

/-- What SYS and AON show. -/
def sysView (s : State) (o : Nat) : Option Word :=
  match o with
  | 0x08 => some (w32 s.now)
  | 0x0C => some (w32 (s.now / 2 ^ 32))
  | _ => none

/-- The RTC: periods of 32.768 kHz. -/
def rtcCount (s : State) : Nat := s.boot.rtc * 32768 / 1000000000 % 2 ^ 48

def aonView (s : State) (o : Nat) : Option Word :=
  match o with
  | 0 => some (w32 s.rtcCount)
  | 4 => some (w32 (s.rtcCount / 2 ^ 32))
  | _ => none

/-- LEASE.LID, and LEASE.STAT with the fields that follow other state. -/
def leaseView (s : State) (o : Nat) : Option Word :=
  if o = 0x28 then some (w32 (b2n s.io.unitB * 2 ^ 31 + s.lease.count % 2 ^ 31))
  else if o = 8 then some (setBits (setBits (s.io.reg Reg.LEASE.STAT) 26 16 (liveNum s.lease s.now)) 1 1 (s.io.fld Reg.SYS.TICK_STAT 29 29))
  else none

/-- What the register under key `k` shows beside what is written to it; none where it shows just that. -/
def view (s : State) (k : Nat) : Option Word :=
  match blockAt k with
  | none => none
  | some (b, n, o) =>
    match (if 0x90 ≤ o ∧ o < 0xC0 then logView (Tbl.get s.io.logs ErrLog.init (b.logKey n)) o else none) with
    | some w => some w
    | none =>
      match b with
      | .sys => s.sysView o
      | .aon => s.aonView o
      | .que => queView s.io o
      | .alloc => allocView s.alloc k
      | .lease => s.leaseView o
      | .ctle => ctleView s.io.active s.ctle s.io k
      | .thrm => thrmView s.io.active s.thrm s.io k
      | .pnt => pntView s.pnt s.io k
      | .sess | .xcr => sessView s.sess s.io k
      | .can => canView s.net s.io k
      | .spn => spnView s.spn s.io k
      | .host => ringView s.io k
      | .mtr => mtrView s.mtr s.io k
      | .hlm => hlmView s.hlm s.io k
      | .gnt => gntView s.gnt s.io k
      | .mir => if o = 8 then some (setBits (s.io.reg k) 28 28 (b2n s.io.unitB)) else none
      | .lsw => lswView s.acting s.pow s.io k
      | .cot => cotView s.pow s.io k
      | .spm => spmView s.io k o
      | .cfg | .drc | .fab | .t1s => none

end State

/-- A command that PD1 to PD8 carry out: nothing happens while they do not run. Assumption log: 3 (DESIGN CHOICE). -/
def onLogic (f : State → State) (s : State) : Out := .next (if s.live then f s else s)

/-- A command that Sepia carries out. Assumption log: 3 (DESIGN CHOICE). -/
def onSepia (f : State → State) (s : State) : Out := .next (if s.sepia then f s else s)

/-- A command of the power-and-analog die, of PD0 or of field equipment. Assumption log: 3 (DESIGN CHOICE). -/
def onDie (f : State → State) (s : State) : Out := .next (f s)

end Sys2Proof.Machine
end

