-- ==== Sys2Proof/Machine/Inputs.lean ====
section
/-! DEFINITION. Sys2Proof/Machine/Inputs.lean: what each consumer reads of the other blocks (R39, R40, R45, R130, R288). -/
namespace Sys2Proof.Machine
namespace State

/-- R26: the tick in progress. -/
def tickNum (s : State) : Nat := s.now / tickNs

/-- R45, R281: a dispenser's voltage, mV. -/
def volts (s : State) (d : Nat) : Nat := max (headIn s.sess d).vCable 50000

/-- R45: a current in mA as power, W. -/
def watts (v : Nat) (mA : Int) : Int := tdiv (mA * v) 1000000

/-- R130: a slot's measurement, other than none and another slot's output. Assumption log: 49 (DESIGN CHOICE). -/
def measure (s : State) (w : Word) : Meas :=
  let h := headIn s.sess (bits w 7 0)
  let head := fun v : Int => (⟨v, some h.meas, !h.seen⟩ : Meas)
  match bits w 31 28 with
  | 1 => head h.iOut
  | 2 => head h.p
  | 3 => head h.vCable
  | 4 => let c := Tbl.get s.alloc.cab CabIn.init (bits w 9 0); ⟨c.iMa, some c.measAt, !c.seen⟩
  | 5 => let r := ptOf s.pnt (bits w 24 0); ⟨r.value, some r.time, r.stale || !r.defined⟩
  | 6 =>
    let o := bits w 9 9 * 256 + bits w 7 0
    ⟨(obsOf s.thrm o).hot, some (s.io.pair Reg.THRM.PUB_TIME_LO), !obsEn s.io o⟩
  | 7 => ⟨Config.meterCopy s.mtr.sampleAt (bits w 5 0), some s.mtr.sampleAt, false⟩
  | 8 => ⟨Tbl.get s.alloc.ps 0 (bits w 5 0), some ((s.alloc.lastTick - 1) * tickNs), s.alloc.lastTick == 0⟩
  | _ => ⟨0, none, true⟩

/-- R196: what a point offers to an observer. -/
def point (s : State) (i : Nat) : Option PtIn :=
  let r := ptOf s.pnt i
  if r.defined then some ⟨r.value, r.time, r.stale, stHard r.status || r.lost⟩ else none

/-- R39, R191: a dispenser's current as the observers take it. -/
def current (s : State) (d : Nat) : CurIn :=
  let h := headIn s.sess d
  let b := allowedAt s.lease d s.now
  ⟨h.iOut.natAbs, headFresh s.sess s.io d, max (-b.1) b.2⟩

/-- R39, R40, R45, R93: what tick `n` takes of dispenser `d`. -/
def dispIn (n : Nat) (s : State) (d : Nat) : DispIn :=
  let t := n * tickNs
  let v := s.volts d
  let pd := Tbl.get s.alloc.pd 0 d
  let last := (Tbl.get s.sess.pub none d).getD ⟨0, 0, 0, false, 0, 0⟩
  let age := t - last.at_
  let has := (Tbl.get s.sess.pub none d).isSome
  let fresh := has && decide (age ≤ ms)
  let ceil := min (watts v last.ma) last.w
  let b : Int × Int := if fresh then (ceil, last.lo)
    else if has && decide (age ≤ 20 * ms) then (max 0 (min pd ceil), min 0 (max last.lo pd))
    else (0, 0)
  let c1 := allocCredit s.thrm s.io t d
  let c2 := allocCredit s.thrm s.io t (256 + d)
  let loops := (loopSlots s.io d).map fun k => (loopBound s.ctle s.io v k).1
  ⟨last.sess, last.start, minI loops (min (min b.1 (min (watts v c1.1) (watts v c2.1))) (dispMax s.alloc.model d)),
   max b.2 (dispMin s.alloc.model d), !fresh, c1.2 || c2.2, loopStale s.ctle s.io d, v,
   some (min (last.ma.natAbs : Int) (min c1.1 c2.1))⟩

def dispIns (n : Nat) (s : State) : Tbl DispIn :=
  (idx (nDisp s.alloc.model)).foldl (fun t d => Tbl.set t DispIn.init d (s.dispIn n d)) []

/-- R39: what tick `n` takes of a source. -/
def srcIns (n : Nat) (s : State) : Tbl SrcIn :=
  (idx (nSrc s.alloc.model)).foldl (fun t k =>
    let x := srcLimits s.pnt s.io (n * tickNs) k
    Tbl.set t SrcIn.init k ⟨x.1, x.2.1, x.2.2⟩) []

/-- R288: what the newest grant of a dispenser allows. -/
def grantView (s : State) (d : Nat) : GrantView :=
  let e := (chainOf s.lease d).hist.head?
  let cap := max (dispMax s.alloc.model d) 0 * 1000000 / (s.volts d : Int)
  ⟨e.elim 0 LEntry.i, e.elim 0 LEntry.p, cap.toNat⟩

/-- R515, R558: the feedback conditions of a pair apply. -/
def fb (s : State) (p : Nat) : Bool := fbApplies s.mir s.io p

end State
end Sys2Proof.Machine
end

