-- ==== Sys2Proof/Machine/Pair.lean ====
section
/-! DEFINITION. Sys2Proof/Machine/Pair.lean: what the mirror link carries (R550), what a unit does when it takes over, gives up
or makes its first commit (R543 to R552, R646). -/
namespace Sys2Proof.Machine

/-- The registers of the generators' windows, which R180 mirrors. -/
def genKey (k : Nat) : Bool :=
  decide (0x10000000000 ≤ k) && decide (0x40120200 ≤ k % 0x10000000000) && decide (k % 0x10000000000 < 0x40120230)

namespace State

/-- R550, R551: the committed state that a TICK frame carries. -/
def mirBody (s : State) : MirBody :=
  ⟨s.alloc, s.lease.chain, s.lease.count, leaseEpoch s.io, s.ctle.slot, s.ctle.gen, Tbl.keep s.io.regs fun k _ => genKey k,
   s.thrm.obs, s.thrm.circ, s.io.pair Reg.THRM.PUB_TIME_LO, s.sess.disp.map fun e => (e.1, (e.2.tcp, e.2.slow))⟩

/-- The first commit of the site since the start (R27, R479, R502, R646, R657). -/
def firstCommit (s : State) : State :=
  if s.boot.committed then s
  else
    let io1 := (idx 4).foldl (fun io i => io.setReg (Reg.AON.BOOT_BAD i) 0)
      ((s.io.setReg Reg.AON.BOOT_TRY 0).setFld Reg.SYS.BOOT_STAT 31 28 4)
    let s1 := { s with io := io1, boot := { s.boot with committed := true } }
    (s1.onHlm svnCommit).onGnt (gntSeal s.fb)

/-- R180: what a TICK frame gives a slot: OUT, I, dstate and pv_prev, with the time of that output. -/
def mirSlot (own : Slot) (x : Slot) : Slot :=
  { own with out := x.out, i := x.i, dstate := x.dstate, pvPrev := x.pvPrev, lastT := x.lastT, done := x.done }

/-- R552: the contents of a TICK frame are applied, in one step. Assumption log: 23 (DESIGN CHOICE), 203 (DEDUCED). -/
def applyBody (tick : Nat) (b : MirBody) (s : State) : State :=
  let a : AllocSt := { s.alloc with
    pd := b.alloc.pd, pc := b.alloc.pc, ps := b.alloc.ps, pi := b.alloc.pi, flow := b.alloc.flow, hi := b.alloc.hi,
    lo := b.alloc.lo, shed := b.alloc.shed, route := b.alloc.route, unserved := b.alloc.unserved, idle := b.alloc.idle,
    routeId := b.alloc.routeId, routePtr := b.alloc.routePtr, lastTick := b.alloc.lastTick, lastPass := b.alloc.lastPass }
  let c : CtleSt := { s.ctle with
    slot := b.slot.foldl (fun t e => Tbl.upd t Slot.init e.1 fun x => mirSlot x e.2) s.ctle.slot, gen := b.gen }
  let sess : SessSt := { s.sess with
    disp := b.tcp.foldl (fun t e => Tbl.upd t Sess.init e.1 fun x => { x with tcp := e.2.1, slow := e.2.2 }) s.sess.disp }
  let regs0 := Tbl.keep s.io.regs fun k _ => !genKey k
  let io1 : Io := { s.io with regs := b.genRegs.foldl (fun t e => Tbl.set t (regReset e.1) e.1 e.2) regs0 }
  let io2 := (((io1.setFld Reg.LEASE.EPOCH 16 0 (2 ^ 16 + b.epoch)).setPair Reg.THRM.PUB_TIME_LO b.pub).setReg
    Reg.MIR.LAST_TICK (w32 tick))
  firstCommit { s with alloc := a, lease := { s.lease with chain := b.chain }, ctle := c, sess := sess,
                       thrm := { s.thrm with obs := b.obs, circ := b.circ }, io := io2 }

/-- R552: at a tick start, the frame that waits. -/
def applyPend (s : State) : State :=
  match s.mir.pend with
  | some (t, b) => applyBody t b { s with mir := { s.mir with pend := none } }
  | none => s

/-- R545, R124: the blocks of a STANDBY unit resume from the mirrored state. Assumption log: 203 (DEDUCED). -/
def takeover (s : State) : State :=
  let e := (leaseEpoch s.io + 1) % 65536
  let io1 := ((s.io.setFld Reg.LEASE.EPOCH 16 0 (2 ^ 16 + e)).setFlag Reg.LEASE.STAT 4 false).setFlag Reg.LEASE.STAT 2 false
  let s1 := { s with
    io := io1,
    lease := { s.lease with fresh := true, epochSet := true, holdArm := false, holdUntil := none },
    ctle := { s.ctle with lastFrame := s.now / 50000 + 1, lastTick := s.tickNum + 1 },
    thrm := { s.thrm with lastStep := s.now / ms + 1 } }
  ((s1.onMir (roleGo 3 s.mir.pCause)).onSess sessTakeover).onMtr mtrTakeover

/-- R543: a unit that was not STANDBY starts the site as after a reset (R120, R78, R199, R312). Assumption log: 203 (DEDUCED). -/
def coldStart (s : State) : State :=
  let s1 := { s with
    alloc := { AllocSt.init with model := s.alloc.model, modelP := s.alloc.modelP, swapAt := s.alloc.swapAt, cab := s.alloc.cab },
    lease := { s.lease with fresh := true, epochSet := false, holdArm := false, holdUntil := none },
    thrm := { s.thrm with obs := Tbl.mapVals s.thrm.obs Obs.init fun _ x => { x with started := false } },
    sess := { sessReset s.sess with xcr := s.sess.xcr },
    io := s.io.setFlag Reg.LEASE.STAT 4 false }
  s1.onMir (roleGo 3 0)

/-- R544: the claim is decided. The tick in progress is not the new unit's. -/
def claim (s : State) : State :=
  let r := claimSample (s.mir, s.io)
  let s1 := { s with mir := r.1.1, io := r.1.2 }
  if r.2.1 then
    let s2 := { s1 with boot := { s1.boot with tick := s1.tickNum + 1 } }
    settle (if r.2.2 then takeover s2 else coldStart s2)
  else s1

/-- R548. -/
def giveUpFor (cause : Nat) (s : State) : State := settle (s.onMir (giveUp cause))

/-- R547: the first of causes 0x01 to 0x05 that holds, 0 where none does. -/
def giveUpCause (s : State) : Nat :=
  if s.io.flag Reg.SYS.TICK_STAT 29 then 1
  else if s.hlm.keysLost then 2
  else if s.gnt.halted then 3
  else if s.io.flag Reg.LEASE.STAT 4 then 4
  else if s.net.fabDownAt.elim false fun t => decide (t + 2 * ms ≤ s.now) then 5
  else 0

/-- R543: STANDBY is lost when the frames of an ACTIVE partner can no longer arrive. Assumption log: 23 (DESIGN CHOICE). -/
def standbyFrames (s : State) : State :=
  if mirState s.io == 2 && s.mir.claim.isNone && !lanesUp s.io && partnerLow s.io && hbOk s.io then s.onMir syncLost else s

/-- R455, R456: a LEDGER frame. -/
def ledgerFrame (h : MirHdr) (x : LedgerDelta) (s : State) : State :=
  let r := mirFrame h (s.mir, s.io)
  let s1 := { s with mir := r.1.1, io := r.1.2 }
  if r.2 then
    let s2 := s1.onMtr (ledgerDelta x)
    let s3 := if s1.mtr.sync && !s2.mtr.sync then s2.onMir (mirSend 5 0) else s2
    s3.onMir (standbyReady s3.mtr.sync)
  else s1

/-- R550: a session checkpoint; the transport counters come with the ticks. -/
def checkpoint (h : MirHdr) (d : Nat) (x : Sess) (s : State) : State :=
  let r := mirFrame h (s.mir, s.io)
  let s1 := { s with mir := r.1.1, io := r.1.2 }
  if r.2 && (mirState s1.io == 1 || mirState s1.io == 2) && s1.mir.claim.isNone then
    { s1 with sess := { s1.sess with disp := Tbl.upd s1.sess.disp Sess.init d fun y => { x with tcp := y.tcp, slow := y.slow } } }
  else s1

/-- R543, R456: a full image; on a unit in STANDBY it is the ledger that was asked for. -/
def imageFrame (h : MirHdr) (g : MirImage) (s : State) : State :=
  let r := mirFrame h (s.mir, s.io)
  let s1 := { s with mir := r.1.1, io := r.1.2 }
  if !r.2 || s1.mir.claim.isSome then s1
  else if mirState s1.io = 1 then
    let s2 := { s1 with sess := { s1.sess with disp := g.sess } }
    (((applyBody h.tick g.body s2).onMtr (ledgerImage g.ledger g.chs g.tids)).onMir (imageDone h.tick))
  else if mirState s1.io = 2 then s1.onMtr (ledgerImage g.ledger g.chs g.tids)
  else s1

/-- R552: a TICK frame. -/
def tickIn (h : MirHdr) (b : Option MirBody) (s : State) : State :=
  s.onMir (tickFrame h b s.tickNum s.mtr.sync)

/-- R478, R542: the configuration measurement. -/
def confMeas (s : State) : List Byte := (idx 8).flatMap fun i => le 4 (s.io.reg (Reg.HLM.MEAS (16 + i))).toNat

/-- R542: a HELLO frame. Assumption log: 159 (DEDUCED). -/
def helloIn (h : MirHdr) (p : Hello) (s : State) : State :=
  s.onMir (helloFrame h p s.confMeas (mVer s.alloc.model) s.mtr.sync)

end State
end Sys2Proof.Machine
end

