-- ==== Sys2Proof/Machine/Tick.lean ====
section
/-! DEFINITION. Sys2Proof/Machine/Tick.lean: the allocation tick (R31 to R38) and its abandonment. -/
namespace Sys2Proof.Machine
namespace State

/-- R35: after eight abandoned ticks in a row. -/
def suspend (s : State) : State :=
  if s.live && s.io.active && decide (8 ≤ s.io.fld Reg.SYS.TICK_STAT 23 16) && !s.io.flag Reg.SYS.TICK_STAT 29 then
    giveUpFor 1 (s.onIo fun io => (io.setFlag Reg.SYS.TICK_STAT 29 true).evt 0x40000000 5)
  else s

/-- R120, R121: the epoch is settled before the first grant. Assumption log: 22 (DEDUCED). -/
def renew (n : Nat) (reuse : Bool) (inp : Tbl DispIn) (s : State) : State :=
  if n % 20 = 0 then
    let s1 := if s.io.flag Reg.LEASE.CTRL 0 then s.onLease epochStart else s
    s1.onLease (leaseRenew n reuse s1.io.active s1.alloc inp)
  else s

/-- R33, R34, R37: the tick is abandoned, the previous commit stays in force. Assumption log: 21 (DEDUCED), 22 (DEDUCED). -/
def abandon (n : Nat) (s : State) : State :=
  let run := satU 8 (s.io.fld Reg.SYS.TICK_STAT 23 16 + 1)
  let s1 := s.onIo fun io => ((io.setFld Reg.SYS.TICK_STAT 23 16 run).count Reg.SYS.TICK_ABANDON_CNT).evt 0x40000000 4
  let s2 := suspend s1
  if s2.running then renew n true (s2.dispIns n) s2 else s2

/-- What every unit does at a tick start: its heartbeat and role hold, a mirrored frame (R537, R552, R543). -/
def tickStart (n : Nat) (s : State) : State :=
  let s1 := standbyFrames (applyPend (s.onMir mirTickStart))
  { s1 with boot := { s1.boot with tick := n + 1 } }

/-- Steps 1 to 4. Assumption log: 12 (DEDUCED). -/
def steps1to4 (n : Nat) (ev : TickEv) (s : State) : State :=
  let s1 := s.onPnt (pntStep1 n)
  let s2 := s1.onSess (publish s1.alloc.model ev.residue)
  s2.onCtle (ctleTick s2.io.active s2.measure ev.ctl n)

/-- R50, R51, R62: what takes effect at the start of step 5; `ue`: an uncorrectable error is found in the active model (R90). -/
def step5Start (n : Nat) (ue : Bool) (s : State) : State :=
  let s0 := if ue then
      { s with alloc := { s.alloc with ue := true }, io := s.io.errRec .alloc 0 ⟨3, 0, 0, 0, 0x40100000, 0, s.now⟩ } else s
  let s1 := s0.onAlloc (modelSwapEffect (n * tickNs))
  if s1.alloc.cold then { s1 with alloc := { s1.alloc with pi := [], cold := false } } else s1

/-- Why steps 5 and 6 cannot commit; the records of R59, R90 and R126. -/
def tickFails (ev : TickEv) (ok : Bool) (s : State) : Bool × (Io → Io) :=
  if s.alloc.ue then (true, fun io => io)
  else if ev.allocRes then
    (true, fun io => (io.evt 0x40100000 9).errRec .alloc 0 ⟨4, 0, 0, 0, 0x40100000, 0, io.now⟩)
  else if !ok then (true, fun io => (io.evt 0x40100000 10).errRec .alloc 0 ⟨7, 0, 0, 0, 0x40100000, 0, io.now⟩)
  else if ev.leaseRes then
    (true, fun io => (io.evt 0x40110000 8).errRec .lease 0 ⟨4, 0, 0, 0, 0x40110000, 0, io.now⟩)
  else (decide (48000 ≤ ev.commitAt), fun io => io)

/-- R32, R36, R92, R172: step 6. -/
def commitTick (n : Nat) (inp : Tbl DispIn) (sin : Tbl SrcIn) (t : TickOut) (s : State) : State :=
  let prev := s.alloc.ps
  let r := allocCommit n inp t
  let io1 := (r.2.setFld Reg.SYS.TICK_STAT 29 16 0)
  let s1 := firstCommit { s with alloc := r.1, io := io1 }
  let s2 := if s1.io.flag Reg.LEASE.EPOCH 16 then s1 else s1.onLease epochStart
  let s3 := { s2 with lease := holdStart s2.lease s2.io }
  let s4 := renew n false inp s3
  let s5 := s4.onCtle (allocTargets s4.alloc.model s4.alloc.ps)
  let s6 := s5.onIo (quietCheck s5.alloc s5.lease)
  s6.onAlloc (q0Packet n (n % 20 = 0) (n % 40 = 0) inp sin prev t)

/-- Step 7, and what waits for its end (R308, R550, R551). -/
def step7 (n : Nat) (cycles : Nat) (s : State) : State :=
  let s1 := s.onMir (mirStep7 n s.mirBody)
  let s2 := s1.onMir (checkpoints ((s1.sess.disp.filter fun e => e.2.on).map Prod.fst))
  let s3 := s2.onSess tcpAck
  s3.onIo fun io => (io.setFld Reg.SYS.TICK_STAT 15 0 (cycles % 65536)).peak Reg.SYS.TICK_MAX_CYCLES (cycles % 65536)

/-- R523: step 8. -/
def step8 (s : State) : State := s.onGnt (gntTick s.thrm)

/-- The route queries or placements of R78 and R81 precede the first commit. -/
def placed (s : State) : State := if s.alloc.placed then s else s.onAlloc placeAll

/-- R31: the tick that site time has reached, once. A unit that is not ACTIVE runs the steps that R546 leaves it.
Assumption log: 12 (DEDUCED), 21 (DEDUCED). -/
def tick (ev : TickEv) (s : State) : State :=
  let n := s.tickNum
  if n < s.boot.tick then s
  else
    let s0 := tickStart n s
    if !s0.io.active then settle (step8 (s0.onPnt (pntStep1 n)))
    else
      let s1 := step5Start n ev.allocUe (steps1to4 n ev (placed s0))
      let inp := s1.dispIns n
      let sin := s1.srcIns n
      let t := allocStep5 n (n % 20 = 0) inp sin s1.alloc s1.io
      let f := tickFails ev t.ok s1
      let s2 := if f.1 then abandon n (s1.onIo f.2) else step7 n ev.cycles (commitTick n inp sin t s1)
      settle (step8 s2)

/-- R33, row TICK_ABANDON: site time has passed cycle 48 000 of a tick that has not reached step 4. Assumption log: 21 (DEDUCED). -/
def tickAbandon (s : State) : State :=
  let n := s.tickNum
  if n < s.boot.tick || !s.io.active || decide (s.now < n * tickNs + 240000) then s
  else
    let s0 := tickStart n s
    settle (step8 (abandon n (s0.onCtle (ctleTickMissed s0.io.active n))))

end State
end Sys2Proof.Machine
end

