-- ==== Sys2Proof/Machine/Reset.lean ====
section
/-! DEFINITION. Sys2Proof/Machine/Reset.lean: the reset kinds and what each clears (R662 to R667), loss of the keys (R491, R496),
loss of VBAT. -/
namespace Sys2Proof.Machine

/-- The kinds of R666. -/
inductive RKind where
  | por | warm | wake
  deriving DecidableEq, Repr

/-- R667: whether a register of a block and a reset domain keeps its value. PD2 and PD9 are not woken. -/
def RKind.keeps (k : RKind) (b : Block) (d : Dom) : Bool :=
  match k, d with
  | _, .ao => true
  | .por, _ => false
  | _, .po => true
  | .warm, _ => false
  | .wake, _ => b == .mtr || b == .lsw || b == .cot

/-- Whether the register under a key keeps its value. -/
def RKind.keepsKey (k : RKind) (a : Nat) : Bool :=
  match blockAt a, regDesc a with
  | some (b, _, _), some d => k.keeps b d.dom
  | _, _ => false

/-- The blocks whose error logs outlive a reset: those of domains that keep power and are not reset. -/
def RKind.keepsLog (k : RKind) (n : Nat) : Bool :=
  n == Block.aon.logKey 0 || (k == .wake && (n == Block.mtr.logKey 0 || n == Block.lsw.logKey 0 || n == Block.cot.logKey 0))

/-- What a reset leaves of what the blocks share. Site time restarts (R27); the role and heartbeat lines and the mirror lanes are
as they were; the counters of R706 go on. Assumption log: 197 (DEDUCED). -/
def Io.reset (k : RKind) (io : Io) : Io :=
  let lines := setBits (setBits 0 27 26 (io.fld Reg.MIR.STAT 27 26)) 24 23 (io.fld Reg.MIR.STAT 24 23)
  let io1 : Io := { io with
    clk := ⟨0, 0, 0, 0⟩, regs := Tbl.keep io.regs fun a _ => k.keepsKey a, stage := [],
    logs := Tbl.keep io.logs fun n _ => k.keepsLog n, queues := [], gaps := [], esc := [], escOver := 0, nodes := [],
    streams := [], keys := Tbl.mapVals io.keys KeyGen.init fun _ x => { x with replacedAt := x.replacedAt - io.now } }
  io1.setReg Reg.MIR.STAT lines

/-- A channel's times after site time has restarted. -/
def Chan.rebase (o : Nat) (x : Chan) : Chan :=
  { x with period := 0, onAt := x.onAt - o, offAt := x.offAt - o, pauseEnd := x.pauseEnd - o }

/-- The die's times after site time has restarted. Assumption log: 20 (DEDUCED). -/
def PowSt.rebase (o : Nat) (p : PowSt) : PowSt :=
  { p with
    chan := (List.range 24).foldl (fun (t : Tbl Chan) n => Tbl.upd t (chanOf p n) n (Chan.rebase o)) p.chan,
    rail := (List.range 2).foldl (fun (t : Tbl Rail) r =>
      let x := railOf p r
      Tbl.set t Rail.init r { x with v0 := x.vref o, t0 := 0, win := 0 }) p.rail,
    held := p.held.map fun t => t - o }

/-- Field equipment after site time has restarted: it keeps its own time. Assumption log: 20 (DEDUCED). -/
def NetSt.reset (o : Nat) (n : NetSt) : NetSt :=
  { NetSt.init with
    nodeTime := n.nodeTime.map fun e => (e.1, { e.2 with ofs := e.2.ofs.map (· + (o : Int)) }), nodeStreams := n.nodeStreams }

namespace State

/-- A reset of kind `k` (R666, R667). Assumption log: 20 (DEDUCED), 196 (DEDUCED). -/
def resetTo (k : RKind) (cause : RstCause) (s : State) : State :=
  let o := s.now
  let was := paired s.io && mirState s.io == 3
  let io1 := (s.io.reset k).setFlag Reg.SYS.RST_CAUSE cause.bit true
  let io2 := if s.mir.own then io1.drive "ROLE_N" io1.ownId [1] else io1
  let p := pntReset s.pnt io2
  let d := match k with
    | .por => (PowSt.init, p.2)
    | .warm => lswHold (s.pow.rebase o) p.2
    | .wake => (s.pow.rebase o, p.2)
  let l := s.mtr
  let m := match k with
    | .wake => { mtrSiteStep (-(o : Int)) { l with clk := l.clk.settle o } with sampleAt := 0 }
    | _ => mtrReset l
  let mem0 : MemSt := { s.mem with flOp := none, mitNext := 0, mitAt := 0, scrubNext := 0 }
  let b := s.boot
  let b1 : BootSt := { BootSt.init with
    held := b.held, super := b.super, clearAt := b.clearAt, rtc := b.rtc, low := b.low, base := b.base, len := b.len,
    chosen := k == .wake, vbat := b.vbat, fw := b.fw, cut := cause == .porSupply || (b.cut && !l.running),
    rtcL := if k == .wake then b.rtcL else if l.running then some (b.rtc, legalNow l s.io) else b.rtcL }
  { s with
    io := d.2, pow := d.1, mtr := m, boot := b1, pnt := p.1,
    mem := if k == .warm then mem0 else { mem0 with spm := [], dram := [], dramBad := [] },
    net := s.net.reset o, alloc := AllocSt.init, lease := { LeaseSt.init with holders := s.lease.holders },
    ctle := { CtleSt.init with rx := s.ctle.rx }, thrm := { ThrmSt.init with rx := s.thrm.rx }, sess := sessReset s.sess,
    spn := spnReset s.spn s.io, hlm := hlmReset s.hlm,
    gnt := { gntReset (k == .por) 0 { s.gnt with pair := s.gnt.pair.map fun e => (e.1, { e.2 with openAt := 0 }) } with laneAt := 0 },
    mir := { mirReset 0 was s.mir with hbAt := 0, hbLost := 0, pSince := 0 } }

/-- R491, R496: what the rest of the part does when the operational keys are gone. -/
def keysGone (s : State) : State :=
  let s1 := s.onSess fun t => t.1.disp.foldl (fun (u : SessSt × Io) e =>
    if e.2.ctx.isEmpty then u else sUpd e.1 (fun x => { x with ctx := [] }) (sFault s.alloc.model e.1 0xF 0 u)) t
  giveUpFor 2 (s1.onMtr (meterKey none))

/-- The erasure that waited for power (R495). Assumption log: 140 (DEDUCED). -/
def deferredErase (s : State) : State :=
  let r := tamperDeferred (s.hlm, s.io)
  let s1 := { s with hlm := r.1.1, io := r.1.2 }
  if r.2 then keysGone s1 else s1

/-- R662, R663: the quiet state is entered: the role line and heartbeat are released, the domains lose power. Assumption log: 196 (DEDUCED). -/
def enterQuiet (s : State) : State :=
  let io1 := if s.mir.own then s.io.drive "ROLE_N" s.io.ownId [1] else s.io
  let io2 := io1.setReg Reg.SYS.PD_STAT 0x205
  settle { s with io := io2, mir := { s.mir with own := false, hb := false }, gnt := { s.gnt with die := 0 },
                  boot := { s.boot with quiet := true } }

/-- R664, R665: the quiet state is left; Sepia goes on with the image it last started. Assumption log: 196 (DEDUCED). -/
def leaveQuiet (src : Nat) (s : State) : State :=
  if s.boot.quiet then
    let s1 := resetTo .wake .quietWake s
    let io1 := (((s1.io.setReg Reg.AON.WAKE_SRC (w32 src)).evt 0x40F00000 0).setFld Reg.SYS.BOOT_STAT 31 28 1).setFld Reg.SYS.BOOT_STAT 21 16
      (s1.boot.base / 2 ^ 20)
    deferredErase { s1 with io := io1 }
  else s

/-- R467, R667: VBAT is lost: the mask and the operational keys; all of PD0 where it has no other supply. Tamper latches and
TAMPER_CNT stay (R493). Assumption log: 197 (DEDUCED). -/
def vbatLost (s : State) : State :=
  let t := eraseOp (s.hlm, s.io)
  let s1 := { s with hlm := t.1, io := t.2 }
  let regs := Tbl.keep s1.io.regs fun a _ => a == Reg.HLM.TMP_STAT || !((regDesc a).elim false fun d => d.dom == .ao)
  let io1 : Io := { s1.io with regs := regs, logs := Tbl.keep s1.io.logs fun n _ => n != Block.aon.logKey 0, txSeq := [] }
  let s2 := if s.boot.vbat then
      { s1 with io := io1, boot := { s1.boot with rtc := 0, rtcL := none, clearAt := 0, rescan := none } }
    else s1
  if s2.live then keysGone (s2.onHlm keysLostFlag) else s2

end State
end Sys2Proof.Machine
end

