-- ==== Sys2Proof/Machine/Deliver.lean ====
section
/-! DEFINITION. Sys2Proof/Machine/Deliver.lean: what becomes of a received Atkai message (R324, R326, R327), whatever it came by,
and what a Gauntlet step does to the coils. -/
namespace Sys2Proof.Machine
namespace State

/-- R265: where the die has opened a pair, the contactors that its coil line holds open. -/
def coils (old new : State) : State :=
  if old.gnt.die = new.gnt.die then new
  else (List.range 32).foldl (fun (s : State) p =>
    if bitsN old.gnt.die p p == 1 && !s.coil p then
      { s with sess := (pairDisps old.io p).foldl (fun (x : SessSt) d => headCoilLost d x) s.sess }
    else s) new

/-- A step of Gauntlet or of the safety lane. Assumption log: 152 (DEDUCED). -/
def gntAct (f : GntSt × Io → GntSt × Io) (s : State) : State := coils s (s.onGnt f)

/-- Whether the coil line of a dispenser's pair is supplied. -/
def coilOf (s : State) (d : Nat) : Bool := s.coil (dispPair s.io d)

/-- HMI records go from Sepia to the heads (R452). -/
def hmiFlush (s : State) : State :=
  let l := s.mtr.hmi
  let s1 := { s with mtr := { s.mtr with hmi := [] } }
  l.foldl (fun (t : State) e => t.onSess (vtunSend t.alloc.model 5 e.1 0 e.2)) s1

/-- A step of Sepia's metering. -/
def mtrAct (f : MtrSt × Io → MtrSt × Io) (s : State) : State := hmiFlush (s.onMtr f)

/-- The checks of R324: the state after them, and whether the message is accepted. Assumption log: 204 (DESIGN CHOICE). -/
def receive (m : AtkMsg) (s : State) : State × Bool :=
  let r := atkReceive s.io s.io.active m
  ({ s with io := r.1 }, r.2)

/-- R109 to R111. A stale epoch makes the unit give up (R547). -/
def ackIn (m : AtkMsg) (s : State) : State :=
  if s.io.active then
    let s1 := s.onLease (leaseAck m.payload)
    if s1.io.flag Reg.LEASE.STAT 4 then giveUpFor 4 s1 else s1
  else s

/-- R327, R280: a HEAD_STATUS reaches SESS, Gauntlet and LEASE; THRM, CTLE and ALLOC read what SESS holds. Assumption log: 199 (DEDUCED). -/
def headIn_ (m : AtkMsg) (s : State) : State :=
  let p := m.payload
  let d := u8 p 0
  if headLayout p && decide (d < nDisp s.alloc.model) && dispHead s.alloc.model d == m.src then
    let h := parseHead s.now p
    let s1 := { s with sess := headStore d h s.sess }
    let s2 := s1.onSess (sessHead s1.alloc.model d)
    let s3 := gntAct (gntHead d h (allowedAt s2.lease d h.meas) s2.thrm) s2
    if s3.io.active then
      let s4 := s3.onLease (leaseReport d h.iOut h.meas)
      s4.onIo (quietCheck s4.alloc s4.lease)
    else s3
  else s

/-- The layout of R328. -/
def cabLayout (p : List Byte) : Bool :=
  p.length == 32 && decide (u8 p 2 ≤ 4) && decide (u8 p 3 < 4) && u16 p 26 == 0

/-- R328, R70, R76, R114 to R117: a CAB_STATUS. Assumption log: 199 (DEDUCED). -/
def cabIn (m : AtkMsg) (s : State) : State :=
  let p := m.payload
  let c := u16 p 0
  if cabLayout p && decide (c < nCab s.alloc.model) && cabAtk s.alloc.model c == m.src then
    let s1 := s.onAlloc (cabStatus p)
    if s1.io.active then
      let e := (chainOf s1.lease (256 + c)).hist.head?
      let s2 := s1.onAlloc (drainStep (e.elim true fun x => x.p == 0 && x.i == 0) c)
      let s3 := s2.onLease (leaseReport (256 + c) (s32 p 12) (u64 p 4))
      s3.onIo (quietCheck s3.alloc s3.lease)
    else s1
  else s

/-- R84: a ROUTE_REPORT. -/
def routeIn (m : AtkMsg) (s : State) : State :=
  if s.io.active then s.onAlloc (routeReport (parseReport m.payload)) else s

/-- R276: a PILOT report. -/
def pilotIn (m : AtkMsg) (s : State) : State :=
  s.onSess (vtunIn s.alloc.model m.src 4 8 m.payload fun d p => pilotReport s.alloc.model d p)

/-- R277: a CTL response. -/
def ctlIn (m : AtkMsg) (s : State) : State :=
  s.onSess (vtunIn s.alloc.model m.src 6 16 m.payload fun d p => ctlResponse s.alloc.model d p)

/-- R271, R453: an HMI record of the head, ENTRY with FIELD `field`: its dispenser and data. -/
def hmiEntry (field : Nat) (m : AtkMsg) (s : State) : Option (Nat × List Byte) :=
  let p := m.payload
  let r := p.drop 16
  if s.io.flag Reg.SESS.CTRL 0 && vtunOk s.alloc.model m.src p && u8 p 0 == 5 && u8 p 1 % 4 == 0 && u8 r 0 == 1
      && u8 r 2 == field && u8 r 3 == 0 && r.length == 4 + u8 r 1 then some (u8 p 2, r.drop 4)
  else none

/-- R447: a token entered at a dispenser, whose channel has the dispenser's number. Assumption log: 201 (DEDUCED). -/
def tokenIn (tagOk : Bool) (m : AtkMsg) (s : State) : State :=
  match s.hmiEntry 1 m with
  | some (d, bs) => mtrAct (tokenEntry d bs tagOk) s
  | none => s

/-- R454: a check request. Assumption log: 201 (DEDUCED). -/
def checkIn (m : AtkMsg) (s : State) : State :=
  match s.hmiEntry 2 m with
  | some (d, _) => mtrAct (checkRequest d) s
  | none => s

/-- A slot of the key store that METER_KEY names has changed (R465, R496). Assumption log: 201 (DEDUCED). -/
def meterKeySync (s : State) : State :=
  let k := (hSlot s.hlm (lpMeterKey s.mtr)).bind fun x => if x.cls = 4 then some x.pub else none
  if k = s.mtr.key then s else s.onMtr (meterKey k)

/-- R469, R666: a life-cycle transition, `back` into RETURNED: the wipe, then the warm reset. -/
def transition (back : Bool) (s : State) : State :=
  let s1 := s.onHlm (hlmTransition back)
  let s2 : State := { s1 with
    mem := { s1.mem with spm := [], dram := [], dramBad := [] },
    mtr := if back then mtrErase { s1.mtr with key := none } else { s1.mtr with key := none } }
  coils s2 (resetTo .warm .warmLc s2)

/-- R480 to R485, R468: a KEY_UPDATE of any OP. -/
def keyUpdateIn (p : List Byte) (mbx sigOk wrapOk : Bool) (s : State) : State :=
  let r := kuResult s.hlm s.io p sigOk wrapOk
  if r = 0 ∧ kuOp p = 4 then
    transition (u16 p 182 == 4)
      (s.onHlm fun t => kuRecord p mbx 0 [] ({ t.1 with kuCtr := u64 p 8 }, t.2))
  else meterKeySync (s.onHlm (keyUpdate p mbx sigOk wrapOk))

/-- R226: a POINT_BLOCK; `fifo`: blocks waiting in the ingest FIFO. -/
def blockIn (fifo : Nat) (m : AtkMsg) (s : State) : State := s.onPnt (pointBlock fifo m.src m.payload)

/-- R403, R439: a METER_BLOCK. -/
def meterIn (m : AtkMsg) (s : State) : State :=
  let c := u8 m.payload 0
  let x := sesOf s.sess c
  mtrAct (fun t => txnMark c (x.st == .idle || x.st == .ended) x.since (meterBlock s.io.active m t)) s

/-- R413, R414: a CAL_REF. -/
def calIn (m : AtkMsg) (s : State) : State :=
  if u8 m.payload 1 = 1 then s.onMtr (calAnnounce m.payload) else s.onMtr (calResult m.payload)

/-- R264: a vehicle frame. -/
def vehicleIn (tcp : Nat) (m : AtkMsg) (s : State) : State := s.onSess (vehicleFrame s.alloc.model m.src tcp m.payload)

/-- A free value for something sensed that the command that brought the message does not carry. Assumption log: 204 (DESIGN CHOICE). -/
def sensed (s : State) : Nat × State := let f := s.io.fresh; (f.1, { s with io := f.2 })

/-- R326, R327: an accepted message goes to its consumer. What the consumer senses beside the message is free here; the rows of
these messages carry it. -/
def consume (m : AtkMsg) (s : State) : State :=
  let f := s.sensed
  match m.ty with
  | 2 => ackIn m s
  | 3 => blockIn (Config.freeNat f.1) m f.2
  | 4 => meterIn m s
  | 5 =>
    (match u8 m.payload 0 with
     | 4 => pilotIn m s
     | 5 => if u8 m.payload 18 = 1 then tokenIn (Config.freeBool f.1) m f.2 else checkIn m s
     | 6 => ctlIn m s
     | _ => vehicleIn (Config.freeNat f.1) m f.2)
  | 8 =>
    (match m.sub with
     | 1 => headIn_ m s
     | 2 => cabIn m s
     | 3 => routeIn m s
     | _ => if 0x80 ≤ m.sub then s.onIo fun io => atkRx io m else s)
  | 9 => keyUpdateIn m.payload false (Config.freeBool f.1) (Config.freeBool (f.1 + 1)) (f.2.sensed).2
  | 0xA => calIn m s
  | _ => if 0x80 ≤ m.ty then s.onIo fun io => atkRx io m else s

/-- A message that came over CAN or the mesh (R345, R348, R380). -/
def arrived (tagOk : Bool) (bs : List Byte) (via : Via) (s : State) : State :=
  let m := parseMsg bs tagOk via
  let r := receive m s
  if r.2 then consume m r.1 else r.1

/-- A row of one kind of message: `k` for a message of that TYPE and SUBTYPE that passes R324. -/
def msgRow (ty : Nat) (sub : Option Nat) (k : AtkMsg → State → State) (m : AtkMsg) (s : State) : State :=
  if m.ty = ty ∧ sub.elim true (· == m.sub) then
    let r := receive m s
    if r.2 then k m r.1 else r.1
  else s

end State
end Sys2Proof.Machine
end

