-- ==== Sys2Proof/Machine/Sys.lean ====
section
/-! DEFINITION. Sys2Proof/Machine/Sys.lean: supplies, clocks, resets, the watchdog, the quiet state and the flash commands
(R642, R643, R648, R660 to R666, R678, R679, R681). -/
namespace Sys2Proof.Machine
namespace State

/-- A write of a register to which nothing but its fields' types, conditions and encodings apply (R6, R11, R12, R14, R20). -/
def plainWrite (who : Who) (a : Nat) (v : Word) (s : State) : State :=
  s.onIo fun io => io.write (s.guardAt (io.regKey a)) who a v

/-- A reset, and what it does to the coils. -/
def doReset (k : RKind) (cause : RstCause) (s : State) : State := coils s (resetTo k cause s)

/-- The comparators of R678: number, value, falling threshold, rising threshold. PORST_N is the last. Assumption log: 194 (DEDUCED). -/
def comparators (v : Rails) : List (Nat × Bool × Bool) :=
  let c := fun (k x lo hi : Nat) => (k, decide (x < lo), decide (hi < x))
  [c 0 v.vhv 33000 39000, c 1 v.core 690 710, c 2 v.vdd18 1620 1660, c 3 v.vdd1 1620 1660, c 4 v.vdd33 2950 3050,
   c 5 v.vdd2h 960 990, c 6 v.vddq 440 460, (7, decide (10 * us ≤ v.porstLow), v.porstLow == 0)]

/-- R678: what the supervisor senses. Reset while a condition holds, released 10 ms after the last clears. Assumption log: 194 (DEDUCED). -/
def supervise (v : Rails) (s : State) : State :=
  let low := ((comparators v).filter fun c => c.2.1 || (s.boot.low.contains c.1 && !c.2.2)).map Prod.fst
  if !low.isEmpty then
    let s1 := if s.boot.super then s else doReset .por .porSupply s
    { s1 with boot := { s1.boot with low := low, super := true, held := true } }
  else if s.boot.super then
    if !s.boot.low.isEmpty then { s with boot := { s.boot with low := [], clearAt := s.boot.rtc } }
    else if s.boot.clearAt + 10 * ms ≤ s.boot.rtc then { s with boot := { s.boot with super := false } }
    else s
  else s

/-- R681: PD0 moves to VBAT below 30 V and back above 32 V. Assumption log: 197 (DEDUCED). -/
def vbatSwitch (vhv : Nat) (s : State) : State :=
  let b := if vhv < 30000 then true else if 32000 < vhv then false else s.boot.vbat
  { s with boot := { s.boot with vbat := b } }

/-- R435, R679: the early-warning. -/
def earlyWarning (vhv pfailLow : Nat) (s : State) : State :=
  if s.sepia && (decide (vhv < 38500) || decide (2 * us ≤ pfailLow)) then mtrAct supplyEarlyWarning s else s

/-- R657, R659: the main PLL has locked. Assumption log: 195 (DEDUCED). -/
def pllLock (s : State) : State :=
  if s.boot.super then s
  else { s with io := s.io.setFld Reg.SYS.CLK_STAT 4 0 0x1F, boot := { s.boot with held := false } }

/-- R660. Assumption log: 195 (DEDUCED). -/
def pllLoss (s : State) : State :=
  if s.boot.held then s
  else
    let s1 := doReset .warm .warmPll s
    { s1 with boot := { s1.boot with held := true } }

/-- A cause of a warm reset. -/
def warmCause (c : RstCause) : Bool :=
  match c with
  | .warmSw | .warmWdt | .warmPll | .warmLc | .warmTamper | .imageRej => true
  | .porSupply | .porCore | .porSw | .quietWake => false

/-- SYS.RST_CTL is written (R666). Assumption log: 17 (DESIGN CHOICE). -/
def rstCtl (who : Who) (v : Word) (s : State) : State :=
  if !mayWrite who Reg.SYS.RST_CTL then s.onIo fun io => io.accessAt 1 who Reg.SYS.RST_CTL v.toNat
  else if v = 0xD1E50001 then doReset .warm .warmSw s
  else if v = 0xD1E50002 ∧ who = .sepia then doReset .por .porSw s
  else s.onIo fun io => io.accessAt 2 who Reg.SYS.RST_CTL v.toNat

/-! The watchdog (SYS.WDT_CTL, SYS.WDT_KICK). -/

def wdtMs (s : State) : Nat := s.io.fld Reg.SYS.WDT_CTL 15 0

def wdtCtl (who : Who) (v : Word) (s : State) : State :=
  let s1 := plainWrite who Reg.SYS.WDT_CTL v s
  if s1.io.flag Reg.SYS.WDT_CTL 31 && !s.io.flag Reg.SYS.WDT_CTL 31 then
    { s1 with boot := { s1.boot with kick := s.now, warned := false } }
  else s1

def wdtKick (who : Who) (v : Word) (s : State) : State :=
  if !mayWrite who Reg.SYS.WDT_KICK then s.onIo fun io => io.accessAt 1 who Reg.SYS.WDT_KICK v.toNat
  else if v = 0x5A5AA5A5 then { s with boot := { s.boot with kick := s.now, warned := false } }
  else s.onIo fun io => io.accessAt 2 who Reg.SYS.WDT_KICK v.toNat

/-- Half the timeout has passed since the last kick. -/
def wdtWarn (s : State) : State :=
  if s.io.flag Reg.SYS.WDT_CTL 31 && !s.boot.warned && decide (2 * s.boot.kick + s.wdtMs * ms ≤ 2 * s.now) then
    { s with io := s.io.evt 0x40000000 0, boot := { s.boot with warned := true } }
  else s

/-- The timeout has passed since the last kick. -/
def wdtExpiry (s : State) : State :=
  if s.io.flag Reg.SYS.WDT_CTL 31 && decide (s.boot.kick + s.wdtMs * ms ≤ s.now) then doReset .warm .warmWdt s else s

/-! The quiet state (R662 to R665). -/

/-- AON.QUIET.ENTER. Assumption log: 196 (DEDUCED). -/
def quietEnter (who : Who) (s : State) : State :=
  if !mayWrite who Reg.AON.QUIET then s.onIo fun io => io.accessAt 1 who Reg.AON.QUIET 1
  else if liveNum s.lease s.now = 0 ∧ sessNum s.sess = 0 then coils s (enterQuiet s)
  else s.onIo fun io => (io.accessAt 4 who Reg.AON.QUIET 1).evt 0x40000000 2

/-- The RTC reaches AON.WAKE. -/
def wakeRtc (s : State) : State :=
  if s.io.fld Reg.AON.WAKE_HI 15 0 * 2 ^ 32 + (s.io.reg Reg.AON.WAKE_LO).toNat ≤ s.rtcCount then leaveQuiet 1 s else s

/-- WAKE_N is low. -/
def wakePin (lowNs : Nat) (s : State) : State := if ms ≤ lowNs then leaveQuiet 2 s else s

/-- AON.QUIET.WAKE_NOW, which only Sepia may write. Assumption log: 17 (DESIGN CHOICE). -/
def wakeNow (who : Who) (s : State) : State :=
  if who = .sepia then leaveQuiet 3 s else s.onIo fun io => io.accessAt 1 who Reg.AON.QUIET 2

/-- AON.QUIET is written. Assumption log: 17 (DESIGN CHOICE). -/
def quietWrite (who : Who) (v : Word) (s : State) : State :=
  let s1 := if bit v 0 then quietEnter who s else s
  if bit v 1 then wakeNow who s1 else s1

/-! The flash commands (R642, R643, R648). -/

/-- Where an operation starts and how many bytes it touches: a page or an erase block holds the address. -/
def flSpan (op addr : Nat) : Nat × Nat :=
  match op with
  | 1 => (addr, 256)
  | 2 => (addr / 256 * 256, 256)
  | 3 => (addr / 0x1000 * 0x1000, 0x1000)
  | _ => (addr / 0x10000 * 0x10000, 0x10000)

/-- CFG.FL_CMD is written. Assumption log: 193 (PRESUMED). -/
def flCmd (who : Who) (op : Nat) (s : State) : State :=
  let a := s.io.fld Reg.CFG.FL_ADDR 25 0
  let sp := flSpan op a
  let app := match who with
    | .core _ => true
    | _ => false
  if !mayWrite who Reg.CFG.FL_CMD then s.onIo fun io => io.accessAt 1 who Reg.CFG.FL_CMD op
  else if op < 1 ∨ 4 < op then s.onIo fun io => io.accessAt 2 who Reg.CFG.FL_CMD op
  else if s.mem.flOp.isSome || (app && decide (2 ≤ op) && decide (sp.1 < s.boot.base + s.boot.len)
      && decide (s.boot.base < sp.1 + sp.2)) then s.onIo fun io => io.accessAt 4 who Reg.CFG.FL_CMD op
  else { s with mem := { s.mem with flOp := some ⟨op, a⟩ }, io := s.io.setFlag Reg.CFG.FL_STAT 31 true }

/-- The page buffer. -/
def flPage (s : State) : List Byte := (idx 64).flatMap fun i => le 4 (s.io.reg (Reg.CFG.FL_DATA i)).toNat

/-- What a flash operation does. Programming clears bits; an operation that fails leaves what it wrote open.
Assumption log: 7 (PRESUMED), 193 (PRESUMED). -/
def flEffect (err : Bool) (op addr : Nat) (s : State) : State :=
  let sp := flSpan op addr
  if err then
    if op = 1 then s
    else
      let bs := (List.range sp.2).map fun i => BitVec.ofNat 8 (Config.freeNat (s.io.free + i))
      { s with mem := { s.mem with flash := memWrite s.mem.flash 0xFF sp.1 bs }, io := { s.io with free := s.io.free + sp.2 } }
  else match op with
    | 1 =>
      let bs := (List.range 256).map fun i => Tbl.get s.mem.flash 0xFF ((addr + i) % 0x4000000)
      { s with io := (idx 64).foldl (fun (io : Io) i => io.setReg (Reg.CFG.FL_DATA i) (w32 (u32 bs (4 * i)))) s.io }
    | 2 =>
      let bs := List.zipWith (fun (x y : Byte) => x &&& y) (memRead s.mem.flash 0xFF sp.1 256) s.flPage
      { s with mem := { s.mem with flash := memWrite s.mem.flash 0xFF sp.1 bs } }
    | _ => { s with mem := { s.mem with flash := Tbl.keep s.mem.flash fun k _ => decide (k < sp.1) || decide (sp.1 + sp.2 ≤ k) } }

/-- A flash operation ends; while XSPI_EXT_N is low no access reaches the flash. -/
def flDone (err : Bool) (s : State) : State :=
  match s.mem.flOp with
  | none => s
  | some o =>
    let s1 := if s.mem.extN then s else flEffect err o.op o.addr s
    let io1 := ((s1.io.setFlag Reg.CFG.FL_STAT 31 false).setFlag Reg.CFG.FL_STAT 30 (err || s.mem.extN)).evt 0x40010000 0
    { s1 with mem := { s1.mem with flOp := none }, io := io1 }

end State
end Sys2Proof.Machine
end

