-- ==== Sys2Proof/Machine/QueOps.lean ====
section
/-! DEFINITION. Sys2Proof/Machine/QueOps.lean: the hardware queues as initiators reach them (R20, R574 to R585, R709, R710), and
the error logs' registers (R591 to R596). -/
namespace Sys2Proof.Machine
namespace State

/-- A register of queue q at offset o. -/
def qReg (q o : Nat) : Nat := 0x40020100 + 0x40 * (q % 16) + o

/-- An initiator that R20 lets write queue q does something to it. -/
def qWrite (who : Who) (q o v : Nat) (f : Io → Io) (s : State) : State :=
  s.onIo fun io => if mayWrite who (qReg q o) then f io else io.accessAt 1 who (qReg q o) v

/-- A word enters the fill bank; every word is delivered with VALID, and POISON only by R581. -/
def queueFill (who : Who) (q : Nat) (w : Word64) (s : State) : State :=
  qWrite who q 4 (w.toNat / 2 ^ 32) (fun io =>
    let x := BitVec.ofNat 64 (2 ^ 63 + w.toNat % 2 ^ 62)
    let r := (io.queue (q % 16)).put x io.now
    let io1 := io.setQueue (q % 16) r.1
    if r.2 then io1.access .que 0 4 who (qReg q 4) (w.toNat / 2 ^ 32) else io1) s

/-- A read of Qn_RSV reserves a length slot, for an initiator that may write the queue. -/
def queueReserve (who : Who) (q : Nat) (s : State) : State :=
  s.onIo fun io =>
    if mayWrite who (qReg q 0xC) then
      let r := (io.queue (q % 16)).reserve io.now
      { io.setQueue (q % 16) r.1 with bus := r.2 }
    else { io.accessAt 1 who (qReg q 0xC) 0 with bus := 0 }

/-- A write of Qn_LEN: SLOT and LEN. -/
def queueLength (who : Who) (q : Nat) (v : Word) (s : State) : State :=
  qWrite who q 0x10 v.toNat (fun io =>
    if bits v 10 0 = 0 then io.accessAt 2 who (qReg q 0x10) v.toNat
    else io.setQueue (q % 16) ((io.queue (q % 16)).length (bits v 26 16) (bits v 10 0))) s

/-- A read of Qn_DRAIN_LO: the next word, its high half held for DRAIN_HI. `bad`: its parity check fails (R581). -/
def queueDrain (who : Who) (q : Nat) (bad : Bool) (s : State) : State :=
  s.onIo fun io =>
    let hi := qReg q 0x18
    if mayRead who (qReg q 0x14) then
      let r := (io.queue (q % 16)).next
      match r.2 with
      | none => { io.setQueue (q % 16) r.1 with bus := 0, stage := Tbl.set io.stage none hi (some 0) }
      | some w =>
        let x := r.1
        let n := w.toNat + if bad then 2 ^ 62 else 0
        let y := if bad then { x with poisonCnt := incSat x.poisonCnt, curBad := !x.cur.isEmpty } else { x with curBad := x.curBad && !x.cur.isEmpty }
        let io1 := io.setQueue (q % 16) y
        let first := bad && !((io.queue (q % 16)).curBad && !(io.queue (q % 16)).cur.isEmpty)
        let io2 := if first then io1.fail .que 0 5 0 0 (qReg q 0x14) else io1
        { io2 with bus := n % 2 ^ 32, stage := Tbl.set io2.stage none hi (some (w32 (n / 2 ^ 32))) }
    else { io.accessAt 1 who (qReg q 0x14) 0 with bus := 0 }

/-- R578. -/
def packetAbandon (q : Nat) (s : State) : State :=
  s.onIo fun io => io.setQueue (q % 16) ((io.queue (q % 16)).expire io.now (io.fld (qReg q 0x28) 15 0))

/-- R582. -/
def queueFlush (who : Who) (q : Nat) (s : State) : State :=
  qWrite who q 0x20 2 (fun io => io.setQueue (q % 16) (io.queue (q % 16)).flush) s

/-- R583. -/
def queueMark (who : Who) (q v : Nat) (s : State) : State :=
  qWrite who q 0x20 v (fun io =>
    let x := io.queue (q % 16)
    if x.canMark then io.setQueue (q % 16) { x with mark := some x.drain } else io.accessAt 4 who (qReg q 0x20) v) s

/-- R584. -/
def queueRewind (who : Who) (q v : Nat) (s : State) : State :=
  qWrite who q 0x20 v (fun io =>
    let x := io.queue (q % 16)
    match x.mark with
    | some m => io.setQueue (q % 16) { x with cur := [], drain := m, curBad := false }
    | none => io.accessAt 4 who (qReg q 0x20) v) s

/-- A write of Qn_CTL. Assumption log: 169 (DEDUCED). -/
def queueCtl (who : Who) (q : Nat) (v : Word) (s : State) : State :=
  let s1 := if bit v 1 then queueFlush who q s else s
  let s2 := if bit v 2 then queueMark who q v.toNat s1 else s1
  if bit v 3 then queueRewind who q v.toNat s2
  else if bits v 3 1 = 0 then qWrite who q 0x20 v.toNat (fun io => io) s2 else s2

/-- A write of Qn_FLAGS clears the flags it names. -/
def queueFlags (who : Who) (q : Nat) (v : Word) (s : State) : State :=
  qWrite who q 0x24 v.toNat (fun io =>
    let x := io.queue (q % 16)
    io.setQueue (q % 16) { x with
      overrun := x.overrun && !bit v 0, abandon := x.abandon && !bit v 1, flushed := x.flushed && !bit v 2,
      markLost := x.markLost && !bit v 3 }) s

/-- A read of Qn_OVR_CNT or Qn_POISON_CNT leaves what the same cycle brought (R10). -/
def queueCnt (who : Who) (q : Nat) (poison : Bool) (ev : Nat) (s : State) : State :=
  s.onIo fun io =>
    let a := qReg q (if poison then 0x30 else 0x2C)
    let x := io.queue (q % 16)
    if mayRead who a then
      { io.setQueue (q % 16) (if poison then { x with poisonCnt := w32 ev } else { x with ovrCnt := w32 ev }) with
        bus := (if poison then x.poisonCnt else x.ovrCnt).toNat }
    else { io.accessAt 1 who a 0 with bus := 0 }

/-- A granted write of a register of an error log. -/
def logWrite (who : Who) (a : Nat) (v : Word) (f : ErrLog → ErrLog) (s : State) : State :=
  match blockAt a with
  | some (b, n, _) => s.onIo fun io =>
    if mayWrite who a then
      let l := Tbl.get io.logs ErrLog.init (b.logKey n)
      { io with logs := Tbl.set io.logs ErrLog.init (b.logKey n) (f l) }
    else io.accessAt 1 who a v.toNat
  | none => s.onIo fun io => io.unmapped who a v.toNat

/-- ERR_POP. -/
def errPop (who : Who) (a : Nat) (v : Word) (s : State) : State :=
  logWrite who a v (fun l => if bit v 0 then l.pop else l) s

/-- ERR_ACK (R595). -/
def errAck (who : Who) (a : Nat) (v : Word) (s : State) : State := logWrite who a v (fun l => l.ack (bits v 7 0)) s

/-- ERR_STAT: SECOND and OVF. -/
def errStat (who : Who) (a : Nat) (v : Word) (s : State) : State :=
  logWrite who a v (fun l => { l with second := l.second && !bit v 31, ovf := l.ovf && !bit v 30 }) s

/-- A read of a counter of an error log. -/
def errCnt (who : Who) (a ev : Nat) (s : State) : State :=
  match blockAt a with
  | some (b, n, o) => s.onIo fun io =>
    if mayRead who a then
      let l := Tbl.get io.logs ErrLog.init (b.logKey n)
      let w := if o = 0xAC then l.ceCnt else if o = 0xB0 then l.ovfCnt else l.escCnt
      let l1 := if o = 0xAC then { l with ceCnt := w32 ev } else if o = 0xB0 then { l with ovfCnt := w32 ev } else { l with escCnt := w32 ev }
      { io with logs := Tbl.set io.logs ErrLog.init (b.logKey n) l1, bus := w.toNat }
    else { io.accessAt 1 who a 0 with bus := 0 }
  | none => s.onIo fun io => { io.unmapped who a 0 with bus := 0 }

end State
end Sys2Proof.Machine
end

