-- ==== Sys2Proof/Machine/RegRoute.lean ====
section
/-! DEFINITION. Sys2Proof/Machine/RegRoute.lean: writes and reads of registers with an effect of their own, and the one write and
the one read of any register (R6, R10 to R14, R20, R21). What such a register's row senses beside the write is an argument of the
row; a write that comes by its address alone takes a free value for it. -/
namespace Sys2Proof.Machine
namespace State

/-- `k` where R20 grants the write, the error where it does not. Assumption log: 16 (DEDUCED). -/
def granted (who : Who) (a : Nat) (v : Word) (k : State → State) (s : State) : State :=
  if mayWrite who a then k s else s.onIo fun io => io.accessAt 1 who a v.toNat

/-- A write refused in the present state. -/
def refused4 (who : Who) (a : Nat) (v : Word) (s : State) : State := s.onIo fun io => io.accessAt 4 who a v.toNat

/-! ALLOC and LEASE. -/

/-- R62: CTRL.COLD. -/
def priceCold (s : State) : State := { s with alloc := { s.alloc with cold := true } }

def allocCtrl (who : Who) (v : Word) (s : State) : State :=
  let s1 := plainWrite who Reg.ALLOC.CTRL v s
  if mayWrite who Reg.ALLOC.CTRL && bit v 8 then priceCold s1 else s1

/-- R50: MODEL_CTL.SWAP. -/
def modelCtl (who : Who) (v : Word) (s : State) : State :=
  granted who Reg.ALLOC.MODEL_CTL v (fun t => if bit v 0 then t.onAlloc modelSwap else t) s

/-- R136: whether an enabled slot drives a source's limit. -/
def limitHeld (s : State) (kind src : Nat) : Bool :=
  (enabledSlots s.io).any fun k => sinkKind s.io k == kind && sinkSel s.io k % 64 == src

/-- A write of SRC_IMP_LIM or SRC_EXP_LIM. -/
def srcLimit (who : Who) (a kind src : Nat) (v : Word) (s : State) : State :=
  if mayWrite who a && s.limitHeld kind src then refused4 who a v s else plainWrite who a v s

/-- LEASE.CTRL (R122, R123): writing WIND_DOWN may find every target quiet already. -/
def leaseCtrl (who : Who) (v : Word) (s : State) : State :=
  let s1 := s.onLease (windWrite (s.guardAt Reg.LEASE.CTRL) who v)
  s1.onIo (quietCheck s1.alloc s1.lease)

def leaseTblSel (who : Who) (v : Word) (s : State) : State := s.onIo (tblSel (s.guardAt Reg.LEASE.TBL_SEL) who v s.lease)

/-! CTLE. -/

/-- CTRL: GEN_EN stops and starts every generator. -/
def ctleCtrl (who : Who) (v : Word) (s : State) : State :=
  let s1 := plainWrite who Reg.CTLE.CTRL v s
  { s1 with ctle := genGate (s.io.reg Reg.CTLE.CTRL) (s1.io.reg Reg.CTLE.CTRL) s1.ctle s1.io }

/-- CTL of slot k (R134, R143, R162, R163). -/
def slotCtl (who : Who) (k : Nat) (v : Word) (s : State) : State :=
  granted who 0x40120100 v (fun t => settle (t.onCtle (ctlWrite (t.guardAt (Reg.CTLE.CTL k)) who k v))) s

/-- A shadowed word of slot k, by its place from KP on. -/
def slotShadow (who : Who) (k place : Nat) (v : Word) (s : State) : State :=
  granted who (0x40120120 + 4 * place) v (fun t => t.onCtle (shadowWrite (t.guardAt (shadowReg place k)) who k place v)) s

def slotInt (who : Who) (k : Nat) (hi : Bool) (v : Word) (s : State) : State :=
  granted who (if hi then 0x4012015C else 0x40120158) v (fun t => t.onCtle (integratorWrite who k hi v)) s

/-- SINK: kind 7 with TX_MS 0 is not issued (R132). Assumption log: 45 (DEDUCED). -/
def slotSink (who : Who) (v : Word) (s : State) : State :=
  let a := 0x4012010C
  if bits v 31 28 = 7 ∧ bits v 11 8 = 0 then granted who a v (fun t => t.onIo fun io => io.accessAt 2 who a v.toNat) s
  else plainWrite who a v s

def genCtl (who : Who) (g : Nat) (v : Word) (s : State) : State :=
  granted who 0x40120200 v (fun t => t.onCtle (genEnable (t.guardAt (Reg.CTLE.GCTL g)) who g v)) s

def genGoal (who : Who) (g : Nat) (v : Word) (s : State) : State :=
  granted who 0x40120204 v (fun t => t.onCtle (genTarget t.alloc.model who g v)) s

def genLimits (who : Who) (g which : Nat) (v : Word) (s : State) : State :=
  granted who (0x40120208 + 4 * which) v (fun t => t.onCtle (genLimit (t.guardAt (Reg.CTLE.VMAX g)) who g which v)) s

/-! THRM. -/

def circCtl (who : Who) (k : Nat) (v : Word) (s : State) : State :=
  granted who 0x40130200 v (fun t => settle (t.onIo (circEnable (t.guardAt (Reg.THRM.CCTL k)) who k v))) s

/-- R189: of an observer's record only CFG.CRED_SEL takes a write. Assumption log: 56 (DEDUCED). -/
def obsWrite (who : Who) (a : Nat) (v : Word) (s : State) : State :=
  if a = 0x40130100 then granted who a v (fun t => t.onIo fun io => io.setFld (io.regKey a) 29 28 (bits v 29 28)) s
  else granted who a v (refused4 who a v) s

/-! PNT. -/

def pntCmd (who : Who) (op : Nat) (s : State) : State := s.onPnt (pntCommand who op)

/-- CTRL: REHASH (R235) and PRESS_CLR (R239). -/
def pntCtrl (who : Who) (v : Word) (s : State) : State :=
  let s1 := plainWrite who Reg.PNT.CTRL v s
  if mayWrite who Reg.PNT.CTRL then
    let s2 := if bit v 9 then s1.onPnt rehashRequest else s1
    if bit v 10 then s2.onIo pressClr else s2
  else s1

/-! Networks. -/

/-- NBT, DBT and XBT: SJW above TSEG2 is not issued. Assumption log: 105 (DEDUCED). -/
def canTiming (who : Who) (a : Nat) (v : Word) (s : State) : State :=
  if bits v 15 8 < bits v 7 0 then granted who a v (fun t => t.onIo fun io => io.accessAt 2 who a v.toNat) s
  else plainWrite who a v s

/-- CAN.CTRL: the controller's state follows (R358 to R360). -/
def canCtrl (who : Who) (c : Nat) (v : Word) (s : State) : State :=
  (plainWrite who (Reg.CAN.CTRL c) v s).onIo (canSync c)

def canTxq (who : Who) (c : Nat) (v : Word) (busy : Option Nat) (ph : CanPhase) (s : State) : State :=
  s.onNet (canTxqWrite (s.guardAt (Reg.CAN.TXQ_CTL c)) who c v busy ph)

def canSel (who : Who) (c : Nat) (v : Word) (s : State) : State :=
  let s1 := plainWrite who (Reg.CAN.RX_SEL c) v s
  if mayWrite who (Reg.CAN.RX_SEL c) then { s1 with net := canRxSel c s1.net } else s1

/-- FAB.CTRL: which ports are enabled (R547). -/
def fabCtrl (who : Who) (v : Word) (s : State) : State :=
  let s1 := plainWrite who Reg.FAB.CTRL v s
  { s1 with net := fabricMark s1.net s1.io }

def spnCtl (who : Who) (v : Word) (maps : List (Nat × List Int × Nat)) (s : State) : State :=
  s.onSpn (spnCtrl (s.guardAt Reg.SPN.CTRL) who v maps)

/-- XCR.CERT_SEL. Assumption log: 84 (DEDUCED). -/
def certChoose (who : Who) (v : Word) (s : State) : State :=
  let s1 := plainWrite who Reg.XCR.CERT_SEL v s
  if mayWrite who Reg.XCR.CERT_SEL then { s1 with sess := certSel s1.sess } else s1

def certCtl (who : Who) (v : Word) (parses : Bool) (s : State) : State :=
  let r := certCommit (s.guardAt Reg.XCR.CERT_CTL) who v parses s.sess s.io
  { s with sess := r.1, io := r.2 }

def certWord (who : Who) (v : Word) (s : State) : State :=
  let r := certData who v s.sess s.io
  { s with sess := r.1, io := r.2 }

/-! The mailboxes (R459, R498). -/

/-- A command of the Sepia mailbox. Assumption log: 124 (DEDUCED). -/
def mtrCmd (who : Who) (n : Nat) (f : MtrSt × Io → MtrSt × Io) (s : State) : State :=
  granted who Reg.MTR.MBX_CMD (w32 n) (mtrAct f) s

/-- A command of the Helmet mailbox. -/
def hlmCmd (who : Who) (n : Nat) (f : State → State) (s : State) : State := granted who Reg.HLM.MBX_CMD (w32 n) f s

/-- R468: PROVISION. Assumption log: 138 (DESIGN CHOICE). -/
def hlmProvision (sigOk : Bool) (s : State) : State :=
  let r := provisionResult sigOk s.hlm
  if r = 0 then transition false (s.onHlm fun t => hlmDone 0x10 0 [] (provision (Config.certOf (hlmBytes t.2 4096)) t))
  else s.onHlm (hlmDone 0x10 r [])

/-- R468: RETURN. -/
def hlmReturn (sigOk : Bool) (s : State) : State :=
  let r := returnResult sigOk s.hlm
  if r = 0 then transition true (s.onHlm (hlmDone 0x12 0 [])) else s.onHlm (hlmDone 0x12 r [])

/-- R480: a KEY_UPDATE through the mailbox. -/
def mbxUpdate (sigOk wrapOk : Bool) (s : State) : State := keyUpdateIn (kuBytes s.io none) true sigOk wrapOk s

/-- MTR.MBX_CMD written with a command's code. Assumption log: 124 (DEDUCED). -/
def mtrMbx (who : Who) (op : Nat) (s : State) : State :=
  let f := s.sensed
  match op with
  | 1 => mtrCmd who op txnOpen s
  | 2 => mtrCmd who op txnClose s
  | 3 => mtrCmd who op (calLoad (Config.freeBool f.1)) f.2
  | 4 => mtrCmd who op calCancel s
  | 5 => mtrCmd who op civilAdj s
  | 6 => mtrCmd who op display s
  | 7 => mtrCmd who op prepay s
  | 8 => mtrCmd who op archRead s
  | _ => mtrCmd who op (mbxReserved op) s

/-- HLM.MBX_CMD written with a command's code. -/
def hlmMbx (who : Who) (op : Nat) (s : State) : State :=
  let f := s.sensed
  let ok := Config.freeBool f.1
  match op with
  | 1 => hlmCmd who op (fun t => t.onHlm getId) s
  | 2 => hlmCmd who op (fun t => t.onHlm (attest [])) s
  | 3 => hlmCmd who op (fun t => t.onHlm (hlmRandom [])) s
  | 4 => hlmCmd who op (mbxUpdate ok (Config.freeBool (f.1 + 1))) (f.2.sensed).2
  | 5 => hlmCmd who op (fun t => t.onHlm hlmStatus) s
  | 0x10 => hlmCmd who op (hlmProvision ok) f.2
  | 0x11 => hlmCmd who op (fun t => t.onHlm ownerFuse) s
  | 0x12 => hlmCmd who op (hlmReturn ok) f.2
  | _ => hlmCmd who op (fun t => t.onHlm (hlmReserved op)) s

/-- R410: a calibration word, in PROVISIONED or MAINTENANCE. -/
def calWord (who : Who) (e w : Nat) (v : Word) (s : State) : State :=
  s.onMtr (calWrite who e w v (s.hlm.state == 1 || s.hlm.state == 3))

/-! Gauntlet, MIR and the die. -/

def ackWrite (who : Who) (v : Word) (s : State) : State := gntAct (ackCmd s.fb who v) s

def mirCtrl (who : Who) (v : Word) (s : State) : State := settle (s.onMir (handover who v))

/-- LSW.CH_STAT: the latches (R610, R611). -/
def chStat (who : Who) (n : Nat) (v : Word) (s : State) : State :=
  granted who (Reg.LSW.CH_STAT n) v (fun t => settle (t.onPow (latchWrite who n v))) s

def chDuty (who : Who) (n : Nat) (v : Word) (s : State) : State := s.onPow (dutyWrite s.acting who n v)

def lswCtrl (who : Who) (v : Word) (s : State) : State := s.onPow (allOffWrite s.acting who v)

/-- SPM.BANK_CFG: MODE under R566, then the owners under R565. -/
def bankCfg (who : Who) (b : Nat) (v : Word) (s : State) : State :=
  let a := Reg.SPM.BANK_CFG (b % 32)
  granted who a v (fun t =>
    let t1 := if bits v 29 28 = t.io.fld a 29 28 then t else t.onIo (bankMode who b v)
    t1.onIo (bankOwner who b v)) s

/-! Any register. -/

/-- A write of a register of QUE. -/
def queRegWrite (who : Who) (a o : Nat) (v : Word) (s : State) : State :=
  if 0x100 ≤ o ∧ o < 0x500 then
    let q := (o - 0x100) / 0x40
    match (o - 0x100) % 0x40 with
    | 0x04 =>
      let lo := ((Tbl.get s.io.stage none (a - 4)).getD 0).toNat
      let s1 := if mayWrite who a then { s with io := { s.io with stage := Tbl.set s.io.stage none (a - 4) none } } else s
      queueFill who q (BitVec.ofNat 64 (v.toNat * 2 ^ 32 + lo)) s1
    | 0x10 => queueLength who q v s
    | 0x20 => queueCtl who q v s
    | 0x24 => queueFlags who q v s
    | _ => plainWrite who a v s
  else plainWrite who a v s

/-- A write of a register of CAN controller c. -/
def canRegWrite (who : Who) (c a o : Nat) (v : Word) (s : State) : State :=
  match o with
  | 0x000 => canCtrl who c v s
  | 0x004 | 0x008 | 0x00C => canTiming who a v s
  | 0x200 => canTxq who c v none .waiting s
  | 0x20C => s.onNet (canTxData who c v)
  | 0x300 => canSel who c v s
  | 0x318 => s.onNet (canRxAck who c v)
  | _ => plainWrite who a v s

/-- A write of a register of CTLE. -/
def ctleRegWrite (who : Who) (a o : Nat) (v : Word) (s : State) : State :=
  let k := s.io.fld Reg.CTLE.SLOT_SEL 9 0
  let g := s.io.fld Reg.CTLE.GEN_SEL 8 0
  match o with
  | 0x000 => ctleCtrl who v s
  | 0x100 => slotCtl who k v s
  | 0x10C => slotSink who v s
  | 0x158 => slotInt who k false v s
  | 0x15C => slotInt who k true v s
  | 0x200 => genCtl who g v s
  | 0x204 => genGoal who g v s
  | 0x208 => genLimits who g 0 v s
  | 0x20C => genLimits who g 1 v s
  | 0x210 => genLimits who g 2 v s
  | _ => if 0x120 ≤ o ∧ o ≤ 0x140 then slotShadow who k ((o - 0x120) / 4) v s else plainWrite who a v s

/-- A write of a register of ALLOC. -/
def allocRegWrite (who : Who) (a o : Nat) (v : Word) (s : State) : State :=
  match o with
  | 0x00 => allocCtrl who v s
  | 0x1C => s.onAlloc (matrixWrite who v)
  | 0x24 => s.onAlloc (routeClr who v)
  | 0x30 => modelCtl who v s
  | 0x3C => s.onAlloc (modelData who true v)
  | _ =>
    if 0x5000 ≤ o ∧ o < 0x5100 then srcLimit who a 5 ((o - 0x5000) / 4) v s
    else if 0x5100 ≤ o ∧ o < 0x5200 then srcLimit who a 6 ((o - 0x5100) / 4) v s
    else plainWrite who a v s

/-- A write of a register of PNT. -/
def pntRegWrite (who : Who) (a o : Nat) (v : Word) (s : State) : State :=
  match o with
  | 0x000 => pntCtrl who v s
  | 0x118 =>
    if 1 ≤ bits v 7 0 ∧ bits v 7 0 ≤ 6 then pntCmd who (bits v 7 0) s else granted who a v (fun t => t.onIo fun io => io.accessAt 2 who a v.toNat) s
  | 0x140 => s.onIo (rdIdxWrite who v.toNat s.pnt)
  | 0x180 => s.onPnt (profSelWrite who v)
  | 0x1C0 => s.onPnt (sprofSelWrite who v)
  | 0x240 => s.onIo (nodeSelWrite who v.toNat s.pnt)
  | _ => plainWrite who a v s

/-- A write of a register of the power-and-analog die's load switches. -/
def lswRegWrite (who : Who) (a o : Nat) (v : Word) (s : State) : State :=
  if o = 0 then lswCtrl who v s
  else if 0x100 ≤ o ∧ o < 0x700 ∧ (o - 0x100) % 0x40 = 0x0C then chDuty who ((o - 0x100) / 0x40) v s
  else if 0x100 ≤ o ∧ o < 0x700 ∧ (o - 0x100) % 0x40 = 0x14 then chStat who ((o - 0x100) / 0x40) v s
  else settle (plainWrite who a v s)

/-- A write of a register of a regulator. -/
def cotRegWrite (who : Who) (a o : Nat) (v : Word) (s : State) : State :=
  match o with
  | 0x100 => s.onPow (cotCtlWrite who 0 v)
  | 0x180 => s.onPow (cotCtlWrite who 1 v)
  | 0x104 => s.onPow (vsetWrite who 0 v)
  | 0x184 => s.onPow (vsetWrite who 1 v)
  | _ => plainWrite who a v s

/-- A write of any register; one that R20 does not grant is discarded (R21). Assumption log: 13 (DESIGN CHOICE), 18 (DEDUCED). -/
def regWrite (who : Who) (a : Nat) (v : Word) (s : State) : State :=
  match blockAt a with
  | none => plainWrite who a v s
  | some (b, n, o) =>
    if (regDesc a).isNone then plainWrite who a v s
    else if !mayWrite who a then s.onIo fun io => io.accessAt 1 who a v.toNat
    else match o with
    | 0x90 => errStat who a v s
    | 0xA4 => errPop who a v s
    | 0xA8 => errAck who a v s
    | _ =>
      match b with
      | .sys => if o = 0x14 then rstCtl who v s else if o = 0x18 then wdtCtl who v s else if o = 0x1C then wdtKick who v s
        else plainWrite who a v s
      | .cfg => if o = 0x24 then flCmd who (bits v 7 0) s else plainWrite who a v s
      | .aon => if o = 0x20 then granted who a v (quietWrite who v) s else plainWrite who a v s
      | .que => queRegWrite who a o v s
      | .spm => if 0x100 ≤ o ∧ o < 0x180 then bankCfg who ((o - 0x100) / 4) v s else plainWrite who a v s
      | .alloc => allocRegWrite who a o v s
      | .lease => if o = 0 then leaseCtrl who v s else if o = 0x40 then leaseTblSel who v s else plainWrite who a v s
      | .ctle => ctleRegWrite who a o v s
      | .thrm =>
        if o = 0x200 then circCtl who (s.io.fld Reg.THRM.CIRC_SEL 5 0) v s
        else if 0x100 ≤ o ∧ o < 0x1C0 then obsWrite who a v s
        else settle (plainWrite who a v s)
      | .pnt => pntRegWrite who a o v s
      | .xcr =>
        let f := s.sensed
        if o = 0x40 then certChoose who v s else if o = 0x44 then certWord who v s
        else if o = 0x48 then certCtl who v (Config.freeBool f.1) f.2 else plainWrite who a v s
      | .fab => if o = 0 then fabCtrl who v s else if o = 0x60 then s.onIo (fabNodeSel (s.guardAt a) who v)
        else plainWrite who a v s
      | .can => canRegWrite who n a o v s
      | .spn =>
        if o = 0 then spnCtl who v [] s else if o = 0x100 then s.onIo (nbrSel (s.guardAt a) who v s.spn)
        else if o = 0x140 then s.onIo (rtSel (s.guardAt a) who v s.spn) else plainWrite who a v s
      | .host => if o = 0x24 then s.onNet (hostOut who v) else plainWrite who a v s
      | .mtr =>
        if o = 0x100 then mtrMbx who (bits v 7 0) s
        else if 0x600 ≤ o ∧ o < 0x700 ∧ o % 0x20 < 0x14 then calWord who ((o - 0x600) / 0x20) (o % 0x20 / 4) v s
        else plainWrite who a v s
      | .hlm => if o = 0x400 then hlmMbx who (bits v 7 0) s else plainWrite who a v s
      | .gnt => if o = 0x28 then ackWrite who v s else plainWrite who a v s
      | .mir => if o = 0 then mirCtrl who v s else plainWrite who a v s
      | .lsw => lswRegWrite who a o v s
      | .cot => cotRegWrite who a o v s
      | .drc | .sess | .t1s => plainWrite who a v s

/-- A read of a register to which nothing but its fields' types apply (R10, R13, R20); `ev`: what the same cycle brings. -/
def plainRead (who : Who) (a ev : Nat) (s : State) : State := s.onIo fun io => io.read s.view who a ev

/-- A read of any register; one that R20 does not grant returns zero (R21). -/
def regRead (who : Who) (a ev : Nat) (s : State) : State :=
  match blockAt a with
  | none => plainRead who a ev s
  | some (b, n, o) =>
    if (regDesc a).isNone then plainRead who a ev s
    else if !mayRead who a then s.onIo fun io => { io.accessAt 1 who a 0 with bus := 0 }
    else if 0xAC ≤ o ∧ o ≤ 0xB4 then errCnt who a ev s
    else match b with
    | .que =>
      if 0x100 ≤ o ∧ o < 0x500 then
        let q := (o - 0x100) / 0x40
        match (o - 0x100) % 0x40 with
        | 0x0C => queueReserve who q s
        | 0x14 => queueDrain who q false s
        | 0x2C => queueCnt who q false ev s
        | 0x30 => queueCnt who q true ev s
        | _ => plainRead who a ev s
      else plainRead who a ev s
    | .alloc => if o = 0x3C then s.onAlloc (modelData who false 0) else plainRead who a ev s
    | .can =>
      let s1 := plainRead who a ev s
      if o = 0x314 ∧ mayRead who a = true then { s1 with net := canRxRead n s1.net } else s1
    | .sys | .cfg | .spm | .drc | .lease | .ctle | .thrm | .pnt | .sess | .xcr | .fab | .t1s | .spn | .host | .mtr | .hlm | .gnt
    | .mir | .lsw | .cot | .aon => plainRead who a ev s

end State
end Sys2Proof.Machine
end

