-- ==== Sys2Proof/Machine/ExAlloc.lean ====
section
/-! DEFINITION. Sys2Proof/Machine/ExAlloc.lean: commands of chapter 02: the model, prices, shedding, routing. -/
namespace Sys2Proof.Machine

/-- MODEL_SWAP (R50): MODEL_CTL.SWAP is set. -/
def execModelSwap (who : Who) (s : State) : Out := onLogic (State.modelCtl who 1) s

/-- MODEL_SWAP_EFFECT (R51): at the start of step 5 of the tick that site time has reached. -/
def execModelSwapEffect (s : State) : Out :=
  onLogic (fun t => if t.io.active then t.onAlloc (modelSwapEffect (t.tickNum * tickNs)) else t) s

/-- MODEL_DATA_ACCESS (R52). -/
def execModelDataAccess (who : Who) (write : Bool) (v : Word) (s : State) : Out :=
  onLogic (fun t => t.onAlloc (modelData who write v)) s

/-- PRICE_COLD_RESET (R62): CTRL.COLD is written. -/
def execPriceColdReset (who : Who) (s : State) : Out := onLogic (State.granted who Reg.ALLOC.CTRL 0x100 State.priceCold) s

/-- SHED_HOLD_EXPIRY (R68). -/
def execShedHoldExpiry (d : Nat) (s : State) : Out :=
  onLogic (fun t => if t.io.active then { t with alloc := shedHoldExpiry d t.alloc t.io } else t) s

/-- ROUTING_PASS (R74): the dispensers that SESS last published with a session are served. -/
def execRoutingPass (s : State) : Out :=
  onLogic (fun t => t.onAlloc (routePass t.io.active fun d => (Tbl.get t.sess.pub none d).elim false Pub.sess)) s

/-- ROUTE_REPORT (R84). -/
def execRouteReport (m : AtkMsg) (s : State) : Out := onLogic (State.msgRow 8 (some 3) State.routeIn m) s

/-- CLOSE_TIMEOUT (R76). -/
def execCloseTimeout (c : Nat) (s : State) : Out := onLogic (fun t => t.onAlloc (closeTimeout t.io.active c)) s

/-- DRAIN_TIMEOUT (R76). -/
def execDrainTimeout (c : Nat) (s : State) : Out := onLogic (fun t => t.onAlloc (drainTimeout t.io.active c)) s

/-- OPEN_TIMEOUT (R76). -/
def execOpenTimeout (c : Nat) (s : State) : Out := onLogic (fun t => t.onAlloc (openTimeout t.io.active c)) s

/-- QUERY_TIMEOUT (R79). -/
def execQueryTimeout (c : Nat) (s : State) : Out := onLogic (fun t => t.onAlloc (queryTimeout t.io.active c)) s

/-- ROUTE_CLR (R76). -/
def execRouteClr (who : Who) (v : Word) (s : State) : Out := onLogic (fun t => t.onAlloc (routeClr who v)) s

/-- MATRIX_ID_WRITE (R82). -/
def execMatrixIdWrite (who : Who) (v : Word) (s : State) : Out := onLogic (fun t => t.onAlloc (matrixWrite who v)) s

/-- CAB_STATUS (R328). -/
def execCabStatus (m : AtkMsg) (s : State) : Out := onLogic (State.msgRow 8 (some 2) State.cabIn m) s

end Sys2Proof.Machine
end

