-- ==== Sys2Proof/Machine/Image.lean ====
section
/-! DEFINITION. Sys2Proof/Machine/Image.lean: the configuration image in the boot flash (R649 to R655): its layout, its directory,
its sections, and the checks that need nothing but its bytes. -/
namespace Sys2Proof.Machine

/-- MiB in bytes. Assumption log: 180 (DESIGN CHOICE). -/
def mib : Nat := 0x100000

/-- The required tags of R652. -/
def tagsRequired : List Nat := [1, 2, 3, 0x10, 0x18, 0x19, 0x1A]

/-- The tags of R652. -/
def tagKnown (t : Nat) : Bool := (tagsRequired ++ [0x11, 0x12, 0x13, 0x14, 0x15, 0x16, 0x17]).contains t || decide (0x8000 ≤ t)

/-- The bytes from `o` up in a run of zeros. -/
def zeroRun (p : List Byte) (o n : Nat) : Bool := ((p.drop o).take n).all (· == 0)

/-- R649 for the 32 bytes of a header. -/
def headerOk (h : List Byte) : Bool :=
  u32 h 0 == 0x4E425947 && u16 h 4 == 1 && decide (7 ≤ u16 h 6) && decide (u16 h 6 ≤ 32) && u32 h 8 != 0 && u32 h 12 % 8 == 0
    && zeroRun h 24 8

/-- The next multiple of eight. -/
def up8 (n : Nat) : Nat := (n + 7) / 8 * 8

/-- One candidate per 1 MiB boundary (R644): base and IMAGE_SEQ. Assumption log: 180 (DESIGN CHOICE). -/
def candidates (flash : Tbl Byte) (bad : List Nat) : List (Nat × Nat) :=
  (List.range 64).filterMap fun i =>
    let h := memRead flash 0xFF (i * mib) 32
    if headerOk h && decide (i * mib + u32 h 12 ≤ 64 * mib) && !bad.contains (u32 h 8) then some (i * mib, u32 h 8) else none

def insertSeq (x : Nat × Nat) : List (Nat × Nat) → List (Nat × Nat)
  | [] => [x]
  | y :: r => if y.2 < x.2 then x :: y :: r else y :: insertSeq x r

/-- The candidates in descending IMAGE_SEQ. Assumption log: 181 (DEDUCED). -/
def trialOrder (l : List (Nat × Nat)) : List (Nat × Nat) := l.foldl (fun r x => insertSeq x r) []

/-- The directory of the image at `base`: tag and offset, none where an entry's bytes break R649. -/
def directory (flash : Tbl Byte) (base : Nat) : Option (List (Nat × Nat)) :=
  let n := u16 (memRead flash 0xFF (base + 6) 2) 0
  let es := (List.range n).map fun i => memRead flash 0xFF (base + 32 + 8 * i) 8
  if es.all fun e => u16 e 2 == 0 && u32 e 4 % 8 == 0 then some (es.map fun e => (u16 e 0, u32 e 4)) else none

/-- The section that a directory entry names. One that runs past the image has no payload here. -/
def sectAt (flash : Tbl Byte) (base len : Nat) (e : Nat × Nat) : Sect :=
  let h := memRead flash 0xFF (base + e.2) 96
  let n := u32 h 8
  let stop := e.2 + 96 + up8 n + 120
  let body := if stop ≤ len then memRead flash 0xFF (base + e.2 + 96) n else []
  ⟨e.1, e.2, h, body, stop, (memRead flash 0xFF (base + e.2 + 96 + n) (up8 n - n)).all (· == 0)
      && (memRead flash 0xFF (base + stop - 6) 6).all (· == 0)⟩

def Sect.flags (x : Sect) : Nat := u16 x.head 2
def Sect.owner (x : Sect) : Nat := u8 x.head 4
def Sect.svn (x : Sect) : Nat := u16 x.head 6
def Sect.id (x : Sect) : Nat := u64 x.head 16
def Sect.load (x : Sect) : Nat := u64 x.head 24
def Sect.pub (x : Sect) : List Byte := (x.head.drop 32).take 57

/-- R650: the first field of a section that breaks its layout, by its offset. -/
def Sect.layout (x : Sect) (len : Nat) : Option Nat :=
  if len < x.stop then some 8
  else if u16 x.head 0 ≠ x.dir then some 0
  else if 1 < x.flags then some 2
  else if 3 < x.owner then some 4
  else if u8 x.head 5 ≠ 0 then some 5
  else if 64 < x.svn then some 6
  else if 3 < x.dir ∧ x.load ≠ 0 then some 24
  else if zeroRun x.head 89 7 = false then some 89
  else if x.tail = false then some (96 + u32 x.head 8)
  else none

/-- Two sections share a byte. -/
def overlapping : List Sect → Bool
  | [] => false
  | x :: r => (r.any fun y => decide (x.start < y.stop) && decide (y.start < x.stop)) || overlapping r

/-- R653: the records of an RLIST that starts at offset `o` of its section, or the offset of the first byte that breaks its
layout. -/
def rlist : Nat → Nat → List Byte → List RRec → Except Nat (List RRec)
  | 0, o, _, _ => .error o
  | _ + 1, _, [], acc => .ok acc.reverse
  | k + 1, o, p, acc =>
    let n := u16 p 8
    let size := 16 + up8 (4 * n)
    if p.length < size then .error o
    else if u64 p 0 % 4 ≠ 0 ∨ 2 ^ 40 ≤ u64 p 0 then .error o
    else if n < 1 ∨ 4096 < n then .error (o + 8)
    else if 1 < u16 p 10 then .error (o + 10)
    else if u32 p 12 ≠ 0 then .error (o + 12)
    else if zeroRun p (16 + 4 * n) (up8 (4 * n) - 4 * n) = false then .error (o + 16 + 4 * n)
    else rlist k (o + size) (p.drop size)
      (⟨o, u64 p 0, u16 p 10 == 1, (List.range n).map fun i => w32 (u32 p (16 + 4 * i))⟩ :: acc)

/-- The RLIST in a section's payload from byte `skip` on. -/
def Sect.records (x : Sect) (skip : Nat) : Except Nat (List RRec) :=
  let p := x.body.drop skip
  rlist (p.length / 16 + 2) (96 + skip) p []

/-- R654: whether a section may address a register. -/
def windowOk (tag a : Nat) : Bool :=
  match blockAt a with
  | none => false
  | some (b, _, o) =>
    match tag with
    | 0x14 => b == .fab || b == .t1s || b == .can || b == .spn || (b == .host && (o == 0x40 || o == 0x44 || o == 0x48))
    | 0x15 => b == .lsw || b == .cot || (b == .thrm && (o == 0x44 || (decide (0x200 ≤ o) && decide (o < 0x300))))
    | 0x16 => (b == .alloc && o != 0x38 && o != 0x3C) || b == .lease || b == .ctle
    | 0x17 => b == .sess || b == .xcr
    | 0x18 => b == .gnt
    | 0x1A => (b == .sys && o == 0x18) || b == .que || b == .spm || b == .drc
        || (b == .pnt && [a == Reg.PNT.CTRL, a == Reg.PNT.CFG, a == Reg.PNT.SWEEP_CFG, a == Reg.PNT.Q5_CFG].any id)
        || (o == 0x84 && b != .mtr && b != .hlm && b != .gnt)
    | _ => false

/-- The bytes of a payload as a table. -/
def tblOf (p : List Byte) : Tbl Byte := memWrite [] 0 0 p

/-- R3 for a model's counts. -/
def modelFits (m : Tbl Byte) : Bool :=
  decide (nNode m ≤ 512) && decide (nSrc m ≤ 64) && decide (nCab m ≤ 768) && decide (nDisp m ≤ 256)

/-- R399 and R400 for a LEGAL_PARAM payload, and the size of the PROFILE archive region (R655). Assumption log: 188 (DEDUCED). -/
def legalOk (p : List Byte) : Bool :=
  let pts := (List.range 8).map fun k => 0x40 + 16 * k
  let chs := (List.range 256).map fun k => 0xC0 + 16 * k
  let masks := pts.map fun o => u8 p o
  p.length == 0x10C0 && s32 p 4 % 900 == 0 && decide (-43200 ≤ s32 p 4) && decide (s32 p 4 ≤ 50400) && decide (u16 p 8 ≤ 255)
    && decide (200 ≤ u16 p 0xA) && decide (u16 p 0xA ≤ 60000) && decide (1 ≤ u32 p 0xC) && decide (u32 p 0xC ≤ 600000)
    && decide (u32 p 0xC ≤ u32 p 0x10) && decide (100 ≤ u16 p 0x14) && decide (u16 p 0x14 ≤ 2000) && zeroRun p 0x19 7
    && (List.range 4).all (fun k => u32 p (0x24 + 8 * k) % 8 == 0)
    && pts.all (fun o => decide (u8 p (o + 1) ≤ 1) && zeroRun p (o + 2) 2 && zeroRun p (o + 8) 8)
    && chs.all (fun o => decide (u8 p (o + 2) ≤ 1) && zeroRun p (o + 3) 1 && decide (0x2000 ≤ u16 p o) && decide (u16 p o ≤ 0x7FFF)
        && decide (1 ≤ u32 p (o + 4)) && decide (u32 p (o + 4) ≤ 3750000))
    && (List.range 8).all (fun e => decide ((masks.filter fun x => bitsN x e e == 1).length ≤ 1))
    && pts.all (fun o => if u8 p (o + 1) = 0 then u8 p o != 0
        else decide (((List.range 8).map fun e => bitsN (u8 p o) e e).foldl (· + ·) 0 ≤ 1))
    && decide (264 * 402 ≤ u32 p 0x24 / 8)

/-- A node table entry of the NETWORK section: words 0 to 5 of FAB.NODE_WIN. -/
def nodeEntry (p : List Byte) (o : Nat) : NodeEnt :=
  let w := u32 p (o + 4)
  let v6 := bitsN w 22 22 == 1
  let word := fun i => u32 p (o + 8 + 4 * i)
  ⟨u16 p o, bitsN w 31 28, bitsN w 27 24, bitsN w 23 23 == 1, v6, bitsN w 5 0,
    if v6 then word 0 + word 1 * 2 ^ 32 + word 2 * 2 ^ 64 + word 3 * 2 ^ 96 else word 0, if v6 then 0 else word 3 % 65536⟩

/-- The NETWORK section's node table: at most 8192 entries, LEARNED 0. -/
def nodeTableOk (p : List Byte) : Bool :=
  let n := u16 p 0
  decide (n ≤ 8192) && zeroRun p 2 6 && decide (8 + 24 * n ≤ p.length)
    && (List.range n).all fun i => bitsN (u32 p (8 + 24 * i + 4)) 23 23 == 0

/-- R503 and R522 for the SAFETY registers as loaded: dispensers and pairs, feedback inputs, paired inputs. -/
def safetyOk (io : Io) : Bool :=
  let fbs := (List.range 32).filter fun p => io.flag (Reg.GNT.OUT_CFG p) 29
  let fbIn := fun p => io.fld (Reg.GNT.OUT_CFG p) 28 24
  (List.range 256).all (fun d => !dispEn io d || pairEn io (dispPair io d))
    && fbs.all (fun p => inUseOf io (fbIn p) == 1)
    && decide ((fbs.map fbIn).eraseDups.length = fbs.length)
    && (List.range 32).all fun n => !io.flag (Reg.GNT.IN_CFG n) 27
        || (n % 2 == 0 && inUseOf io n == inUseOf io (n + 1) && io.flag (Reg.GNT.IN_CFG n) 26 == io.flag (Reg.GNT.IN_CFG (n + 1)) 26
            && io.reg (Reg.GNT.IN_MASK n) == io.reg (Reg.GNT.IN_MASK (n + 1)))

/-- R522. -/
def periodsMatch (io : Io) : Bool :=
  (List.range 256).all fun d => !dispEn io d || dispPeriod io d == io.fld (Reg.SESS.DCTL d) 19 16

end Sys2Proof.Machine
end

