-- ==== Sys2Proof/Machine/Boot.lean ====
section
/-! DEFINITION. Sys2Proof/Machine/Boot.lean: the boot ROM, the trusted boot, the rejection of an image, tamper events by phase
(R470, R495, R642 to R657). -/
namespace Sys2Proof.Machine

/-- A step of loading an image: the state so far, or why the image is rejected, with the state it leaves. -/
abbrev Load := State × Option Rej

/-- The next step, where none has failed. -/
def Load.andThen (x : Load) (f : State → Load) : Load :=
  match x.2 with
  | some _ => x
  | none => f x.1

/-- A check. -/
def Load.check (ok : Bool) (r : Rej) (s : State) : Load := (s, if ok then none else some r)

/-- The first failure of a list of checks. -/
def firstRej (l : List (Bool × Rej)) : Option Rej := (l.find? fun c => !c.1).map Prod.snd

namespace State

/-- The entries of AON.BOOT_BAD. -/
def bootBad (s : State) : List Nat := ((idx 4).map fun i => (s.io.reg (Reg.AON.BOOT_BAD i)).toNat).filter (· ≠ 0)

/-- An IMAGE_SEQ is added to BOOT_BAD: to a free entry; the spec does not say which entry gives way where none is free.
Assumption log: 182 (DESIGN CHOICE). -/
def addBad (seq : Nat) (s : State) : State :=
  if s.bootBad.contains seq then s
  else
    let i := ((idx 4).find? fun i => s.io.reg (Reg.AON.BOOT_BAD i) == 0).getD (Config.freeNat s.io.free % 4)
    { s with io := { s.io with free := s.io.free + 1 }.setReg (Reg.AON.BOOT_BAD i) (w32 seq) }

/-- R656: the image is rejected, the part resets warm. The spec does not say which section or byte is reported where none is at
fault. Assumption log: 183 (DESIGN CHOICE). -/
def reject (seq : Nat) (r : Rej) (s : State) : State :=
  let f := s.io.free
  let s1 := { s with io := { s.io with free := f + 2 } }
  let io1 := (s1.io.setReg Reg.CFG.REJ (w32 (r.code * 2 ^ 24 + r.tag.getD (Config.freeNat f) % 65536))).setReg Reg.CFG.REJ_OFS
    (w32 (r.ofs.getD (Config.freeNat (f + 1))))
  let s2 := doReset .warm .imageRej (addBad seq { s1 with io := io1 })
  { s2 with io := s2.io.evt 0x40000000 3, boot := { s2.boot with chosen := false } }

/-- The end of a load: rejected, or as it is. -/
def settleLoad (seq : Nat) (x : Load) : State :=
  match x.2 with
  | some r => reject seq r x.1
  | none => x.1

/-! Verification (R476 to R479). -/

/-- The rollback counter of a section. -/
def counter (h : HlmSt) (tag : Nat) : Nat :=
  match tag with
  | 1 => h.svnT
  | 3 => h.svnU
  | _ => h.svnC

/-- Its place among the counters that wait for the first commit. -/
def counterPlace (tag : Nat) : Nat :=
  match tag with
  | 1 => 0
  | 3 => 1
  | _ => 2

/-- R476, R477, and the binding of the section to the image. -/
def sectChecks (h : HlmSt) (id : Nat) (sigOk : Bool) (x : Sect) : List (Bool × Rej) :=
  let r := fun (code ofs : Nat) => (⟨code, some x.dir, some ofs⟩ : Rej)
  let slot := x.owner
  [(x.id == id, r 2 16),
   (bitsN h.prog slot slot == 1 && bitsN h.revoked slot slot == 0 && hash32 x.pub == Tbl.get h.owners [] slot, r 3 4),
   (sigOk, r 4 (x.stop - x.start - 120)),
   (decide (counter h x.dir ≤ x.svn), r 5 6)]

/-- R479: the SVN waits for the first commit. -/
def svnNote (x : Sect) (s : State) : State :=
  if x.flags = 1 ∧ counter s.hlm x.dir < x.svn then
    { s with hlm := { s.hlm with svnPend := Tbl.upd s.hlm.svnPend 0 (counterPlace x.dir) fun v => max v x.svn } }
  else s

/-- R478: eight words of HLM.MEAS. Assumption log: 185 (DESIGN CHOICE). -/
def setMeas (place : Nat) (b : Nat → Byte) (s : State) : State :=
  { s with io := (idx 8).foldl (fun (io : Io) i =>
      io.setReg (Reg.HLM.MEAS (8 * place + i)) (w32 (u32 ((List.range 4).map fun j => b (4 * i + j)) 0))) s.io }

/-! The boot ROM. -/

/-- R470: steps 2 to 4 of an interrupted transition. -/
def resumeWipe (s : State) : State :=
  if s.hlm.wipeDone then s
  else
    let s1 := s.onHlm fun t =>
      let u := eraseOp t
      ({ u.1 with ident := if u.1.returned then none else u.1.ident, sram := [], wipeDone := true }, u.2)
    { s1 with mem := { s1.mem with spm := [], dram := [], dramBad := [] } }

/-- R644, R645, R647: the first candidate that may be tried, its base and IMAGE_SEQ. -/
def select : List (Nat × Nat) → State → State × Option (Nat × Nat)
  | [], s => ({ s with boot := { s.boot with rescan := some (s.boot.rtc + 10 * sec) } }, none)
  | (base, seq) :: r, s =>
    if s.io.reg Reg.AON.BOOT_SEQ = w32 seq then
      let n := s.io.fld Reg.AON.BOOT_TRY 1 0 + 1
      if 3 < n then select r (addBad seq s) else ({ s with io := s.io.setReg Reg.AON.BOOT_TRY (w32 n) }, some (base, seq))
    else ({ s with io := (s.io.setReg Reg.AON.BOOT_SEQ (w32 seq)).setReg Reg.AON.BOOT_TRY 1 }, some (base, seq))

/-- IMAGE_LEN, IMAGE_SEQ and IMAGE_ID of the image at `base`. -/
def imageLen (s : State) (base : Nat) : Nat := u32 (memRead s.mem.flash 0xFF (base + 12) 4) 0
def imageSeq (s : State) (base : Nat) : Nat := u32 (memRead s.mem.flash 0xFF (base + 8) 4) 0
def imageId (s : State) (base : Nat) : Nat := u64 (memRead s.mem.flash 0xFF (base + 16) 8) 0

/-- The codes of TRUSTED: their lengths fill the payload (R652) and fit their memories (R19, R655). -/
def trustedChecks (x : Sect) : List (Bool × Rej) :=
  [(decide (16 ≤ x.body.length) && x.body.length == 16 + u32 x.body 0 + u32 x.body 4, ⟨1, some 1, some 96⟩),
   (decide (u32 x.body 0 ≤ 768 * 1024), ⟨6, some 1, some 96⟩), (decide (u32 x.body 4 ≤ 256 * 1024), ⟨6, some 1, some 100⟩)]

/-- Steps 3 to 5 of R657 for the image at `base`: TRUSTED is found, verified and started. Assumption log: 192 (DESIGN CHOICE). -/
def startTrusted (sigOk : Bool) (base : Nat) (s : State) : Load :=
  let len := s.imageLen base
  match directory s.mem.flash base with
  | none => (s, some ⟨1, none, none⟩)
  | some d =>
    match d.find? fun e => e.1 == 1 with
    | none => (s, some ⟨1, none, none⟩)
    | some e =>
      let x := sectAt s.mem.flash base len e
      match x.layout len with
      | some o => (s, some ⟨1, some 1, some o⟩)
      | none =>
        match firstRej (sectChecks s.hlm (s.imageId base) sigOk x ++ trustedChecks x) with
        | some r => (s, some r)
        | none =>
          let s1 := setMeas 0 (Config.shake x.body) (svnNote x s)
          let io1 := (s1.io.setFld Reg.SYS.BOOT_STAT 31 28 1).setFld Reg.SYS.BOOT_STAT 21 16 (base / mib)
          ({ s1 with io := io1, boot := { s1.boot with chosen := true, base := base, len := len } }, none)

/-- BOOT_ROM: steps 3 to 5 of R657. While XSPI_EXT_N is low the flash is not read (R643). Assumption log: 189 (DEDUCED). -/
def bootRom (sigOk : Bool) (s : State) : State :=
  if s.live && !s.boot.chosen && s.boot.rescan.isNone && s.io.fld Reg.SYS.BOOT_STAT 31 28 == 0 then
    let s1 := deferredErase (resumeWipe s)
    let s2 := { s1 with hlm := { s1.hlm with sram := [] } }
    if s2.mem.extN then s2
    else
      let r := select (trialOrder (candidates s2.mem.flash s2.bootBad)) s2
      match r.2 with
      | none => r.1
      | some (base, seq) => settleLoad seq (startTrusted sigOk base r.1)
  else s

/-- BOOT_RESCAN (R647): BOOT_BAD is emptied, the boot ROM may scan again. Assumption log: 189 (DEDUCED). -/
def bootRescan (s : State) : State :=
  if s.boot.rescan.elim false fun t => decide (t ≤ s.boot.rtc) then
    { s with io := (idx 4).foldl (fun (io : Io) i => io.setReg (Reg.AON.BOOT_BAD i) 0) s.io,
             boot := { s.boot with rescan := none } }
  else s

/-! Records of an RLIST (R653, R654). -/

/-- Who writes a section's records. -/
def loader (tag : Nat) : Who := if tag = 0x18 then .gauntlet else .core 0

/-- A register of the I/O section that the part loads itself: HOLD_MS; CFG and LIM2 of a channel; CFG and LIM of a regulator, once
after a power-on reset and then while it is off (R618, R631, R632). The Boolean: the value is one that the register takes.
Assumption log: 187 (DEDUCED). -/
def ioLoad (a : Nat) (v : Word) (s : State) : Option (State × Bool) :=
  let all := fun _ : Guard => true
  if a = Reg.LSW.HOLD then some ({ s with io := s.io.setFld a 11 0 (bits v 11 0) }, decide (bits v 11 0 ≤ 2000))
  else if 0x40800100 ≤ a ∧ a < 0x40800700 ∧ (a % 0x40 = 0 ∨ a % 0x40 = 4) then
    let io1 := s.io.write all (.core 0) a v
    some ({ s with io := io1 }, io1.logs == s.io.logs)
  else if [Reg.COT.AUX_CFG, Reg.COT.AUX_LIM, Reg.COT.CORE_CFG, Reg.COT.CORE_LIM].contains a then
    let r := (a - 0x40810100) / 0x80
    if s.pow.loaded && s.io.flag (rg r 0) 31 then some (s, true)
    else
      let io1 := s.io.write all (.core 0) a v
      some ({ s with io := io1 }, io1.logs == s.io.logs)
  else none

/-- Whether the register takes no write at all. Assumption log: 186 (DEDUCED). -/
def takesNone (a : Nat) : Bool := (regDesc a).elim true fun d => d.fields.all fun f => f.ty == .ro || f.ty == .rc

/-- Whether an enabling bit that the image sets has stayed 0 (R135, R152, R206). Assumption log: 186 (DEDUCED). -/
def refusedEnable (a : Nat) (v : Word) (s : State) : Bool :=
  bit v 31 && ((a == 0x40120100 && !slotEn s.io (s.io.fld Reg.CTLE.SLOT_SEL 9 0))
    || (a == 0x40130200 && !s.io.flag (Reg.THRM.CCTL (s.io.fld Reg.THRM.CIRC_SEL 5 0)) 31))

/-- One word that an image writes; `ofs`: its place in the section. Assumption log: 186 (DEDUCED). -/
def imgWrite (tag ofs a : Nat) (v : Word) (s : State) : Load :=
  let r := fun code => (some ⟨code, some tag, some ofs⟩ : Option Rej)
  if windowOk tag a = false then (s, r 9)
  else match (if tag = 0x15 then ioLoad a v s else none) with
    | some x => (x.1, if x.2 then none else r 9)
    | none =>
      let t := regWrite (loader tag) a v s
      if takesNone a then (s, r 9)
      else if refusedEnable a v t then (t, r 8)
      else if t.io.logs = s.io.logs then (t, none)
      else (t, r (if tag = 0x18 then 8 else 9))

/-- The words of a record, in order. -/
def imgWords (tag : Nat) (x : RRec) : Nat → List Word → State → Load
  | _, [], s => (s, none)
  | i, v :: r, s =>
    (imgWrite tag (x.ofs + 16 + 4 * i) (if x.same then x.addr else x.addr + 4 * i) v s).andThen (imgWords tag x (i + 1) r)

def imgRecords (tag : Nat) : List RRec → State → Load
  | [], s => (s, none)
  | x :: r, s => (imgWords tag x 0 x.words s).andThen (imgRecords tag r)

/-- The RLIST of a section, from byte `skip` of its payload on. -/
def loadList (x : Sect) (skip : Nat) (s : State) : Load :=
  match x.records skip with
  | .error o => (s, some ⟨1, some x.dir, some o⟩)
  | .ok l => imgRecords x.dir l s

/-! Sections (steps 6 to 8 of R657). -/

/-- SECURITY: HLM.TMP_CFG (R492). -/
def loadSecurity (x : Sect) (s : State) : Load :=
  if x.body.length = 8 ∧ u32 x.body 4 = 0 then
    let v := u32 x.body 0
    ({ s with io := s.io.setReg Reg.HLM.TMP_CFG (w32 (bitsN v 20 16 * 2 ^ 16 + bitsN v 9 0)) }, none)
  else (s, some ⟨1, some x.dir, some 100⟩)

/-- SYSTEM: MIR.CFG, then an RLIST. -/
def loadSystem (x : Sect) (s : State) : Load :=
  if 8 ≤ x.body.length ∧ u32 x.body 4 = 0 then
    loadList x 8 { s with io := s.io.setReg Reg.MIR.CFG (w32 (u32 x.body 0 % 65536)) }
  else (s, some ⟨1, some x.dir, some 100⟩)

/-- SAFETY (R502, R503). -/
def loadSafety (x : Sect) (s : State) : Load :=
  (loadList x 0 s).andThen fun t => Load.check (safetyOk t.io) ⟨8, some x.dir, none⟩ t

/-- SITE_MODEL, into both copies (R22, R23, R49, R702). -/
def loadModel (x : Sect) (s : State) : Load :=
  let m := tblOf x.body
  match firstRej [(x.body.length == 0x28000, ⟨1, some x.dir, some 8⟩), (modelFits m, ⟨7, some x.dir, none⟩),
      (modelCode m == 0, ⟨8, some x.dir, none⟩)] with
  | some r => (s, some r)
  | none => ({ s with alloc := { s.alloc with model := m, modelP := m } }, none)

/-- THERMAL: the plausibility words and 512 observer records (R187, R188). -/
def loadThermal (x : Sect) (s : State) : Load :=
  let p := x.body
  if p.length = 32 + 512 * 192 ∧ zeroRun p 12 20 = true then
    let io1 := ((s.io.setReg Reg.THRM.PLAUS0 (w32 (u32 p 0))).setReg Reg.THRM.PLAUS1 (w32 (u32 p 4))).setReg Reg.THRM.PLAUS2 (w32 (u32 p 8))
    let io2 := (List.range 512).foldl (fun (io : Io) o =>
      (List.range 48).foldl (fun (io : Io) i => io.setReg (bankKey (0x40130100 + 4 * i) o) (w32 (u32 p (32 + 192 * o + 4 * i)))) io) io1
    Load.check ((enabledObs io2).all (obsRecordOk io2)) ⟨8, some x.dir, none⟩ { s with io := io2 }
  else (s, some ⟨1, some x.dir, some 8⟩)

/-- The time that Sepia takes from the RTC (R417): none where VBAT was lost. Assumption log: 190 (DEDUCED). -/
def rtcTime (ev : BootEv) (s : State) : Option Int := s.boot.rtcL.map fun x => x.2 + ((s.boot.rtc - x.1 : Nat) : Int) + ev.rtcErr

/-- CHECK (R450), and Sepia's start with the legal-parameter section (R417, R436, R439). Where Sepia has gone on without a
break, it goes on. Assumption log: 190 (DEDUCED). -/
def startSepia (ev : BootEv) (lp : List Byte) (s : State) : State :=
  let check := (List.range 8).map (Config.shake (s.boot.fw ++ lp))
  if s.mtr.running then { s with mtr := { s.mtr with check := check } }
  else
    let s1 := s.onMtr (mtrBoot (tblOf lp) check (s.rtcTime ev) s.boot.cut)
    meterKeySync { s1 with boot := { s1.boot with cut := false } }

/-- LEGAL_PARAM. Assumption log: 190 (DEDUCED). -/
def loadLegal (ev : BootEv) (x : Option Sect) (s : State) : Load :=
  match x with
  | none => (startSepia ev [] s, none)
  | some x =>
    if x.body.length ≠ 0x10C0 then (s, some ⟨1, some x.dir, some 8⟩)
    else if legalOk x.body = false then (s, some ⟨8, some x.dir, none⟩)
    else (startSepia ev x.body s, none)

/-- NETWORK: the node table, then an RLIST. -/
def loadNetwork (x : Sect) (s : State) : Load :=
  let n := u16 x.body 0
  if nodeTableOk x.body then
    let nodes := (List.range n).foldl (fun (t : Tbl NodeEnt) i => Tbl.set t NodeEnt.init i (nodeEntry x.body (8 + 24 * i))) s.io.nodes
    loadList x (8 + 24 * n) { s with io := { s.io with nodes := nodes } }
  else (s, some ⟨1, some x.dir, some 96⟩)

/-- IO: an RLIST; the load switches take their defaults once it is loaded (R618, R619). -/
def loadIo (x : Sect) (s : State) : Load := (loadList x 0 s).andThen fun t => (t.onPow (ioLoaded t.acting), none)

/-- SESSION, and R522. -/
def loadSession (x : Option Sect) (s : State) : Load :=
  (match x with
   | some x => loadList x 0 s
   | none => (s, none)).andThen fun t => Load.check (periodsMatch t.io) ⟨8, some 0x17, none⟩ t

/-- The commands of a POINT_MAP section (R223). -/
def pointCmds : Nat → List Byte → State → Load
  | _, [], s => (s, none)
  | 0, _, s => (s, none)
  | k + 1, p, s =>
    let r := pntExec (u8 p 0) ⟨u64 p 20, u32 p 4, u32 p 8, u32 p 12, u32 p 16⟩ s.pnt s.io
    if zeroRun p 1 3 && zeroRun p 28 4 && r.1.code == 0 then pointCmds k (p.drop 32) { s with pnt := r.2.1, io := r.2.2 }
    else (s, some ⟨8, some 0x12, none⟩)

/-- POINT_MAP: profiles, string profiles, commands (R223, R224, R262). Assumption log: 191 (DEDUCED). -/
def loadPoints (x : Sect) (s : State) : Load :=
  let p := x.body
  let np := u16 p 0
  let ns := u16 p 2
  let nc := u32 p 4
  if decide (np ≤ 4096) && decide (ns ≤ 256) && zeroRun p 8 8 && p.length == 16 + 32 * np + 48 * ns + 32 * nc then
    let prof := (List.range np).foldl (fun (t : Tbl (Option Prof)) i =>
      (profOfWords fun k => w32 (u32 p (16 + 32 * i + 4 * k))).elim t fun q => Tbl.set t none i (some q)) s.pnt.prof
    let sprof := (List.range ns).foldl (fun (t : Tbl (Option SProf)) i =>
      (sprofOfWords fun k => w32 (u32 p (16 + 32 * np + 48 * i + 4 * k))).elim t fun q => Tbl.set t none i (some q)) s.pnt.sprof
    pointCmds nc (p.drop (16 + 32 * np + 48 * ns)) { s with pnt := { s.pnt with prof := prof, sprof := sprof } }
  else (s, some ⟨1, some x.dir, some 96⟩)

/-- Where the copies of APP sections go: each at a 4 KiB boundary after the one before it (R652). -/
def appPlaces : Nat → List Sect → List (Nat × Sect)
  | _, [] => []
  | o, x :: r => let b := (o + 4095) / 4096 * 4096; (b, x) :: appPlaces (b + 96 + x.body.length) r

/-- The DRAM offset of UNTRUSTED. -/
def untrustedAt (x : Sect) : Nat := x.load - 0x100000000

/-- R19, R655: UNTRUSTED and the APP copies lie within 0x01_6800_0000 to 0x01_7FFF_FFFF. -/
def sizeChecks (u : Sect) (apps : List Sect) (sepia fw : Nat) : List (Bool × Rej) :=
  let o := untrustedAt u
  [(decide (sepia + fw ≤ 768 * 1024), ⟨6, some 2, some 8⟩),
   (decide (u.body.length ≤ 40 * mib), ⟨6, some 3, some 8⟩),
   (decide (0x168000000 ≤ u.load) && decide (u.load + u.body.length ≤ 0x180000000), ⟨6, some 3, some 24⟩)]
    ++ (appPlaces (o + u.body.length) apps).map fun e => (decide (e.1 + 96 + e.2.body.length ≤ 0x80000000), ⟨6, some e.2.dir, some 8⟩)

/-- Step 8: UNTRUSTED and the APP copies are placed. -/
def loadCode (u : Sect) (apps : List Sect) (s : State) : State :=
  let pl := appPlaces (untrustedAt u + u.body.length) apps
  let d := pl.foldl (fun (t : Tbl Byte) e => memWrite t 0 e.1 (e.2.head ++ e.2.body)) (memWrite s.mem.dram 0 (untrustedAt u) u.body)
  let io1 := (s.io.setReg Reg.CFG.APP_BASE (w32 ((pl.head?).elim 0 Prod.fst))).setReg Reg.CFG.APP_NUM (w32 pl.length)
  { s with mem := { s.mem with dram := d }, io := io1 }

/-- Step 9: route queries, observers, MIR. -/
def blocksStart (seq : Nat) (s : State) : State :=
  let io1 := (s.io.setReg Reg.CFG.IMG_SEQ (w32 seq)).setFld Reg.SYS.BOOT_STAT 31 28 3
  let s1 := { s with io := io1, boot := { s.boot with chosen := false } }
  settle ((if s1.io.active then placed s1 else s1).onMir mirStartup)

/-- An optional section. -/
def optional (x : Option Sect) (f : Sect → State → Load) (s : State) : Load :=
  match x with
  | some y => f y s
  | none => (s, none)

/-- Step 6 of R657 but for the loads: the layout of every section, then R477 in directory order. Assumption log: 184 (DEDUCED). -/
def verify (ev : BootEv) (base len : Nat) (xs : List Sect) (s : State) : Load :=
  let tags := xs.map Sect.dir
  let id := s.imageId base
  let layouts := xs.map fun x => ((x.layout len).isNone, (⟨1, some x.dir, x.layout len⟩ : Rej))
  let shape := [(tags.all tagKnown && decide (tags.eraseDups.length = tags.length) && tagsRequired.all tags.contains,
    (⟨1, none, none⟩ : Rej)), (!overlapping xs, ⟨1, none, none⟩)]
  let each := (xs.filter fun x => x.dir != 1).flatMap fun x => sectChecks s.hlm id (!ev.badSig.contains x.dir) x
  match firstRej (layouts ++ shape ++ each) with
  | some r => (s, some r)
  | none => ((xs.filter fun x => x.dir != 1).foldl (fun (t : State) x => svnNote x t) s, none)

/-- The sections of the image at `base`, and the steps 6 to 9 of R657 on them. Assumption log: 184 (DEDUCED). -/
def loadImage (ev : BootEv) (base len seq : Nat) (s : State) : Load :=
  match directory s.mem.flash base with
  | none => (s, some ⟨1, none, none⟩)
  | some d =>
    let xs := d.map (sectAt s.mem.flash base len)
    let get := fun t => xs.find? fun x => x.dir == t
    (verify ev base len xs { s with io := s.io.setFld Reg.SYS.BOOT_STAT 31 28 2 }).andThen fun s1 =>
      match get 1, get 2, get 3, get 0x10, get 0x18, get 0x19, get 0x1A with
      | some tr, some fw, some un, some mo, some sa, some se, some sy =>
        let apps := xs.filter fun x => decide (0x8000 ≤ x.dir)
        (match firstRej (sizeChecks un apps (u32 tr.body 0) fw.body.length) with
         | some r => (s1, some r)
         | none =>
           let conf := (xs.filter fun x => x.dir != 1 && x.dir != 3).map Sect.body
           let s2 := setMeas 2 (Config.confMeasure conf) (setMeas 1 (Config.shake un.body) s1)
           ((((((((((((loadSecurity se { s2 with boot := { s2.boot with fw := fw.body } }).andThen (loadSystem sy)).andThen
             (loadSafety sa)).andThen (loadModel mo)).andThen (optional (get 0x11) loadThermal)).andThen
             (loadLegal ev (get 0x13))).andThen (optional (get 0x14) loadNetwork)).andThen (optional (get 0x15) loadIo)).andThen
             (optional (get 0x16) fun x => loadList x 0)).andThen (loadSession (get 0x17))).andThen
             (optional (get 0x12) loadPoints)).andThen fun t => (blocksStart seq (loadCode un apps t), none)))
      | _, _, _, _, _, _, _ => (s1, some ⟨1, none, none⟩)

/-- TRUSTED_BOOT: steps 6 to 9 of R657 for the image that the boot ROM, or the wake, has chosen. Assumption log: 189 (DEDUCED). -/
def trustedBoot (ev : BootEv) (s : State) : State :=
  if s.live && s.boot.chosen && !s.mem.extN then
    let seq := s.imageSeq s.boot.base
    settleLoad seq (loadImage ev s.boot.base s.boot.len seq s)
  else s

/-- TAMPER_SENSED (R491, R495): during the verification of an image the erasure waits for the next start. Assumption log: 198 (DEDUCED). -/
def tamper (src : Nat) (s : State) : State :=
  let erases := (tamperLevel s.io src).elim false fun lv => lv == 1 || lv == 2
  let fresh := erases && !s.io.flag Reg.HLM.TMP_STAT src
  if s.live && s.boot.chosen then
    let r := tamperSensed src (!erases) (s.hlm, s.io)
    let s1 := { s with hlm := r.1.1, io := r.1.2 }
    if fresh then doReset .warm .warmTamper s1 else s1
  else
    let r := tamperSensed src s.live (s.hlm, s.io)
    let s1 := { s with hlm := r.1.1, io := r.1.2 }
    if r.2 then keysGone s1 else s1

end State
end Sys2Proof.Machine
end

