-- ==== Sys2Proof/Machine/ExRegs.lean ====
section
/-! DEFINITION. Sys2Proof/Machine/ExRegs.lean: commands of chapter 00 and 01: register accesses, the die's links, abandoned ticks. -/
namespace Sys2Proof.Machine

/-- An access that `who` makes: Sepia runs also in the quiet state. Assumption log: 3 (DESIGN CHOICE). -/
def onWho (who : Who) (f : State → State) (s : State) : Out := if who = .sepia then onSepia f s else onLogic f s

/-- R672, R673: whether an address lies in a region other than the register windows, or is that of a register. -/
def mappedAt (a : Nat) : Bool :=
  let a := a % 0x10000000000
  decide (a < 0x40000) || (decide (0x2000000 ≤ a) && decide (a < 0x2010000)) || (decide (0xC000000 ≤ a) && decide (a < 0x10000000))
    || (decide (0x10000000 ≤ a) && decide (a < 0x11000000)) || (decide (0x20000000 ≤ a) && decide (a < 0x20100000))
    || (decide (0x28000000 ≤ a) && decide (a < 0x28400000)) || (decide (0x100000000 ≤ a) && decide (a < 0x180000000))
    || (regDesc a).isSome

/-- REGISTER_WRITE (R6). -/
def execRegisterWrite (who : Who) (a : Nat) (v : Word) (s : State) : Out := onWho who (fun t => t.regWrite who a v) s

/-- LO_READ_LATCH (R13). -/
def execLoReadLatch (who : Who) (a : Nat) (s : State) : Out := onWho who (fun t => t.regRead who a 0) s

/-- UNMAPPED_ACCESS (R674). -/
def execUnmappedAccess (who : Who) (write : Bool) (a : Nat) (v : Word) (s : State) : Out :=
  onWho who (fun t =>
    if mappedAt a then t
    else if write then t.onIo fun io => io.unmapped who a v.toNat
    else t.onIo fun io => { io.unmapped who a 0 with bus := 0 }) s

/-- RC_FIELD_READ (R10). -/
def execRcFieldRead (who : Who) (a ev : Nat) (s : State) : Out := onWho who (fun t => t.regRead who a ev) s

/-- SAFETY_LANE_FRAME (R16). -/
def execSafetyLaneFrame (s : State) : Out := onLogic (State.gntAct laneFrame) s

/-- SAFETY_LANE_TIMEOUT (R17). -/
def execSafetyLaneTimeout (s : State) : Out := onDie (State.gntAct laneTimeout) s

/-- GENERAL_LINK_LOSS (R620). -/
def execGeneralLinkLoss (s : State) : Out := onDie (fun t => (t.onPow linkLoss).settle) s

/-- GENERAL_LINK_RETURN (R621). -/
def execGeneralLinkReturn (s : State) : Out := onDie (fun t => (t.onPow linkReturn).settle) s

/-- ALLOCATION_TICK (R31). -/
def execAllocationTick (ev : TickEv) (s : State) : Out := onLogic (State.tick ev) s

/-- TICK_ABANDON (R33). -/
def execTickAbandon (s : State) : Out := onLogic State.tickAbandon s

/-- RENEW_SUSPEND (R35). -/
def execRenewSuspend (s : State) : Out := onLogic State.suspend s

end Sys2Proof.Machine
end

