-- ==== Sys2Proof/Machine/ExBoot.lean ====
section
/-! DEFINITION. Sys2Proof/Machine/ExBoot.lean: commands of chapter 16: resets, clocks, boot, flash, the quiet state, the watchdog. -/
namespace Sys2Proof.Machine

/-- SUPPLY_SUPERVISOR_RESET (R678): the voltages that the supervisor sees. -/
def execSupplySupervisorReset (v : Rails) (s : State) : Out := onDie (State.supervise v) s

/-- POWER_ON_RESET (R666). -/
def execPowerOnReset (s : State) : Out := onDie (State.doReset .por .porSupply) s

/-- WARM_RESET (R666): by a cause of a warm reset. -/
def execWarmReset (cause : RstCause) (s : State) : Out :=
  onDie (fun t => if State.warmCause cause then t.doReset .warm cause else t) s

/-- SW_WARM_RESET (R666). -/
def execSwWarmReset (who : Who) (s : State) : Out := onWho who (State.rstCtl who 0xD1E50001) s

/-- SW_POWER_ON_RESET (R666). -/
def execSwPowerOnReset (who : Who) (s : State) : Out := onWho who (State.rstCtl who 0xD1E50002) s

/-- PLL_LOCK (R657). -/
def execPllLock (s : State) : Out := onDie State.pllLock s

/-- PLL_LOCK_LOSS (R660). -/
def execPllLockLoss (s : State) : Out := onDie State.pllLoss s

/-- BOOT_ROM (R657): `sigOk`: the signature of the trusted section verifies. -/
def execBootRom (sigOk : Bool) (s : State) : Out := onDie (State.bootRom sigOk) s

/-- BOOT_RESCAN (R647). -/
def execBootRescan (s : State) : Out := onDie State.bootRescan s

/-- TRUSTED_BOOT (R657). -/
def execTrustedBoot (ev : BootEv) (s : State) : Out := onDie (State.trustedBoot ev) s

/-- FLASH_READ (R642). -/
def execFlashRead (who : Who) (s : State) : Out := onWho who (State.flCmd who 1) s

/-- FLASH_PROGRAM (R648). -/
def execFlashProgram (who : Who) (s : State) : Out := onWho who (State.flCmd who 2) s

/-- FLASH_ERASE_4K (R648). -/
def execFlashErase4k (who : Who) (s : State) : Out := onWho who (State.flCmd who 3) s

/-- FLASH_ERASE_64K (R648). -/
def execFlashErase64k (who : Who) (s : State) : Out := onWho who (State.flCmd who 4) s

/-- FLASH_DONE (R642). -/
def execFlashDone (err : Bool) (s : State) : Out := onSepia (State.flDone err) s

/-- XSPI_EXT_N (R643). -/
def execXspiExtN (low : Bool) (s : State) : Out := onDie (fun t => { t with mem := { t.mem with extN := low } }) s

/-- QUIET_ENTER (R662). -/
def execQuietEnter (who : Who) (s : State) : Out := onWho who (State.quietEnter who) s

/-- QUIET_WAKE_RTC (R664). -/
def execQuietWakeRtc (s : State) : Out := onDie State.wakeRtc s

/-- QUIET_WAKE_PIN (R664): for how long WAKE_N has been low, ns. -/
def execQuietWakePin (lowNs : Nat) (s : State) : Out := onDie (State.wakePin lowNs) s

/-- QUIET_WAKE_NOW (R664). -/
def execQuietWakeNow (who : Who) (s : State) : Out := onWho who (State.wakeNow who) s

/-- WDT_KICK (R666). -/
def execWdtKick (who : Who) (v : Word) (s : State) : Out := onWho who (State.wdtKick who v) s

/-- WDT_WARN (R666). -/
def execWdtWarn (s : State) : Out := onLogic State.wdtWarn s

/-- WDT_EXPIRY (R666). -/
def execWdtExpiry (s : State) : Out := onLogic State.wdtExpiry s

end Sys2Proof.Machine
end

