-- ==== Sys2Proof/Machine/ExLease.lean ====
section
/-! DEFINITION. Sys2Proof/Machine/ExLease.lean: commands of chapter 03: LEASE and its holders. -/
namespace Sys2Proof.Machine

/-- LEASE_ACK (R109). -/
def execLeaseAck (m : AtkMsg) (s : State) : Out := onLogic (State.msgRow 2 none State.ackIn m) s

/-- ACK_TIMEOUT (R109). -/
def execAckTimeout (t : Nat) (s : State) : Out := onLogic (fun u => if u.io.active then u.onLease (ackTimeout t) else u) s

/-- HOLDOFF_END (R121). -/
def execHoldoffEnd (s : State) : Out := onLogic (fun t => t.onLease holdEnd) s

/-- WIND_DOWN_WRITE (R122). -/
def execWindDownWrite (who : Who) (v : Word) (s : State) : Out := onLogic (State.leaseCtrl who v) s

/-- TBL_SEL_WRITE (R13). -/
def execTblSelWrite (who : Who) (v : Word) (s : State) : Out := onLogic (State.leaseTblSel who v) s

/-- A holder's node takes a message of TYPE `ty` by R28 and R29. -/
def nodeIn (node hnow ty : Nat) (m : AtkMsg) (k : State → State) (s : State) : State :=
  if m.ty = ty ∧ nodeTakes s.net node hnow m = true then k { s with net := nodeTook node hnow m s.net } else s

/-- HOLDER_GRANT_RECEIVE (R98): a grant at target `tgt` of a node; it measures `ma` mA and `mv` mV, and holds site time or not. -/
def execHolderGrantReceive (node tgt hnow ma mv : Nat) (held : Bool) (m : AtkMsg) (s : State) : Out :=
  onDie (nodeIn node hnow 1 m fun t => t.onLease (holderReceive node tgt held hnow ma mv m.payload)) s

/-- HOLDER_LEASE_START (R100). -/
def execHolderLeaseStart (node tgt hnow : Nat) (s : State) : Out :=
  onDie (fun t => { t with lease := holderStart node tgt hnow t.lease }) s

/-- HOLDER_LEASE_EXPIRY (R103). -/
def execHolderLeaseExpiry (node tgt hnow : Nat) (s : State) : Out :=
  onDie (fun t => { t with lease := holderExpiry node tgt hnow t.lease }) s

/-- HOLDER_RUNDOWN_END (R104). -/
def execHolderRundownEnd (node tgt hnow : Nat) (s : State) : Out :=
  onDie (fun t => { t with lease := holderRundownEnd node tgt hnow t.lease }) s

/-- HOLDER_TIME_LOSS (R105). -/
def execHolderTimeLoss (node tgt hnow : Nat) (s : State) : Out :=
  onDie (fun t => { t with lease := holderTimeLoss node tgt hnow t.lease }) s

/-- HOLDER_FORGET (R106). -/
def execHolderForget (node tgt hnow : Nat) (s : State) : Out :=
  onDie (fun t => { t with lease := holderForget node tgt hnow t.lease }) s

end Sys2Proof.Machine
end

