-- ==== Sys2Proof/Machine/ExCtle.lean ====
section
/-! DEFINITION. Sys2Proof/Machine/ExCtle.lean: commands of chapter 04: closed-loop slots, profile generators, SETPOINT receivers. -/
namespace Sys2Proof.Machine

/-- CTLE_FRAME (R148). -/
def execCtleFrame (ev : CtlEv) (s : State) : Out := onLogic (fun t => (t.onCtle (ctleFrame t.io.active t.measure ev)).settle) s

/-- EVAL_MISS (R155). -/
def execEvalMiss (k : Nat) (s : State) : Out := onLogic (fun t => if t.io.active then t.onCtle (evalMiss k) else t) s

/-- MISS_ALARM (R156). -/
def execMissAlarm (k : Nat) (s : State) : Out := onLogic (fun t => if t.io.active then t.onCtle (missAlarm k) else t) s

/-- SLOT_ENABLE (R134): a write of CTL with EN 1. -/
def execSlotEnable (who : Who) (k : Nat) (v : Word) (s : State) : Out :=
  onLogic (fun t => t.slotCtl who (k % 1024) (setBits v 31 31 1)) s

/-- SLOT_DISABLE (R143): a write of CTL with EN 0. -/
def execSlotDisable (who : Who) (k : Nat) (v : Word) (s : State) : Out :=
  onLogic (fun t => t.slotCtl who (k % 1024) (setBits v 31 31 0)) s

/-- SHADOW_WRITE (R159): `place` counts the words from KP on. -/
def execShadowWrite (who : Who) (k place : Nat) (v : Word) (s : State) : Out :=
  onLogic (fun t => if place < 9 then t.slotShadow who (k % 1024) place v else t) s

/-- FREEZE_SET (R162): a write of CTL with FREEZE 1. -/
def execFreezeSet (who : Who) (k : Nat) (v : Word) (s : State) : Out :=
  onLogic (fun t => t.slotCtl who (k % 1024) (setBits v 30 30 1)) s

/-- FREEZE_COMMIT (R163): a write of CTL with FREEZE 0. -/
def execFreezeCommit (who : Who) (k : Nat) (v : Word) (s : State) : Out :=
  onLogic (fun t => t.slotCtl who (k % 1024) (setBits v 30 30 0)) s

/-- INTEGRATOR_WRITE (R164). -/
def execIntegratorWrite (who : Who) (k : Nat) (hi : Bool) (v : Word) (s : State) : Out :=
  onLogic (fun t => t.slotInt who (k % 1024) hi v) s

/-- GEN_ENABLE (R171): a write of GCTL with EN 1. -/
def execGenEnable (who : Who) (g : Nat) (v : Word) (s : State) : Out :=
  onLogic (fun t => if g < 320 then t.genCtl who g (setBits v 31 31 1) else t) s

/-- GEN_TARGET_WRITE (R167). -/
def execGenTargetWrite (who : Who) (g : Nat) (v : Word) (s : State) : Out :=
  onLogic (fun t => if g < 320 then t.genGoal who g v else t) s

/-- GEN_LIMIT_WRITE (R169): `which` is 0 for VMAX, 1 for AMAX, 2 for JMAX. -/
def execGenLimitWrite (who : Who) (g which : Nat) (v : Word) (s : State) : Out :=
  onLogic (fun t => if g < 320 ∧ which < 3 then t.genLimits who g which v else t) s

/-- SETPOINT_RECEIVE (R174). -/
def execSetpointReceive (node hnow : Nat) (m : AtkMsg) (s : State) : Out :=
  onDie (nodeIn node hnow 8 m fun t => if m.sub = 4 then { t with ctle := setpointApply node m.payload t.ctle } else t) s

/-- SETPOINT_EXPIRY (R176). -/
def execSetpointExpiry (node ch hnow : Nat) (s : State) : Out :=
  onDie (fun t => { t with ctle := setpointExpiry node ch hnow t.ctle }) s

end Sys2Proof.Machine
end

