-- ==== Sys2Proof/Machine/ExGnt.lean ====
section
/-! DEFINITION. Sys2Proof/Machine/ExGnt.lean: commands of chapter 12: Gauntlet. -/
namespace Sys2Proof.Machine

/-- A step of Gauntlet. -/
def onGauntlet (f : GntSt × Io → GntSt × Io) (s : State) : Out := onLogic (State.gntAct f) s

/-- INPUT_DEMAND (R504). -/
def execInputDemand (n : Nat) (s : State) : Out := onGauntlet (inputDemand (n % 32)) s

/-- SAFETY_INPUT_CLOSED (R509). -/
def execSafetyInputClosed (n : Nat) (s : State) : Out := onGauntlet (inputClosed (n % 32)) s

/-- INPUT_GLITCH (R507). -/
def execInputGlitch (n : Nat) (s : State) : Out := onGauntlet (inputGlitch (n % 32)) s

/-- TEST_PULSE (R505): `held`: the input did not follow its own pulse; `crossed`: the inputs that followed it. -/
def execTestPulse (n : Nat) (held : Bool) (crossed : List Nat) (s : State) : Out := onGauntlet (testPulse (n % 32) held crossed) s

/-- DISC_TIMEOUT (R506). -/
def execDiscTimeout (n : Nat) (s : State) : Out := onGauntlet (discTimeout (n % 32)) s

/-- DARK_TEST (R511): the coil current of the pair in mA. -/
def execDarkTest (p : Nat) (ok : Bool) (ma : Nat) (s : State) : Out := onGauntlet (darkTest (p % 32) ok ma) s

/-- LIGHT_TEST (R512). -/
def execLightTest (p : Nat) (follows : Bool) (ma : Nat) (s : State) : Out := onGauntlet (lightTest (p % 32) follows ma) s

/-- PAIR_TESTS_PASS (R516). -/
def execPairTestsPass (p : Nat) (s : State) : Out := onGauntlet (testsPass (p % 32)) s

/-- COIL_OVERCURRENT (R514). -/
def execCoilOvercurrent (p ma : Nat) (s : State) : Out := onGauntlet (coilOc (p % 32) ma) s

/-- WELD_CHECK (R515). -/
def execWeldCheck (p : Nat) (s : State) : Out := onLogic (fun t => t.gntAct (weldCheck t.fb (p % 32))) s

/-- GNT_HEAD_STALE (R520). -/
def execGntHeadStale (d : Nat) (s : State) : Out := onGauntlet (gntHeadStale d) s

/-- SAFE_STOP_TIMEOUT (R516). -/
def execSafeStopTimeout (p : Nat) (s : State) : Out := onGauntlet (stopTimeout (p % 32)) s

/-- ESCALATION (R527): an escalation of Gauntlet's own halts it. -/
def execEscalation (s : State) : Out :=
  onLogic (fun t =>
    let r := escalation (t.gnt, t.io)
    let u := t.gntAct fun _ => r.1
    if r.2 then u.giveUpFor 3 else u) s

/-- LOCKSTEP_FAIL (R528). -/
def execLockstepFail (s : State) : Out := onLogic (fun t => if t.gnt.halted then t else (t.gntAct gntHalt).giveUpFor 3) s

/-- SAFE_ACK_PRESS (R529). -/
def execSafeAckPress (s : State) : Out := onGauntlet ackPress s

/-- SAFE_ACK_RELEASE (R529). -/
def execSafeAckRelease (s : State) : Out := onGauntlet ackRelease s

/-- ACK_STUCK (R529). -/
def execAckStuck (s : State) : Out := onGauntlet ackStuck s

/-- ACK_WINDOW_EXPIRY (R529). -/
def execAckWindowExpiry (s : State) : Out := onGauntlet ackExpiry s

/-- ACK_CMD (R530). -/
def execAckCmd (who : Who) (v : Word) (s : State) : Out := onWho who (State.ackWrite who v) s

end Sys2Proof.Machine
end

