-- ==== Sys2Proof/Machine/ExHlm.lean ====
section
/-! DEFINITION. Sys2Proof/Machine/ExHlm.lean: commands of chapter 11: Helmet's mailbox, key updates, tamper, entropy. -/
namespace Sys2Proof.Machine

/-- GET_ID (R498). -/
def execGetId (who : Who) (s : State) : Out := onWho who (State.hlmCmd who 1 fun t => t.onHlm getId) s

/-- ATTEST (R474): `sram`: the cycles of the secure SRAM meanwhile (R488). -/
def execAttest (who : Who) (sram : List SramCycle) (s : State) : Out :=
  onWho who (State.hlmCmd who 2 fun t => t.onHlm (attest sram)) s

/-- RANDOM (R498). -/
def execRandom (who : Who) (sram : List SramCycle) (s : State) : Out :=
  onWho who (State.hlmCmd who 3 fun t => t.onHlm (hlmRandom sram)) s

/-- HLM_STATUS (R498). -/
def execHlmStatus (who : Who) (s : State) : Out := onWho who (State.hlmCmd who 5 fun t => t.onHlm hlmStatus) s

/-- PROVISION (R468): `sigOk`: the certificate's signature verifies. -/
def execProvision (who : Who) (sigOk : Bool) (s : State) : Out := onWho who (State.hlmCmd who 0x10 (State.hlmProvision sigOk)) s

/-- OWNER_FUSE (R471). -/
def execOwnerFuse (who : Who) (s : State) : Out := onWho who (State.hlmCmd who 0x11 fun t => t.onHlm ownerFuse) s

/-- RETURN (R468). -/
def execReturnPart (who : Who) (sigOk : Bool) (s : State) : Out := onWho who (State.hlmCmd who 0x12 (State.hlmReturn sigOk)) s

/-- A row of key updates: acts on an update of its operation, or of none that is issued. -/
def kuRow (k : Nat) (src : KuSrc) (sigOk wrapOk : Bool) (s : State) : Out :=
  match src with
  | .mbx who =>
    let o := kuOp (kuBytes s.io none)
    onWho who (fun t => if o = k ∨ o = 0 ∨ 6 < o then State.hlmCmd who 4 (State.mbxUpdate sigOk wrapOk) t else t) s
  | .atk m =>
    let o := kuOp m.payload
    onLogic (fun t => if o = k ∨ o = 0 ∨ 6 < o then
      State.msgRow 9 none (fun m u => u.keyUpdateIn m.payload false sigOk wrapOk) m t else t) s

/-- KU_INSTALL (R481). -/
def execKuInstall (src : KuSrc) (sigOk wrapOk : Bool) (s : State) : Out := kuRow 1 src sigOk wrapOk s

/-- KU_DELETE (R482). -/
def execKuDelete (src : KuSrc) (sigOk wrapOk : Bool) (s : State) : Out := kuRow 2 src sigOk wrapOk s

/-- KU_GENERATE (R485). -/
def execKuGenerate (src : KuSrc) (sigOk wrapOk : Bool) (s : State) : Out := kuRow 3 src sigOk wrapOk s

/-- KU_LIFECYCLE (R468). -/
def execKuLifecycle (src : KuSrc) (sigOk wrapOk : Bool) (s : State) : Out := kuRow 4 src sigOk wrapOk s

/-- KU_OWNER_REVOKE (R472). -/
def execKuOwnerRevoke (src : KuSrc) (sigOk wrapOk : Bool) (s : State) : Out := kuRow 5 src sigOk wrapOk s

/-- KU_TAMPER_ACK (R493). -/
def execKuTamperAck (src : KuSrc) (sigOk wrapOk : Bool) (s : State) : Out := kuRow 6 src sigOk wrapOk s

/-- TAMPER_SENSED (R491). -/
def execTamperSensed (src : Nat) (s : State) : Out := onDie (State.tamper src) s

/-- VBAT_LOSS (R467). -/
def execVbatLoss (s : State) : Out := onDie State.vbatLost s

/-- VBAT_SWITCHOVER (R681): V_HV in mV. -/
def execVbatSwitchover (vhv : Nat) (s : State) : Out := onDie (State.vbatSwitch vhv) s

/-- RNG_HEALTH_FAIL (R487). -/
def execRngHealthFail (s : State) : Out := onSepia (fun t => t.onHlm rngFail) s

/-- RNG_RECOVER (R487). -/
def execRngRecover (s : State) : Out := onSepia (fun t => t.onHlm rngRecover) s

end Sys2Proof.Machine
end

