-- ==== Sys2Proof/Machine/ExMir.lean ====
section
/-! DEFINITION. Sys2Proof/Machine/ExMir.lean: commands of chapter 13: the redundant pair. -/
namespace Sys2Proof.Machine

/-- A step of MIR that may end its unit's share in the site. -/
def onRole (f : MirSt × Io → MirSt × Io) (s : State) : Out := onLogic (fun t => (t.onMir f).settle) s

/-- A step of MIR on what it sees of the partner: a STANDBY whose frames can no longer arrive loses its place. -/
def onPartner (f : MirSt × Io → MirSt × Io) (s : State) : Out := onLogic (fun t => (t.onMir f).standbyFrames) s

/-- ROLE_HOLD_TIMEOUT (R538). -/
def execRoleHoldTimeout (s : State) : Out := onRole roleHoldTimeout s

/-- HEARTBEAT_LOST (R539). -/
def execHeartbeatLost (s : State) : Out := onPartner heartbeatLost s

/-- MIR_HB_IN_EDGE (R539). -/
def execMirHbInEdge (s : State) : Out := onPartner hbEdge s

/-- PARTNER_ROLE_LINE_CHANGE (R543). -/
def execPartnerRoleLineChange (low : Bool) (s : State) : Out := onPartner (roleLine low) s

/-- MIRROR_LANE_CHANGE (R540). -/
def execMirrorLaneChange (lane : Nat) (up : Bool) (s : State) : Out := onPartner (laneChange lane up) s

/-- TICK_FRAME_RECEIVE (R552). -/
def execTickFrameReceive (h : MirHdr) (body : Option MirBody) (s : State) : Out := onLogic (State.tickIn h body) s

/-- CHECKPOINT_FRAME (R550). -/
def execCheckpointFrame (h : MirHdr) (d : Nat) (x : Sess) (s : State) : Out := onLogic (State.checkpoint h d x) s

/-- IMAGE_FRAME (R543). -/
def execImageFrame (h : MirHdr) (img : MirImage) (s : State) : Out := onLogic (State.imageFrame h img) s

/-- IMAGE_REQ (R550). -/
def execImageReq (h : MirHdr) (s : State) : Out := onLogic (fun t => t.onMir (imageReq h)) s

/-- HELLO_FRAME (R542). -/
def execHelloFrame (h : MirHdr) (p : Hello) (s : State) : Out := onLogic (State.helloIn h p) s

/-- HELLO_SEND (R550). -/
def execHelloSend (s : State) : Out := onLogic (fun t => t.onMir helloDue) s

/-- MIR_STARTUP (R543). -/
def execMirStartup (s : State) : Out := onRole (fun t => mirChoose (mirStartup t)) s

/-- PARTNER_RELEASED (R543). -/
def execPartnerReleased (s : State) : Out := onRole partnerReleased s

/-- COLD_TAKEOVER (R543). -/
def execColdTakeover (s : State) : Out := onRole coldTakeover s

/-- ROLE_CLAIM_SAMPLE (R544). -/
def execRoleClaimSample (s : State) : Out := onLogic State.claim s

/-- GIVE_UP (R548): the first cause that holds. -/
def execGiveUp (s : State) : Out :=
  onLogic (fun t => if t.io.active && t.giveUpCause != 0 then t.giveUpFor t.giveUpCause else t) s

/-- DUAL_ACTIVE (R547). -/
def execDualActive (s : State) : Out := onRole dualActive s

/-- HANDOVER (R549). -/
def execHandover (who : Who) (s : State) : Out := onWho who (State.mirCtrl who 1) s

end Sys2Proof.Machine
end

