-- ==== Sys2Proof/Machine/ExMtr.lean ====
section
/-! DEFINITION. Sys2Proof/Machine/ExMtr.lean: commands of chapter 10: legal metrology and Sepia's mailbox. -/
namespace Sys2Proof.Machine

/-- A step of the metrology on Sepia. -/
def onMeter (f : MtrSt × Io → MtrSt × Io) (s : State) : Out := onSepia (State.mtrAct f) s

/-- METER_BLOCK (R403). -/
def execMeterBlock (m : AtkMsg) (s : State) : Out := onLogic (State.msgRow 4 none State.meterIn m) s

/-- CHANNEL_ABSENT (R406). -/
def execChannelAbsent (c : Nat) (s : State) : Out := onMeter (channelAbsent c) s

/-- METROLOGY_SAMPLE (R408): the raw values of each element, and the points at fault. -/
def execMetrologySample (raw : List (Int × Int)) (bad : List Nat) (s : State) : Out := onMeter (metrologySample raw bad) s

/-- METER_POINT_FAULT (R409). -/
def execMeterPointFault (p : Nat) (s : State) : Out := onMeter (pointFault p) s

/-- SEAL_OPEN (R411). -/
def execSealOpen (s : State) : Out := onMeter (sealEvent true) s

/-- SEAL_CLOSE (R411). -/
def execSealClose (s : State) : Out := onMeter (sealEvent false) s

/-- CAL_WRITE (R410): word w of the set of element e. -/
def execCalWrite (who : Who) (e w : Nat) (v : Word) (s : State) : Out := onWho who (State.calWord who (e % 8) (w % 5) v) s

/-- CAL_REF_ANNOUNCE (R414). -/
def execCalRefAnnounce (m : AtkMsg) (s : State) : Out :=
  onLogic (if u8 m.payload 1 = 1 then State.msgRow 0xA none State.calIn m else id) s

/-- CAL_REF_RESULT (R414). -/
def execCalRefResult (m : AtkMsg) (s : State) : Out :=
  onLogic (if u8 m.payload 1 = 1 then id else State.msgRow 0xA none State.calIn m) s

/-- LEGAL_TIME_SAVE (R416). -/
def execLegalTimeSave (s : State) : Out := onMeter legalTimeSave s

/-- LEGAL_TIME_HELD (R417). -/
def execLegalTimeHeld (s : State) : Out := onMeter legalTimeHeld s

/-- LEGAL_SLEW_END (R417). -/
def execLegalSlewEnd (s : State) : Out := onMeter legalSlewEnd s

/-- INTERVAL_CLOSE (R420). -/
def execIntervalClose (s : State) : Out := onMeter intervalClose s

/-- TXN_OPEN (R438). -/
def execTxnOpen (who : Who) (s : State) : Out := onWho who (State.mtrCmd who 1 txnOpen) s

/-- TXN_CLOSE (R439). -/
def execTxnClose (who : Who) (s : State) : Out := onWho who (State.mtrCmd who 2 txnClose) s

/-- TXN_AUTO_CLOSE (R439). -/
def execTxnAutoClose (c : Nat) (s : State) : Out :=
  onSepia (fun t =>
    let x := sesOf t.sess c
    t.mtrAct (txnAutoClose c (x.st == .idle || x.st == .ended) x.since)) s

/-- CAL_LOAD (R426): `sigOk`: the calendar's signature verifies. -/
def execCalLoad (who : Who) (sigOk : Bool) (s : State) : Out := onWho who (State.mtrCmd who 3 (calLoad sigOk)) s

/-- CAL_CANCEL (R459). -/
def execCalCancel (who : Who) (s : State) : Out := onWho who (State.mtrCmd who 4 calCancel) s

/-- CIVIL_ADJ (R419). -/
def execCivilAdj (who : Who) (s : State) : Out := onWho who (State.mtrCmd who 5 civilAdj) s

/-- DISPLAY (R452). -/
def execDisplay (who : Who) (s : State) : Out := onWho who (State.mtrCmd who 6 display) s

/-- PREPAY (R449). -/
def execPrepay (who : Who) (s : State) : Out := onWho who (State.mtrCmd who 7 prepay) s

/-- ARCH_READ (R459). -/
def execArchRead (who : Who) (s : State) : Out := onWho who (State.mtrCmd who 8 archRead) s

/-- SUPPLY_EARLY_WARNING (R435): V_HV in mV; how long PFAIL_N has been low, ns. -/
def execSupplyEarlyWarning (vhv pfailLow : Nat) (s : State) : Out := onSepia (State.earlyWarning vhv pfailLow) s

/-- ARCHIVE_PAGE_DUE (R443): `ok`: the page's write to flash succeeds. -/
def execArchivePageDue (kind ch : Nat) (ok : Bool) (s : State) : Out := onMeter (archivePageDue kind ch ok) s

/-- ARCHIVE_WRITE_DONE (R443). -/
def execArchiveWriteDone (ok : Bool) (s : State) : Out := onMeter (archiveWriteDone ok) s

/-- TOKEN_ENTRY (R447): `tokOk`: the token's tag verifies. -/
def execTokenEntry (m : AtkMsg) (tokOk : Bool) (s : State) : Out :=
  onLogic (if u8 m.payload 0 = 5 ∧ u8 m.payload 18 = 1 then State.msgRow 5 none (State.tokenIn tokOk) m else id) s

/-- TOKEN_UNLOCK (R448). -/
def execTokenUnlock (c : Nat) (s : State) : Out := onMeter (tokenUnlock c) s

/-- CHECK_REQUEST (R454). -/
def execCheckRequest (m : AtkMsg) (s : State) : Out :=
  onLogic (if u8 m.payload 0 = 5 ∧ u8 m.payload 18 = 2 then State.msgRow 5 none State.checkIn m else id) s

/-- CHECK_CLEAR (R454). -/
def execCheckClear (disp : Nat) (s : State) : Out := onMeter (checkClear disp) s

/-- LEDGER_DELTA (R455). -/
def execLedgerDelta (h : MirHdr) (x : LedgerDelta) (s : State) : Out := onLogic (State.ledgerFrame h x) s

end Sys2Proof.Machine
end

