-- ==== Sys2Proof/Machine/SiteTime.lean ====
section
/-! DEFINITION. Sys2Proof/Machine/SiteTime.lean: a PTP message at the time unit, and what a step of the site time leaves of what
runs by it (R27, R336, R337, R415, R419). -/
namespace Sys2Proof.Machine

/-- An instant, moved with a step of site time by `d` ns, so that what has elapsed since it stays the same. -/
def shiftT (d : Int) (t : Nat) : Nat := ((t : Int) + d).toNat

def Io.shift (d : Int) (io : Io) : Io :=
  { io with
    keys := Tbl.mapVals io.keys KeyGen.init fun _ y => { y with replacedAt := shiftT d y.replacedAt },
    streams := Tbl.mapVals io.streams Stream.init fun _ y => { y with acceptedAt := shiftT d y.acceptedAt },
    queues := Tbl.mapVals io.queues Queue.init fun _ y => { y with fill := y.fill.map fun p => { p with since := shiftT d p.since } } }

/-- Field nodes keep their own time. Assumption log: 19 (DEDUCED). -/
def NetSt.shift (d : Int) (n : NetSt) : NetSt :=
  { n with
    nodeTime := Tbl.mapVals n.nodeTime NodeTime.init fun _ y => { y with ofs := y.ofs.map (· - d) },
    fabDownAt := n.fabDownAt.map (shiftT d),
    ts := Tbl.mapVals n.ts TsMedium.init fun _ y => { y with nextAt := shiftT d y.nextAt },
    can := Tbl.mapVals n.can CanSt.init fun _ y => { y with
      seg := y.seg.map fun g => (g.1, g.2.map fun x => { x with since := shiftT d x.since }) } }

def STimers.shift (d : Int) (t : STimers) : STimers :=
  let f := Option.map (shiftT d)
  ⟨f t.link, f t.setup, f t.seq, f t.loop, f t.cable, f t.prechg, f t.stop, f t.disch, f t.fault⟩

def SessSt.shift (d : Int) (s : SessSt) : SessSt :=
  { s with
    disp := Tbl.mapVals s.disp Sess.init fun _ y => { y with
      since := shiftT d y.since, tmr := y.tmr.shift d, fastWin := 0,
      slow := y.slow.map fun r => { r with due := shiftT d r.due } },
    frags := s.frags.map fun e => (e.1, e.2.map fun f => { f with since := shiftT d f.since }) }

def Obs.shift (d : Int) (x : Obs) : Obs :=
  { x with
    ins := Tbl.mapVals x.ins ObsIn.init fun _ y => { y with good := y.good.map (shiftT d) },
    invSince := x.invSince.map (shiftT d), resSince := x.resSince.map (shiftT d), timer := shiftT d x.timer }

/-- The next step is due at the next millisecond. -/
def ThrmSt.shift (d : Int) (h : ThrmSt) : ThrmSt :=
  { h with
    lastStep := 0, obs := Tbl.mapVals h.obs Obs.init fun _ y => y.shift d,
    circ := Tbl.mapVals h.circ Circ.init fun _ y => { y with lastOn := y.lastOn.map (shiftT d), sentWin := 0 } }

def GntSt.shift (d : Int) (g : GntSt) : GntSt :=
  { g with
    pair := Tbl.mapVals g.pair Pair.init fun _ y => { y with
      openAt := shiftT d y.openAt, testAt := shiftT d y.testAt, stop := y.stop.map fun x => { x with t0 := shiftT d x.t0 } },
    inp := Tbl.mapVals g.inp Inp.init fun _ y => { y with glitch := y.glitch.map (shiftT d), alone := y.alone.map (shiftT d) },
    disp := Tbl.mapVals g.disp GDisp.init fun _ y => { y with sf4 := y.sf4.map (shiftT d) },
    press := g.press.map (shiftT d), winEnd := if g.winEnd = 0 then 0 else shiftT d g.winEnd, laneAt := shiftT d g.laneAt }

def MirSt.shift (d : Int) (m : MirSt) : MirSt :=
  { m with
    holdAt := shiftT d m.holdAt, hbAt := shiftT d m.hbAt, hbLost := shiftT d m.hbLost, pSince := shiftT d m.pSince,
    claim := m.claim.map (shiftT d), pPairs := m.pPairs.map fun p => (p.1, shiftT d p.2), helloAt := shiftT d m.helloAt, ckpt := 0 }

def PowSt.shift (d : Int) (now : Nat) (p : PowSt) : PowSt :=
  { p with
    chan := Tbl.mapVals p.chan Chan.init fun _ y => { y with
      period := 0, onAt := shiftT d y.onAt, offAt := shiftT d y.offAt, pauseEnd := shiftT d y.pauseEnd },
    rail := p.rail.map fun e => (e.1, { e.2 with v0 := e.2.vref now, t0 := shiftT d now, win := 0 }),
    held := p.held.map (shiftT d) }

def SpnSt.shift (d : Int) (s : SpnSt) : SpnSt :=
  let f := Option.map (shiftT d)
  { s with
    bcnWin := 0, passWin := 0, repWin := 0,
    nbr := Tbl.mapVals s.nbr Nbr.init fun _ y => { y with
      rxOld := y.rxOld.map (fun x => (x.1, shiftT d x.2)), heardAt := shiftT d y.heardAt, eighth := f y.eighth,
      updAt := f y.updAt, badAt := f y.badAt } }

def PntSt.shift (d : Int) (p : PntSt) : PntSt :=
  { p with
    rehashEnd := p.rehashEnd.map (shiftT d), retry := 0, lastPass := 0, lateAt := 0, pubAt := none, ready := none,
    unk := Tbl.mapVals p.unk Unk.init fun _ y => { y with at_ := y.at_.map (shiftT d) } }

def AllocSt.shift (d : Int) (a : AllocSt) : AllocSt :=
  { a with
    lastPass := 0, route := Tbl.mapVals a.route Route.init fun _ y => { y with deadline := y.deadline.map (shiftT d), query := y.query.map (shiftT d) } }

def CtleSt.shift (d : Int) (c : CtleSt) : CtleSt :=
  { c with
    lastFrame := 0, lastTick := 0,
    gen := Tbl.mapVals c.gen Gen.init fun _ y => { y with t0 := shiftT d y.t0 },
    slot := Tbl.mapVals c.slot Slot.init fun _ y => { y with lastT := shiftT d y.lastT, sentWin := 0 } }

namespace State

/-- R27: site time has stepped by `d` ns, before the first commit. Assumption log: 19 (DEDUCED). -/
def timeStepped (d : Int) (was : Nat) (s : State) : State :=
  { s with
    io := s.io.shift d, net := s.net.shift d, sess := s.sess.shift d, thrm := s.thrm.shift d, gnt := s.gnt.shift d,
    mir := s.mir.shift d, pow := s.pow.shift d was, spn := s.spn.shift d, pnt := s.pnt.shift d, alloc := s.alloc.shift d,
    ctle := s.ctle.shift d, mtr := mtrSiteStep d s.mtr, mem := { s.mem with mitAt := shiftT d s.mem.mitAt },
    hlm := { s.hlm with rngBad := s.hlm.rngBad.map (shiftT d) },
    boot := { s.boot with kick := shiftT d s.boot.kick, tick := 0 } }

/-- PTP_MESSAGE: the time unit measures an offset of `ofs` ns from the grandmaster at a port; `utc`: the UTC offset that the
message carries, none where it is not valid. Assumption log: 19 (DEDUCED). -/
def ptp (ofs : Int) (port : Nat) (utc : Option Nat) (s : State) : State :=
  let s1 := s.onNet (ptpMessage s.running ofs port)
  let d := (s1.now : Int) - s.now
  let s2 := if d = 0 then s1 else timeStepped d s.now s1
  mtrAct (taiUpdate utc) s2

end State
end Sys2Proof.Machine
end

