-- ==== Sys2Proof/Machine/ExNet.lean ====
section
/-! DEFINITION. Sys2Proof/Machine/ExNet.lean: commands of chapter 08: Atkai streams and keys, Ethernet, site time, T1S, the fabric,
CAN, the host. -/
namespace Sys2Proof.Machine

/-- STREAM_FORGET (R705): at the part, or at a field node whose own time is given with it. -/
def execStreamForget (ty src : Nat) (node : Option (Nat × Nat)) (s : State) : Out :=
  match node with
  | none => onLogic (fun t => t.onIo (streamForget ty src)) s
  | some (n, hnow) => onDie (fun t => { t with net := nodeForget n ty src hnow t.net }) s

/-- KEY_GEN_EXPIRY (R323). -/
def execKeyGenExpiry (slot : Nat) (s : State) : Out := onLogic (fun t => t.onIo (keyGenExpiry slot)) s

/-- APP_MESSAGE (R326). -/
def execAppMessage (m : AtkMsg) (s : State) : Out :=
  onLogic (fun t =>
    if appType m.ty m.sub then
      let r := State.receive m t
      if r.2 then r.1.onIo fun io => atkRx io m else r.1
    else t) s

/-- ATKAI_DISCARD (R324): a message that some check refuses. -/
def execAtkaiDiscard (m : AtkMsg) (s : State) : Out :=
  onLogic (fun t => let r := State.receive m t; if r.2 then t else r.1) s

/-- ATK_TX (R329). -/
def execAtkTx (ty sub dst : Nat) (p : List Byte) (s : State) : Out := onLogic (fun t => t.onIo (atkTx ty sub dst p)) s

/-- ETH_TX (R366). -/
def execEthTx (port : Nat) (bs : List Byte) (s : State) : Out := onLogic (fun t => t.onIo (ethTx port bs t.net)) s

/-- ETH_FRAME_RECEIVE (R366). -/
def execEthFrameReceive (port : Nat) (kind : EthKind) (bs : List Byte) (s : State) : Out :=
  onLogic (fun t => t.onIo (ethReceive port kind bs t.net)) s

/-- PTP_MESSAGE (R336). -/
def execPtpMessage (ofs : Int) (port : Nat) (utc : Option Nat) (s : State) : Out := onLogic (State.ptp ofs port utc) s

/-- GRANDMASTER_LOSS (R553): `me`: best master selection makes this unit the grandmaster. Assumption log: 200 (DEDUCED). -/
def execGrandmasterLoss (me : Bool) (s : State) : Out :=
  onLogic (fun t =>
    if t.io.flag Reg.FAB.CTRL 3 && t.io.fld Reg.FAB.CTRL 2 1 == 0 then
      t.onIo fun io => if me then (io.setFld Reg.FAB.PTP_STAT 30 28 3).setFld Reg.FAB.PTP_STAT 27 24 0 else setHeld false io
    else t) s

/-- TIME_SYNC_SEND (R339): on a CAN controller, or the mesh (8); `lag`: from the command to the start of its frame, ns. -/
def execTimeSyncSend (med lag : Nat) (s : State) : Out := onLogic (fun t => t.onNet (timeSyncSend med lag)) s

/-- TIME_SYNC (R340): a node that has no site time yet cannot judge the message's TIME. -/
def execTimeSync (node hnow : Nat) (elapsed : Option Nat) (m : AtkMsg) (s : State) : Out :=
  onDie (fun t =>
    let h := if (Tbl.get t.net.nodeTime NodeTime.init node).ofs.isNone then m.time else hnow
    nodeIn node h 0xB m (fun u => { u with net := timeSync node elapsed m.payload u.net u.io }) t) s

/-- TIME_HOLD_LOSS (R341). -/
def execTimeHoldLoss (node : Nat) (s : State) : Out := onDie (fun t => { t with net := timeHoldLoss node t.net t.io }) s

/-- PLCA_BEACON_CONFLICT (R343). -/
def execPlcaBeaconConflict (seg : Nat) (s : State) : Out := onLogic (fun t => t.onNet (beaconConflict seg)) s

/-- PLCA_CHG (R342): `ed`: the energy-detect bit. -/
def execPlcaChg (seg : Nat) (ok ed : Bool) (s : State) : Out := onLogic (fun t => t.onIo (plcaChange seg ok ed)) s

/-- FABRIC_LINK_CHANGE (R334). -/
def execFabricLinkChange (port : Nat) (up lock : Bool) (s : State) : Out := onLogic (fun t => t.onNet (fabricLink port up lock)) s

/-- FABRIC_LOST (R547): every enabled port has been down for 2 ms. -/
def execFabricLost (s : State) : Out :=
  onLogic (fun t =>
    if t.io.active && t.net.fabDownAt.elim false fun x => decide (x + 2 * ms ≤ t.now) then State.giveUpFor 5 t else t) s

/-- FAB_NODE_SEL (R330). -/
def execFabNodeSel (who : Who) (v : Word) (s : State) : Out :=
  onLogic (fun t => t.onIo (fabNodeSel (t.guardAt Reg.FAB.NODE_SEL) who v)) s

/-- CAN_FRAME_RECEIVE (R349): `tagOk`: the tag of the Atkai message that the frame completes verifies. -/
def execCanFrameReceive (c : Nat) (f : CanFrame) (tagOk : Bool) (s : State) : Out :=
  onLogic (fun t =>
    let r := canReceive (c % 8) f t.net t.io
    let u := { t with net := r.1.1, io := r.1.2 }
    match r.2 with
    | some bs => State.arrived tagOk bs (canVia (c % 8) f) u
    | none => u) s

/-- CAN_SEGMENT_TIMEOUT (R347). -/
def execCanSegmentTimeout (c id : Nat) (s : State) : Out := onLogic (fun t => t.onNet (segTimeout (c % 8) id)) s

/-- CAN_RX_ACK (R351). Assumption log: 97 (DEDUCED). -/
def execCanRxAck (who : Who) (c : Nat) (v : Word) (s : State) : Out := onLogic (fun t => t.onNet (canRxAck who (c % 8) v)) s

/-- CAN_TX_READY (R354): TXQ_CTL is written with ENTRY and READY. -/
def execCanTxReady (who : Who) (c e : Nat) (s : State) : Out :=
  onLogic (State.canTxq who (c % 8) (w32 (e % 32 * 256 + 1)) none .waiting) s

/-- CAN_TX_CANCEL (R356): `busy`, `ph`: the entry on the bus and how far it has come. -/
def execCanTxCancel (who : Who) (c e : Nat) (busy : Option Nat) (ph : CanPhase) (s : State) : Out :=
  onLogic (State.canTxq who (c % 8) (w32 (e % 32 * 256 + 2)) busy ph) s

/-- CAN_TX_FLUSH (R356): the entry shown stays. -/
def execCanTxFlush (who : Who) (c : Nat) (busy : Option Nat) (ph : CanPhase) (s : State) : Out :=
  onLogic (fun t => t.canTxq who (c % 8) (w32 (t.io.fld (Reg.CAN.TXQ_CTL (c % 8)) 12 8 * 256 + 4)) busy ph) s

/-- CAN_TX_COMPLETE (R357). -/
def execCanTxComplete (c : Nat) (e : Option Nat) (res : CanEnd) (s : State) : Out :=
  onLogic (fun t => t.onNet (canComplete (c % 8) e res)) s

/-- CAN_BUS_ERROR (R355). -/
def execCanBusError (c : Nat) (e : Option Nat) (rx : Bool) (s : State) : Out := onLogic (fun t => t.onNet (canBusError (c % 8) e rx)) s

/-- CAN_BUS_OFF_RECOVERY (R359). -/
def execCanBusOffRecovery (c seqs : Nat) (s : State) : Out := onLogic (fun t => t.onIo (canRecover (c % 8) seqs)) s

/-- HOST_OUT_WRITE (R364). -/
def execHostOutWrite (who : Who) (hi : Word) (s : State) : Out := onLogic (fun t => t.onNet (hostOut who hi)) s

/-- PCIE_LINK_CHANGE (R361). -/
def execPcieLinkChange (up : Bool) (width speed dst : Nat) (s : State) : Out := onLogic (fun t => t.onNet (pcieLink up width speed dst)) s

/-- MGMT_LINK_CHANGE (R365). -/
def execMgmtLinkChange (up : Bool) (s : State) : Out := onLogic (fun t => t.onNet (mgmtLink up)) s

end Sys2Proof.Machine
end

