-- ==== Sys2Proof/Machine/ExPnt.lean ====
section
/-! DEFINITION. Sys2Proof/Machine/ExPnt.lean: commands of chapter 06: points, their table, the sweeper, the rollup. -/
namespace Sys2Proof.Machine

/-- POINT_BLOCK (R226): `fifo` blocks wait in the ingest FIFO. -/
def execPointBlock (fifo : Nat) (m : AtkMsg) (s : State) : Out := onLogic (State.msgRow 3 none (State.blockIn fifo) m) s

/-- ADD_RANGE (R220). -/
def execAddRange (who : Who) (s : State) : Out := onLogic (State.pntCmd who 1) s

/-- DEL_RANGE (R220). -/
def execDelRange (who : Who) (s : State) : Out := onLogic (State.pntCmd who 2) s

/-- LOOKUP (R232). -/
def execLookup (who : Who) (s : State) : Out := onLogic (State.pntCmd who 3) s

/-- SET_PROFILE (R220). -/
def execSetProfile (who : Who) (s : State) : Out := onLogic (State.pntCmd who 4) s

/-- DEF_NODES (R220). -/
def execDefNodes (who : Who) (s : State) : Out := onLogic (State.pntCmd who 5) s

/-- DEL_NODES (R220). -/
def execDelNodes (who : Who) (s : State) : Out := onLogic (State.pntCmd who 6) s

/-- STASH_RETRY (R234). -/
def execStashRetry (s : State) : Out := onLogic (fun t => t.onPnt stashRetry) s

/-- REHASH_REQUEST (R235): CTRL.REHASH is written. -/
def execRehashRequest (who : Who) (s : State) : Out :=
  onLogic (State.granted who Reg.PNT.CTRL 0x200 fun t => t.onPnt rehashRequest) s

/-- REHASH_END (R239). -/
def execRehashEnd (s : State) : Out := onLogic (fun t => t.onPnt rehashEnd) s

/-- PRESS_CLR (R239): CTRL.PRESS_CLR is written. -/
def execPressClr (who : Who) (s : State) : Out := onLogic (State.granted who Reg.PNT.CTRL 0x400 fun t => t.onIo pressClr) s

/-- SWEEP_VISIT (R242). -/
def execSweepVisit (ecc : PntEcc) (s : State) : Out := onLogic (fun t => t.onPnt (sweepVisit ecc)) s

/-- ROLLUP_PASS (R251). -/
def execRollupPass (residue : List Nat) (s : State) : Out := onLogic (fun t => t.onPnt (rollupPass residue)) s

/-- ROLL_LATE (R252). -/
def execRollLate (s : State) : Out := onLogic (fun t => t.onPnt rollLate) s

/-- PROF_SEL_WRITE (R224). -/
def execProfSelWrite (who : Who) (v : Word) (s : State) : Out := onLogic (fun t => t.onPnt (profSelWrite who v)) s

/-- SPROF_SEL_WRITE (R224). -/
def execSprofSelWrite (who : Who) (v : Word) (s : State) : Out := onLogic (fun t => t.onPnt (sprofSelWrite who v)) s

/-- RD_IDX_WRITE (R228). -/
def execRdIdxWrite (who : Who) (v : Word) (s : State) : Out := onLogic (fun t => t.onIo (rdIdxWrite who v.toNat t.pnt)) s

/-- NODE_SEL_WRITE (R244). -/
def execNodeSelWrite (who : Who) (v : Word) (s : State) : Out := onLogic (fun t => t.onIo (nodeSelWrite who v.toNat t.pnt)) s

end Sys2Proof.Machine
end

