-- ==== Sys2Proof/Machine/ExPow.lean ====
section
/-! DEFINITION. Sys2Proof/Machine/ExPow.lean: commands of chapter 15: load switches and regulators. -/
namespace Sys2Proof.Machine

/-- A step of a load switch, after which duties just delivered take effect. -/
def onSwitch (f : PowSt → Io → PowSt × Io) (s : State) : Out := onDie (fun t => (t.onPow f).settle) s

/-- A step of a regulator that changes no output of the part. -/
def onRail (f : PowSt → Io → PowSt × Io) (s : State) : Out := onDie (fun t => t.onPow f) s

/-- A step of a regulator that may end in a fault: that of CORE is a power-on reset (R638). -/
def onRailFault (f : PowSt → Io → PowSt × Io × Bool) (s : State) : Out :=
  onDie (fun t =>
    let r := f t.pow t.io
    let u := { t with pow := r.1, io := r.2.1 }
    if r.2.2 then u.doReset .por .porCore else u) s

/-- PWM_PERIOD_START (R602). -/
def execPwmPeriodStart (n : Nat) (s : State) : Out :=
  onDie (fun t => { t with pow := periodStart t.acting (n % 24) t.pow t.io }) s

/-- DUTY_WRITE (R600). -/
def execDutyWrite (who : Who) (n : Nat) (v : Word) (s : State) : Out := onWho who (State.chDuty who (n % 24) v) s

/-- LSW_OVERCURRENT (R605): `m`: the sample at the limit. -/
def execLswOvercurrent (n : Nat) (m : ChMeas) (s : State) : Out := onSwitch (overcurrent n m) s

/-- INRUSH_END (R604). -/
def execInrushEnd (n : Nat) (atLimit : Bool) (m : ChMeas) (s : State) : Out := onSwitch (inrushEnd n atLimit m) s

/-- RETRY_PAUSE_END (R605). -/
def execRetryPauseEnd (n : Nat) (s : State) : Out := onSwitch (fun p io => (retryPauseEnd n p io, io)) s

/-- RETRY_COUNT_RESET (R606). -/
def execRetryCountReset (n : Nat) (s : State) : Out := onSwitch (fun p io => (retryReset n p io, io)) s

/-- LSW_OVERTEMP (R607). -/
def execLswOvertemp (n : Nat) (m : ChMeas) (s : State) : Out := onSwitch (tjSample n m) s

/-- TH_WARN (R612). -/
def execThWarn (n : Nat) (m : ChMeas) (s : State) : Out := onSwitch (tjSample n m) s

/-- OC_LATCH_CLEAR (R610): CH_STAT is written with OC_LATCH alone. -/
def execOcLatchClear (who : Who) (n : Nat) (s : State) : Out := onWho who (State.chStat who (n % 24) 0x10000000) s

/-- TH_LATCH_CLEAR (R611): CH_STAT is written with TH_LATCH alone. -/
def execThLatchClear (who : Who) (n : Nat) (s : State) : Out := onWho who (State.chStat who (n % 24) 0x20000000) s

/-- OPEN_LOAD (R614): `above`: the output is above the level; for how long, ns. -/
def execOpenLoad (n : Nat) (above : Bool) (since : Nat) (m : ChMeas) (s : State) : Out := onSwitch (openLoad n above since m) s

/-- UNDER_CURRENT (R615). -/
def execUnderCurrent (n since : Nat) (m : ChMeas) (s : State) : Out := onSwitch (underCurrent n since m) s

/-- ALL_OFF (R613). -/
def execAllOff (who : Who) (v : Word) (s : State) : Out := onWho who (State.lswCtrl who v) s

/-- HOLD_END (R618). -/
def execHoldEnd (s : State) : Out := onDie (fun t => (t.onPow (holdElapsed t.acting)).settle) s

/-- REG_ENABLE (R624): `vout`: the output voltage, mV. -/
def execRegEnable (who : Who) (r : Nat) (v : Word) (vout : Nat) (s : State) : Out :=
  onWho who (fun t => t.onPow (regEnable who (r % 2) v vout)) s

/-- REG_DISABLE (R625). -/
def execRegDisable (who : Who) (r : Nat) (v : Word) (s : State) : Out := onWho who (fun t => t.onPow (regDisable who (r % 2) v)) s

/-- SOFT_START_DONE (R624). -/
def execSoftStartDone (r : Nat) (s : State) : Out := onRail (softStartDone r) s

/-- VSET_WRITE (R626). -/
def execVsetWrite (who : Who) (r : Nat) (v : Word) (s : State) : Out := onWho who (fun t => t.onPow (vsetWrite who (r % 2) v)) s

/-- SLEW_DONE (R626). -/
def execSlewDone (r : Nat) (s : State) : Out := onRail (slewDone r) s

/-- SOFT_STOP_DONE (R625). -/
def execSoftStopDone (r : Nat) (s : State) : Out := onRail (softStopDone r) s

/-- PHASE_DROP (R634): what the controller sees of its phases. -/
def execPhaseDrop (r : Nat) (l : List PhaseObs) (s : State) : Out := onRailFault (phaseDrop r l) s

/-- CURRENT_LIMIT (R637): cycles in which a phase limits; for how long none has, ns. -/
def execCurrentLimit (r cycles quiet : Nat) (s : State) : Out := onRail (currentLimit r cycles quiet) s

/-- REG_FAULT (R638). -/
def execRegFault (r : Nat) (c : RegCond) (s : State) : Out := onRailFault (regFault r c) s

/-- REG_OT_WARN (R638): TMON in 0.01 degrees. -/
def execRegOtWarn (r : Nat) (x : Int) (s : State) : Out := onRailFault (regOtWarn r x) s

/-- TELEMETRY_WINDOW (R640). -/
def execTelemetryWindow (r : Nat) (x : Telem) (s : State) : Out := onRail (telemetry r x) s

end Sys2Proof.Machine
end

