-- ==== Sys2Proof/Machine/ExQue.lean ====
section
/-! DEFINITION. Sys2Proof/Machine/ExQue.lean: commands of chapter 14: queues, scratchpad banks, error logs, the DRAM. -/
namespace Sys2Proof.Machine

/-- QUEUE_FILL (R580). -/
def execQueueFill (who : Who) (q : Nat) (w : Word64) (s : State) : Out := onWho who (State.queueFill who q w) s

/-- QUEUE_RESERVE (R578). -/
def execQueueReserve (who : Who) (q : Nat) (s : State) : Out := onWho who (State.queueReserve who q) s

/-- QUEUE_LENGTH (R579). -/
def execQueueLength (who : Who) (q : Nat) (v : Word) (s : State) : Out := onWho who (State.queueLength who q v) s

/-- QUEUE_DRAIN (R576): `bad`: the parity check of the word fails. -/
def execQueueDrain (who : Who) (q : Nat) (bad : Bool) (s : State) : Out := onWho who (State.queueDrain who q bad) s

/-- PACKET_ABANDON (R578). -/
def execPacketAbandon (q : Nat) (s : State) : Out := onLogic (State.packetAbandon q) s

/-- QUEUE_FLUSH (R582). -/
def execQueueFlush (who : Who) (q : Nat) (s : State) : Out := onWho who (State.queueFlush who q) s

/-- QUEUE_MARK (R583): Qn_CTL is written with MARK alone. -/
def execQueueMark (who : Who) (q : Nat) (s : State) : Out := onWho who (State.queueMark who q 4) s

/-- QUEUE_REWIND (R584): Qn_CTL is written with REWIND alone. -/
def execQueueRewind (who : Who) (q : Nat) (s : State) : Out := onWho who (State.queueRewind who q 8) s

/-- BANK_OWNER_WRITE (R565). -/
def execBankOwnerWrite (who : Who) (b : Nat) (v : Word) (s : State) : Out := onWho who (State.bankCfg who (b % 32) v) s

/-- BANK_HANDOVER_DONE (R565). -/
def execBankHandoverDone (b : Nat) (s : State) : Out := onLogic (fun t => t.onIo (bankDone (b % 32))) s

/-- BANK_MODE_WRITE (R566). -/
def execBankModeWrite (who : Who) (b : Nat) (v : Word) (s : State) : Out := onWho who (State.bankCfg who (b % 32) v) s

/-- SCRATCHPAD_ACCESS (R569): the accesses of port A and port B of one cycle. -/
def execScratchpadAccess (pa pb : Option SpAcc) (s : State) : Out := onLogic (fun t => t.onMem (spmAccess pa pb)) s

/-- Whether an address is that of a register at offset `o` of an error log. -/
def logAt (o a : Nat) : Bool := (blockAt a).elim false fun x => x.2.2 == o

/-- ERR_POP (R591). -/
def execErrPop (who : Who) (a : Nat) (v : Word) (s : State) : Out :=
  onWho who (fun t => if logAt 0xA4 a then t.errPop who a v else t) s

/-- ERR_ACK (R595). -/
def execErrAck (who : Who) (a : Nat) (v : Word) (s : State) : Out :=
  onWho who (fun t => if logAt 0xA8 a then t.errAck who a v else t) s

/-- MITTEN_REGION (R571): `bad`: the bit position found stuck. -/
def execMittenRegion (bad : Option Nat) (s : State) : Out := onLogic (fun t => t.onMem (mitten bad)) s

/-- DRAM_SCRUB (R588): `ecc`: 1 corrected, 2 not, in the given word of the burst. -/
def execDramScrub (ecc word : Nat) (s : State) : Out := onLogic (fun t => t.onMem (dramScrub ecc word)) s

/-- DRAM_ACCESS (R253): `ecc`: what ECC finds, 1 corrected, 2 not. -/
def execDramAccess (who : Who) (write : Bool) (o size data ecc : Nat) (s : State) : Out :=
  onWho who (fun t => t.onMem (dramAccess who (decide (t.io.fld Reg.SYS.BOOT_STAT 31 28 < 3)) write o size data ecc)) s

end Sys2Proof.Machine
end

