-- ==== Sys2Proof/Machine/ExSess.lean ====
section
/-! DEFINITION. Sys2Proof/Machine/ExSess.lean: commands of chapter 07: heads, vehicle sessions, certificates. -/
namespace Sys2Proof.Machine

/-- A VTUN message of a channel that `sel` takes. -/
def vtunRow (sel : Nat → Bool) (k : AtkMsg → State → State) (m : AtkMsg) (s : State) : State :=
  if sel (u8 m.payload 0) then State.msgRow 5 none k m s else s

/-- A step of SESS, with the active model. -/
def onSessM (f : Tbl Byte → SessSt × Io → SessSt × Io) (s : State) : Out := onLogic (fun t => t.onSess (f t.alloc.model)) s

/-- A step of SESS, with what the newest grant of the dispenser allows. -/
def onSessG (d : Nat) (f : Tbl Byte → GrantView → SessSt × Io → SessSt × Io) (s : State) : Out :=
  onLogic (fun t => t.onSess (f t.alloc.model (t.grantView d))) s

/-- A step of a head. -/
def onHead (f : SessSt × Io → SessSt × Io) (s : State) : Out := onDie (fun t => t.onSess f) s

/-- VEHICLE_FRAME (R264): `tcp`: bytes of TCP data that the frame adds in order. -/
def execVehicleFrame (tcp : Nat) (m : AtkMsg) (s : State) : Out :=
  onLogic (vtunRow (fun c => c != 4 && c != 5 && c != 6) (State.vehicleIn tcp) m) s

/-- VTUN_TO_HEAD (R273). -/
def execVtunToHead (hnow : Nat) (p : List Byte) (s : State) : Out := onHead (vtunToHead hnow (s.coilOf (u8 p 2)) p) s

/-- HEAD_TX_AT (R273). -/
def execHeadTxAt (d hnow : Nat) (s : State) : Out := onHead (headTransmit d hnow) s

/-- FRAGMENT_TIMEOUT (R272). -/
def execFragmentTimeout (d ch fid : Nat) (s : State) : Out := onLogic (fun t => t.onSess (fragTimeout d ch fid)) s

/-- PILOT_REPORT (R276). -/
def execPilotReport (m : AtkMsg) (s : State) : Out := onLogic (vtunRow (· == 4) State.pilotIn m) s

/-- PILOT_COMMAND (R276). -/
def execPilotCommand (d hnow duty lock lines : Nat) (s : State) : Out := onHead (headPilot d hnow duty lock lines) s

/-- CTL_CLOSE (R265). -/
def execCtlClose (d hnow id : Nat) (s : State) : Out := onHead (headClose d hnow id (s.coilOf d)) s

/-- CTL_OPEN (R265). -/
def execCtlOpen (d hnow id : Nat) (s : State) : Out := onHead (headOpen d hnow id) s

/-- CTL_VOLT (R278). -/
def execCtlVolt (d hnow id mv ma : Nat) (s : State) : Out := onHead (headVolt d hnow id mv ma) s

/-- CTL_DISCH_ON (R277). -/
def execCtlDischOn (d hnow id : Nat) (s : State) : Out := onHead (headDisch true d hnow id) s

/-- CTL_DISCH_OFF (R277). -/
def execCtlDischOff (d hnow id : Nat) (s : State) : Out := onHead (headDisch false d hnow id) s

/-- CTL_ISO_START (R277). -/
def execCtlIsoStart (d hnow id : Nat) (s : State) : Out := onHead (headIso true d hnow id) s

/-- CTL_ISO_STOP (R277). -/
def execCtlIsoStop (d hnow id : Nat) (s : State) : Out := onHead (headIso false d hnow id) s

/-- CTL_RESPONSE (R277). -/
def execCtlResponse (m : AtkMsg) (s : State) : Out := onLogic (vtunRow (· == 6) State.ctlIn m) s

/-- HEAD_CONTROL_LOSS (R279): `low`: the cable side is at or below 60 V. -/
def execHeadControlLoss (d hnow : Nat) (low : Bool) (s : State) : Out :=
  onHead (headControlLoss d hnow low (Tbl.get s.lease.holders Holder.init (holderKey (dispHead s.alloc.model d) d))) s

/-- HEAD_STATUS (R280). -/
def execHeadStatus (m : AtkMsg) (s : State) : Out := onLogic (State.msgRow 8 (some 1) State.headIn_ m) s

/-- HEAD_STATUS_STALE (R297). -/
def execHeadStatusStale (d : Nat) (s : State) : Out := onSessM (fun m => headStale m d) s

/-- LINK_UP (R293). -/
def execLinkUp (d : Nat) (s : State) : Out := onLogic (fun t => t.onSess (linkUpEvt d)) s

/-- SDP_REQUEST (R268). -/
def execSdpRequest (d : Nat) (tls : Bool) (s : State) : Out := onLogic (fun t => t.onSess (sdpRequest d tls)) s

/-- SAP_REQUEST (R269). -/
def execSapRequest (d : Nat) (offers : List (Nat × Nat)) (s : State) : Out := onSessM (fun m => sapRequest m d offers) s

/-- The Helmet slots that XCR.KEY_REF names hold a key. -/
def leafKeys (s : State) : Bool :=
  (hSlot s.hlm (s.io.fld Reg.XCR.KEY_REF 15 8)).isSome || (hSlot s.hlm (s.io.fld Reg.XCR.KEY_REF 7 0)).isSome

/-- CLIENT_HELLO (R283). Without a leaf key a handshake fails (R496); the spec does not say with which alert. Assumption log: 87 (DESIGN CHOICE). -/
def execClientHello (d : Nat) (e : TlsEv) (s : State) : Out :=
  onLogic (fun t =>
    if e = .hello ∧ leafKeys t = false then
      let f := t.sensed
      f.2.onSess (tlsEvent t.alloc.model d (.failed (Config.freeNat f.1)))
    else t.onSess (tlsEvent t.alloc.model d e)) s

/-- SLOW_PATH_REQUEST (R289): `bad`: where it does not decode. -/
def execSlowPathRequest (d code : Nat) (words : List Nat) (u : EvUpd) (bad : Option Nat) (s : State) : Out :=
  onSessM (fun m => slowRequest m d code words u bad) s

/-- CABLE_CHECK_REQUEST (R293). -/
def execCableCheckRequest (d : Nat) (u : EvUpd) (s : State) : Out := onSessG d (fun m g => cableRequest m d u g) s

/-- PRECHARGE_REQUEST (R301). -/
def execPrechargeRequest (d tgt : Nat) (s : State) : Out := onSessG d (fun m g => prechargeRequest m d tgt g) s

/-- ENERGY_START_REQUEST (R302). -/
def execEnergyStartRequest (d : Nat) (s : State) : Out := onSessM (fun m => energyStart m d) s

/-- FAST_PATH_REQUEST (R288). -/
def execFastPathRequest (d : Nat) (kind : FastKind) (u : EvUpd) (s : State) : Out := onSessG d (fun m g => fastRequest m d kind u g) s

/-- CHARGE_STANDBY (R293). -/
def execChargeStandby (d : Nat) (s : State) : Out := onSessG d (fun m g => chargeStandby m d g) s

/-- STOP_REQUEST (R293). -/
def execStopRequest (d : Nat) (s : State) : Out := onSessM (fun m => stopRequest m d) s

/-- SESSION_END_REQUEST (R293). -/
def execSessionEndRequest (d : Nat) (s : State) : Out := onSessM (fun m => sessionEnd m d) s

/-- TX_MSG (R289): the packet's first payload and its other words; `encodes`: the answer encodes. -/
def execTxMsg (first : Nat) (words : List Nat) (encodes : Bool) (s : State) : Out :=
  onLogic (fun t => t.onSess (txMsg first words encodes)) s

/-- CMD_ENERGY_EN (R317). -/
def execCmdEnergyEn (d low : Nat) (s : State) : Out := onLogic (fun t => t.onSess (cmdEnergyEn d low)) s

/-- CMD_ENERGY_DIS (R317). -/
def execCmdEnergyDis (d low : Nat) (s : State) : Out := onLogic (fun t => t.onSess (cmdEnergyDis d low)) s

/-- CMD_STOP (R296). -/
def execCmdStop (d low : Nat) (s : State) : Out := onLogic (fun t => t.onSess (cmdStop d low)) s

/-- CMD_RESET_FAULT (R293). -/
def execCmdResetFault (d low : Nat) (s : State) : Out := onLogic (fun t => t.onSess (cmdResetFault d low)) s

/-- FW_TIMEOUT (R290). Assumption log: 67 (DEDUCED). -/
def execFwTimeout (d txn : Nat) (s : State) : Out := onSessM (fun m => fwTimeout m d txn) s

/-- SESSION_TIMEOUT (R294). -/
def execSessionTimeout (d n : Nat) (s : State) : Out := onSessM (fun m => sessTimeout m d n) s

/-- FAST_REPORT (R315). -/
def execFastReport (d : Nat) (s : State) : Out := onLogic (fun t => t.onSess (fastReport d)) s

/-- CERT_DATA_WRITE (R283). -/
def execCertDataWrite (who : Who) (v : Word) (s : State) : Out := onLogic (State.certWord who v) s

/-- CERT_COMMIT (R283): `parses`: the staged store parses. -/
def execCertCommit (who : Who) (v : Word) (parses : Bool) (s : State) : Out := onLogic (State.certCtl who v parses) s

end Sys2Proof.Machine
end

