-- ==== Sys2Proof/Machine/ExSpn.lean ====
section
/-! DEFINITION. Sys2Proof/Machine/ExSpn.lean: commands of chapter 09: the power-line mesh. -/
namespace Sys2Proof.Machine

/-- MESH_DATA_FRAME (R380): `drop`: the drop of the frame's SNR below the map's, as the receiver measures it; `tagOk`: the
tag of the Atkai message that the frame completes verifies. -/
def execMeshDataFrame (fc : MeshFc) (pbs : List MeshPb) (drop : Nat) (tagOk : Bool) (s : State) : Out :=
  onLogic (fun t =>
    let r := meshData fc pbs drop t.spn t.io
    let u := { t with spn := r.1.1, io := r.1.2 }
    match r.2 with
    | some (bs, src) => State.arrived tagOk bs ⟨4, 0, src, false, 0, 0⟩ u
    | none => u) s

/-- MESH_SACK (R381): `got`: the PBs acknowledged, one bit each; `bad`: TM_BAD. -/
def execMeshSack (nbr mpdu got : Nat) (bad : Bool) (s : State) : Out := onLogic (fun t => t.onSpn (meshSack nbr mpdu got bad)) s

/-- MESH_SACK_TIMEOUT (R379). -/
def execMeshSackTimeout (nbr mpdu : Nat) (s : State) : Out := onLogic (fun t => t.onSpn (sackTimeout nbr mpdu)) s

/-- MESH_LD_OVC (R375). -/
def execMeshLdOvc (s : State) : Out := onLogic (fun t => t.onIo ldOvc) s

/-- TM_UPDATE (R386). -/
def execTmUpdate (nbr : Nat) (m : ToneMap) (tagOk : Bool) (s : State) : Out := onLogic (fun t => t.onSpn (tmUpdate nbr m tagOk)) s

/-- TM_ACK (R385). -/
def execTmAck (nbr tmi : Nat) (tagOk : Bool) (s : State) : Out := onLogic (fun t => t.onSpn (tmAck nbr tmi tagOk)) s

/-- OLD_TMI_EXPIRY (R385). -/
def execOldTmiExpiry (nbr : Nat) (s : State) : Out := onLogic (fun t => { t with spn := oldTmi nbr t.spn t.io }) s

/-- TM_UPDATE_DUE (R383). -/
def execTmUpdateDue (nbr : Nat) (snr : List Int) (spread : Nat) (s : State) : Out :=
  onLogic (fun t => t.onSpn (tmDue nbr snr spread)) s

/-- NBR_LOST (R386). -/
def execNbrLost (nbr : Nat) (s : State) : Out := onLogic (fun t => t.onSpn (nbrLost nbr)) s

/-- NBR_REPORT (R387): the metrics of the links on which the node transmits. -/
def execNbrReport (nbr : Nat) (l : List (Nat × Nat)) (tagOk : Bool) (s : State) : Out :=
  onLogic (fun t => { t with spn := nbrReport nbr l tagOk t.spn t.io }) s

/-- NBR_REPORT_SEND (R387). -/
def execNbrReportSend (meas : List (Nat × Nat × Nat)) (s : State) : Out := onLogic (fun t => t.onSpn (nbrReportSend meas)) s

/-- MESH_ROUTE_PASS (R387). -/
def execMeshRoutePass (s : State) : Out := onLogic (fun t => t.onSpn meshRoutePass) s

/-- ROUTE_SET (R388). -/
def execRouteSet (node : Nat) (hops : List (Nat × Nat)) (relay tagOk : Bool) (s : State) : Out :=
  onLogic (fun t => { t with spn := routeSet node hops relay tagOk t.spn }) s

/-- JOIN_REQ (R390). -/
def execJoinReq (addr id : Nat) (tagOk : Bool) (s : State) : Out := onLogic (fun t => t.onSpn (joinReq addr id tagOk)) s

/-- BEACON_SEND (R392). -/
def execBeaconSend (s : State) : Out := onLogic (fun t => t.onSpn beaconSend) s

/-- BEACON (R393). -/
def execBeacon (netId act other : Nat) (tagOk : Bool) (s : State) : Out := onLogic (fun t => t.onSpn (beaconHeard netId act other tagOk)) s

/-- MESH_SYNC_LOST (R392). -/
def execMeshSyncLost (s : State) : Out := onLogic (fun t => t.onIo meshSyncLost) s

/-- FORCE_ROBUST (R386): SPN.CTRL is written with FORCE_ROBUST set and its other bits as they read. -/
def execForceRobust (who : Who) (s : State) : Out :=
  onWho who (fun t => t.spnCtl who (t.io.reg Reg.SPN.CTRL ||| 0x10) []) s

/-- TM_REFRESH (R383): SPN.CTRL is written with TM_REFRESH set and its other bits as they read. -/
def execTmRefresh (who : Who) (maps : List (Nat × List Int × Nat)) (s : State) : Out :=
  onWho who (fun t => t.spnCtl who (t.io.reg Reg.SPN.CTRL ||| 0x100) maps) s

end Sys2Proof.Machine
end

