-- ==== Sys2Proof/Machine/ExThrm.lean ====
section
/-! DEFINITION. Sys2Proof/Machine/ExThrm.lean: commands of chapter 05: observers, coolant circuits, COOL_CMD receivers. -/
namespace Sys2Proof.Machine

/-- THRM_STEP (R190), and what Gauntlet reads of its trip flags (R211, R212). -/
def execThrmStep (residue : List Nat) (s : State) : Out :=
  onLogic (fun t =>
    let u := t.onThrm (thrmStep t.io.active t.ctle residue t.current t.point)
    (State.gntAct (gntTick u.thrm) u).settle) s

/-- OBSERVER_FAULT (R193). -/
def execObserverFault (o : Nat) (s : State) : Out := onLogic (fun t => if t.io.active then t.onThrm (observerFault o) else t) s

/-- RECOVER_EXPIRY (R197). -/
def execRecoverExpiry (o : Nat) (s : State) : Out :=
  onLogic (fun t => if t.io.active then t.onThrm (recoverExpiry o fun i => t.point (bits (inWord t.io o i) 24 0)) else t) s

/-- CIRC_RUNON_END (R203). -/
def execCircRunonEnd (k : Nat) (s : State) : Out :=
  onLogic (fun t => if t.io.active then (t.onThrm (runonEnd t.ctle k)).settle else t) s

/-- COOL_CMD_SEND (R207). -/
def execCoolCmdSend (k : Nat) (s : State) : Out := onLogic (fun t => t.onThrm (coolCmdSend t.io.active k)) s

/-- COOL_CMD_RECEIVE (R208). -/
def execCoolCmdReceive (node hnow : Nat) (m : AtkMsg) (s : State) : Out :=
  onDie (nodeIn node hnow 6 m fun t => { t with thrm := coolApply node m.payload t.thrm }) s

/-- COOL_CMD_EXPIRY (R210). -/
def execCoolCmdExpiry (node ch hnow : Nat) (s : State) : Out := onDie (fun t => { t with thrm := coolExpiry node ch hnow t.thrm }) s

/-- CIRC_ENABLE (R206): a write of CCTL with EN 1. -/
def execCircEnable (who : Who) (k : Nat) (v : Word) (s : State) : Out :=
  onLogic (fun t => t.circCtl who (k % 64) (setBits v 31 31 1)) s

end Sys2Proof.Machine
end

