-- ==== Sys2Proof/Machine/Dispatch.lean ====
section
/-! DEFINITION. Sys2Proof/Machine/Dispatch.lean: the effect of a command on everything but the queue. -/
namespace Sys2Proof.Machine

def exec (i : Instr) (s : State) : Host.Outcome State Fault Refusal :=
  match i with
  | .registerWrite who a v => Sys2Proof.Machine.execRegisterWrite who a v s
  | .loReadLatch who a => Sys2Proof.Machine.execLoReadLatch who a s
  | .unmappedAccess who write a v => Sys2Proof.Machine.execUnmappedAccess who write a v s
  | .safetyLaneFrame => Sys2Proof.Machine.execSafetyLaneFrame s
  | .safetyLaneTimeout => Sys2Proof.Machine.execSafetyLaneTimeout s
  | .generalLinkLoss => Sys2Proof.Machine.execGeneralLinkLoss s
  | .generalLinkReturn => Sys2Proof.Machine.execGeneralLinkReturn s
  | .allocationTick ev => Sys2Proof.Machine.execAllocationTick ev s
  | .tickAbandon => Sys2Proof.Machine.execTickAbandon s
  | .renewSuspend => Sys2Proof.Machine.execRenewSuspend s
  | .modelSwap who => Sys2Proof.Machine.execModelSwap who s
  | .modelSwapEffect => Sys2Proof.Machine.execModelSwapEffect s
  | .modelDataAccess who write v => Sys2Proof.Machine.execModelDataAccess who write v s
  | .priceColdReset who => Sys2Proof.Machine.execPriceColdReset who s
  | .shedHoldExpiry d => Sys2Proof.Machine.execShedHoldExpiry d s
  | .routingPass => Sys2Proof.Machine.execRoutingPass s
  | .routeReport m => Sys2Proof.Machine.execRouteReport m s
  | .closeTimeout c => Sys2Proof.Machine.execCloseTimeout c s
  | .drainTimeout c => Sys2Proof.Machine.execDrainTimeout c s
  | .openTimeout c => Sys2Proof.Machine.execOpenTimeout c s
  | .queryTimeout c => Sys2Proof.Machine.execQueryTimeout c s
  | .routeClr who v => Sys2Proof.Machine.execRouteClr who v s
  | .matrixIdWrite who v => Sys2Proof.Machine.execMatrixIdWrite who v s
  | .cabStatus m => Sys2Proof.Machine.execCabStatus m s
  | .leaseAck m => Sys2Proof.Machine.execLeaseAck m s
  | .ackTimeout t => Sys2Proof.Machine.execAckTimeout t s
  | .holdoffEnd => Sys2Proof.Machine.execHoldoffEnd s
  | .windDownWrite who v => Sys2Proof.Machine.execWindDownWrite who v s
  | .tblSelWrite who v => Sys2Proof.Machine.execTblSelWrite who v s
  | .holderGrantReceive node tgt hnow ma mv held m => Sys2Proof.Machine.execHolderGrantReceive node tgt hnow ma mv held m s
  | .holderLeaseStart node tgt hnow => Sys2Proof.Machine.execHolderLeaseStart node tgt hnow s
  | .holderLeaseExpiry node tgt hnow => Sys2Proof.Machine.execHolderLeaseExpiry node tgt hnow s
  | .holderRundownEnd node tgt hnow => Sys2Proof.Machine.execHolderRundownEnd node tgt hnow s
  | .holderTimeLoss node tgt hnow => Sys2Proof.Machine.execHolderTimeLoss node tgt hnow s
  | .holderForget node tgt hnow => Sys2Proof.Machine.execHolderForget node tgt hnow s
  | .ctleFrame ev => Sys2Proof.Machine.execCtleFrame ev s
  | .evalMiss slot => Sys2Proof.Machine.execEvalMiss slot s
  | .missAlarm slot => Sys2Proof.Machine.execMissAlarm slot s
  | .slotEnable who slot v => Sys2Proof.Machine.execSlotEnable who slot v s
  | .slotDisable who slot v => Sys2Proof.Machine.execSlotDisable who slot v s
  | .shadowWrite who slot place v => Sys2Proof.Machine.execShadowWrite who slot place v s
  | .freezeSet who slot v => Sys2Proof.Machine.execFreezeSet who slot v s
  | .freezeCommit who slot v => Sys2Proof.Machine.execFreezeCommit who slot v s
  | .integratorWrite who slot hi v => Sys2Proof.Machine.execIntegratorWrite who slot hi v s
  | .genEnable who g v => Sys2Proof.Machine.execGenEnable who g v s
  | .genTargetWrite who g v => Sys2Proof.Machine.execGenTargetWrite who g v s
  | .genLimitWrite who g which v => Sys2Proof.Machine.execGenLimitWrite who g which v s
  | .setpointReceive node hnow m => Sys2Proof.Machine.execSetpointReceive node hnow m s
  | .setpointExpiry node ch hnow => Sys2Proof.Machine.execSetpointExpiry node ch hnow s
  | .thrmStep residue => Sys2Proof.Machine.execThrmStep residue s
  | .observerFault o => Sys2Proof.Machine.execObserverFault o s
  | .recoverExpiry o => Sys2Proof.Machine.execRecoverExpiry o s
  | .circRunonEnd k => Sys2Proof.Machine.execCircRunonEnd k s
  | .coolCmdSend k => Sys2Proof.Machine.execCoolCmdSend k s
  | .coolCmdReceive node hnow m => Sys2Proof.Machine.execCoolCmdReceive node hnow m s
  | .coolCmdExpiry node ch hnow => Sys2Proof.Machine.execCoolCmdExpiry node ch hnow s
  | .circEnable who k v => Sys2Proof.Machine.execCircEnable who k v s
  | .pointBlock fifo m => Sys2Proof.Machine.execPointBlock fifo m s
  | .addRange who => Sys2Proof.Machine.execAddRange who s
  | .delRange who => Sys2Proof.Machine.execDelRange who s
  | .lookup who => Sys2Proof.Machine.execLookup who s
  | .setProfile who => Sys2Proof.Machine.execSetProfile who s
  | .defNodes who => Sys2Proof.Machine.execDefNodes who s
  | .delNodes who => Sys2Proof.Machine.execDelNodes who s
  | .stashRetry => Sys2Proof.Machine.execStashRetry s
  | .rehashRequest who => Sys2Proof.Machine.execRehashRequest who s
  | .rehashEnd => Sys2Proof.Machine.execRehashEnd s
  | .pressClr who => Sys2Proof.Machine.execPressClr who s
  | .sweepVisit ecc => Sys2Proof.Machine.execSweepVisit ecc s
  | .rollupPass residue => Sys2Proof.Machine.execRollupPass residue s
  | .rollLate => Sys2Proof.Machine.execRollLate s
  | .profSelWrite who v => Sys2Proof.Machine.execProfSelWrite who v s
  | .sprofSelWrite who v => Sys2Proof.Machine.execSprofSelWrite who v s
  | .rdIdxWrite who v => Sys2Proof.Machine.execRdIdxWrite who v s
  | .nodeSelWrite who v => Sys2Proof.Machine.execNodeSelWrite who v s
  | .vehicleFrame tcp m => Sys2Proof.Machine.execVehicleFrame tcp m s
  | .vtunToHead hnow p => Sys2Proof.Machine.execVtunToHead hnow p s
  | .headTxAt d hnow => Sys2Proof.Machine.execHeadTxAt d hnow s
  | .fragmentTimeout d ch fid => Sys2Proof.Machine.execFragmentTimeout d ch fid s
  | .pilotReport m => Sys2Proof.Machine.execPilotReport m s
  | .pilotCommand d hnow duty lock lines => Sys2Proof.Machine.execPilotCommand d hnow duty lock lines s
  | .ctlClose d hnow id => Sys2Proof.Machine.execCtlClose d hnow id s
  | .ctlOpen d hnow id => Sys2Proof.Machine.execCtlOpen d hnow id s
  | .ctlVolt d hnow id mv ma => Sys2Proof.Machine.execCtlVolt d hnow id mv ma s
  | .ctlDischOn d hnow id => Sys2Proof.Machine.execCtlDischOn d hnow id s
  | .ctlDischOff d hnow id => Sys2Proof.Machine.execCtlDischOff d hnow id s
  | .ctlIsoStart d hnow id => Sys2Proof.Machine.execCtlIsoStart d hnow id s
  | .ctlIsoStop d hnow id => Sys2Proof.Machine.execCtlIsoStop d hnow id s
  | .ctlResponse m => Sys2Proof.Machine.execCtlResponse m s
  | .headControlLoss d hnow low => Sys2Proof.Machine.execHeadControlLoss d hnow low s
  | .headStatus m => Sys2Proof.Machine.execHeadStatus m s
  | .headStatusStale d => Sys2Proof.Machine.execHeadStatusStale d s
  | .linkUp d => Sys2Proof.Machine.execLinkUp d s
  | .sdpRequest d tls => Sys2Proof.Machine.execSdpRequest d tls s
  | .sapRequest d offers => Sys2Proof.Machine.execSapRequest d offers s
  | .clientHello d e => Sys2Proof.Machine.execClientHello d e s
  | .slowPathRequest d code words u bad => Sys2Proof.Machine.execSlowPathRequest d code words u bad s
  | .cableCheckRequest d u => Sys2Proof.Machine.execCableCheckRequest d u s
  | .prechargeRequest d tgt => Sys2Proof.Machine.execPrechargeRequest d tgt s
  | .energyStartRequest d => Sys2Proof.Machine.execEnergyStartRequest d s
  | .fastPathRequest d kind u => Sys2Proof.Machine.execFastPathRequest d kind u s
  | .chargeStandby d => Sys2Proof.Machine.execChargeStandby d s
  | .stopRequest d => Sys2Proof.Machine.execStopRequest d s
  | .sessionEndRequest d => Sys2Proof.Machine.execSessionEndRequest d s
  | .txMsg first words encodes => Sys2Proof.Machine.execTxMsg first words encodes s
  | .cmdEnergyEn d low => Sys2Proof.Machine.execCmdEnergyEn d low s
  | .cmdEnergyDis d low => Sys2Proof.Machine.execCmdEnergyDis d low s
  | .cmdStop d low => Sys2Proof.Machine.execCmdStop d low s
  | .cmdResetFault d low => Sys2Proof.Machine.execCmdResetFault d low s
  | .fwTimeout d txn => Sys2Proof.Machine.execFwTimeout d txn s
  | .sessionTimeout d n => Sys2Proof.Machine.execSessionTimeout d n s
  | .fastReport d => Sys2Proof.Machine.execFastReport d s
  | .certDataWrite who v => Sys2Proof.Machine.execCertDataWrite who v s
  | .certCommit who v parses => Sys2Proof.Machine.execCertCommit who v parses s
  | .streamForget ty src node => Sys2Proof.Machine.execStreamForget ty src node s
  | .keyGenExpiry slot => Sys2Proof.Machine.execKeyGenExpiry slot s
  | .appMessage m => Sys2Proof.Machine.execAppMessage m s
  | .atkTx ty sub dst p => Sys2Proof.Machine.execAtkTx ty sub dst p s
  | .ethTx port bs => Sys2Proof.Machine.execEthTx port bs s
  | .ethFrameReceive port kind bs => Sys2Proof.Machine.execEthFrameReceive port kind bs s
  | .ptpMessage ofs port utc => Sys2Proof.Machine.execPtpMessage ofs port utc s
  | .timeSyncSend med lag => Sys2Proof.Machine.execTimeSyncSend med lag s
  | .timeSync node hnow elapsed m => Sys2Proof.Machine.execTimeSync node hnow elapsed m s
  | .timeHoldLoss node => Sys2Proof.Machine.execTimeHoldLoss node s
  | .plcaBeaconConflict seg => Sys2Proof.Machine.execPlcaBeaconConflict seg s
  | .fabricLinkChange port up lock => Sys2Proof.Machine.execFabricLinkChange port up lock s
  | .fabricLost => Sys2Proof.Machine.execFabricLost s
  | .fabNodeSel who v => Sys2Proof.Machine.execFabNodeSel who v s
  | .canFrameReceive c f tagOk => Sys2Proof.Machine.execCanFrameReceive c f tagOk s
  | .canSegmentTimeout c id => Sys2Proof.Machine.execCanSegmentTimeout c id s
  | .canRxAck who c v => Sys2Proof.Machine.execCanRxAck who c v s
  | .canTxReady who c e => Sys2Proof.Machine.execCanTxReady who c e s
  | .canTxCancel who c e busy ph => Sys2Proof.Machine.execCanTxCancel who c e busy ph s
  | .canTxFlush who c busy ph => Sys2Proof.Machine.execCanTxFlush who c busy ph s
  | .canTxComplete c e res => Sys2Proof.Machine.execCanTxComplete c e res s
  | .canBusError c e rx => Sys2Proof.Machine.execCanBusError c e rx s
  | .canBusOffRecovery c seqs => Sys2Proof.Machine.execCanBusOffRecovery c seqs s
  | .hostOutWrite who hi => Sys2Proof.Machine.execHostOutWrite who hi s
  | .meshDataFrame fc pbs drop tagOk => Sys2Proof.Machine.execMeshDataFrame fc pbs drop tagOk s
  | .meshSack nbr mpdu got bad => Sys2Proof.Machine.execMeshSack nbr mpdu got bad s
  | .meshSackTimeout nbr mpdu => Sys2Proof.Machine.execMeshSackTimeout nbr mpdu s
  | .meshLdOvc => Sys2Proof.Machine.execMeshLdOvc s
  | .tmUpdate nbr t tagOk => Sys2Proof.Machine.execTmUpdate nbr t tagOk s
  | .tmAck nbr tmi tagOk => Sys2Proof.Machine.execTmAck nbr tmi tagOk s
  | .oldTmiExpiry nbr => Sys2Proof.Machine.execOldTmiExpiry nbr s
  | .tmUpdateDue nbr snr spread => Sys2Proof.Machine.execTmUpdateDue nbr snr spread s
  | .nbrLost nbr => Sys2Proof.Machine.execNbrLost nbr s
  | .nbrReport nbr l tagOk => Sys2Proof.Machine.execNbrReport nbr l tagOk s
  | .meshRoutePass => Sys2Proof.Machine.execMeshRoutePass s
  | .routeSet node hops relay tagOk => Sys2Proof.Machine.execRouteSet node hops relay tagOk s
  | .joinReq addr id tagOk => Sys2Proof.Machine.execJoinReq addr id tagOk s
  | .beaconSend => Sys2Proof.Machine.execBeaconSend s
  | .beacon netId act other tagOk => Sys2Proof.Machine.execBeacon netId act other tagOk s
  | .forceRobust who => Sys2Proof.Machine.execForceRobust who s
  | .tmRefresh who maps => Sys2Proof.Machine.execTmRefresh who maps s
  | .meterBlock m => Sys2Proof.Machine.execMeterBlock m s
  | .channelAbsent c => Sys2Proof.Machine.execChannelAbsent c s
  | .metrologySample raw bad => Sys2Proof.Machine.execMetrologySample raw bad s
  | .meterPointFault p => Sys2Proof.Machine.execMeterPointFault p s
  | .sealOpen => Sys2Proof.Machine.execSealOpen s
  | .sealClose => Sys2Proof.Machine.execSealClose s
  | .calWrite who e w v => Sys2Proof.Machine.execCalWrite who e w v s
  | .calRefAnnounce m => Sys2Proof.Machine.execCalRefAnnounce m s
  | .calRefResult m => Sys2Proof.Machine.execCalRefResult m s
  | .legalTimeSave => Sys2Proof.Machine.execLegalTimeSave s
  | .legalTimeHeld => Sys2Proof.Machine.execLegalTimeHeld s
  | .intervalClose => Sys2Proof.Machine.execIntervalClose s
  | .txnOpen who => Sys2Proof.Machine.execTxnOpen who s
  | .txnClose who => Sys2Proof.Machine.execTxnClose who s
  | .txnAutoClose c => Sys2Proof.Machine.execTxnAutoClose c s
  | .calLoad who sigOk => Sys2Proof.Machine.execCalLoad who sigOk s
  | .calCancel who => Sys2Proof.Machine.execCalCancel who s
  | .civilAdj who => Sys2Proof.Machine.execCivilAdj who s
  | .display who => Sys2Proof.Machine.execDisplay who s
  | .prepay who => Sys2Proof.Machine.execPrepay who s
  | .archRead who => Sys2Proof.Machine.execArchRead who s
  | .supplyEarlyWarning vhv pfailLow => Sys2Proof.Machine.execSupplyEarlyWarning vhv pfailLow s
  | .archivePageDue kind ch ok => Sys2Proof.Machine.execArchivePageDue kind ch ok s
  | .archiveWriteDone ok => Sys2Proof.Machine.execArchiveWriteDone ok s
  | .tokenEntry m tokOk => Sys2Proof.Machine.execTokenEntry m tokOk s
  | .tokenUnlock c => Sys2Proof.Machine.execTokenUnlock c s
  | .checkRequest m => Sys2Proof.Machine.execCheckRequest m s
  | .checkClear disp => Sys2Proof.Machine.execCheckClear disp s
  | .ledgerDelta h x => Sys2Proof.Machine.execLedgerDelta h x s
  | .getId who => Sys2Proof.Machine.execGetId who s
  | .attest who sram => Sys2Proof.Machine.execAttest who sram s
  | .random who sram => Sys2Proof.Machine.execRandom who sram s
  | .hlmStatus who => Sys2Proof.Machine.execHlmStatus who s
  | .provision who sigOk => Sys2Proof.Machine.execProvision who sigOk s
  | .ownerFuse who => Sys2Proof.Machine.execOwnerFuse who s
  | .returnPart who sigOk => Sys2Proof.Machine.execReturnPart who sigOk s
  | .kuInstall src sigOk wrapOk => Sys2Proof.Machine.execKuInstall src sigOk wrapOk s
  | .kuDelete src sigOk wrapOk => Sys2Proof.Machine.execKuDelete src sigOk wrapOk s
  | .kuGenerate src sigOk wrapOk => Sys2Proof.Machine.execKuGenerate src sigOk wrapOk s
  | .kuLifecycle src sigOk wrapOk => Sys2Proof.Machine.execKuLifecycle src sigOk wrapOk s
  | .kuOwnerRevoke src sigOk wrapOk => Sys2Proof.Machine.execKuOwnerRevoke src sigOk wrapOk s
  | .kuTamperAck src sigOk wrapOk => Sys2Proof.Machine.execKuTamperAck src sigOk wrapOk s
  | .tamperSensed src => Sys2Proof.Machine.execTamperSensed src s
  | .vbatLoss => Sys2Proof.Machine.execVbatLoss s
  | .vbatSwitchover vhv => Sys2Proof.Machine.execVbatSwitchover vhv s
  | .rngHealthFail => Sys2Proof.Machine.execRngHealthFail s
  | .rngRecover => Sys2Proof.Machine.execRngRecover s
  | .inputDemand n => Sys2Proof.Machine.execInputDemand n s
  | .inputGlitch n => Sys2Proof.Machine.execInputGlitch n s
  | .testPulse n held crossed => Sys2Proof.Machine.execTestPulse n held crossed s
  | .discTimeout n => Sys2Proof.Machine.execDiscTimeout n s
  | .darkTest p ok ma => Sys2Proof.Machine.execDarkTest p ok ma s
  | .lightTest p follows ma => Sys2Proof.Machine.execLightTest p follows ma s
  | .pairTestsPass p => Sys2Proof.Machine.execPairTestsPass p s
  | .coilOvercurrent p ma => Sys2Proof.Machine.execCoilOvercurrent p ma s
  | .weldCheck p => Sys2Proof.Machine.execWeldCheck p s
  | .gntHeadStale d => Sys2Proof.Machine.execGntHeadStale d s
  | .safeStopTimeout p => Sys2Proof.Machine.execSafeStopTimeout p s
  | .escalation => Sys2Proof.Machine.execEscalation s
  | .lockstepFail => Sys2Proof.Machine.execLockstepFail s
  | .safeAckRelease => Sys2Proof.Machine.execSafeAckRelease s
  | .ackStuck => Sys2Proof.Machine.execAckStuck s
  | .ackWindowExpiry => Sys2Proof.Machine.execAckWindowExpiry s
  | .ackCmd who v => Sys2Proof.Machine.execAckCmd who v s
  | .roleHoldTimeout => Sys2Proof.Machine.execRoleHoldTimeout s
  | .heartbeatLost => Sys2Proof.Machine.execHeartbeatLost s
  | .mirrorLaneChange lane up => Sys2Proof.Machine.execMirrorLaneChange lane up s
  | .tickFrameReceive h body => Sys2Proof.Machine.execTickFrameReceive h body s
  | .checkpointFrame h d x => Sys2Proof.Machine.execCheckpointFrame h d x s
  | .imageFrame h img => Sys2Proof.Machine.execImageFrame h img s
  | .imageReq h => Sys2Proof.Machine.execImageReq h s
  | .helloFrame h p => Sys2Proof.Machine.execHelloFrame h p s
  | .helloSend => Sys2Proof.Machine.execHelloSend s
  | .mirStartup => Sys2Proof.Machine.execMirStartup s
  | .partnerReleased => Sys2Proof.Machine.execPartnerReleased s
  | .coldTakeover => Sys2Proof.Machine.execColdTakeover s
  | .roleClaimSample => Sys2Proof.Machine.execRoleClaimSample s
  | .giveUp => Sys2Proof.Machine.execGiveUp s
  | .dualActive => Sys2Proof.Machine.execDualActive s
  | .handover who => Sys2Proof.Machine.execHandover who s
  | .queueFill who q w => Sys2Proof.Machine.execQueueFill who q w s
  | .queueReserve who q => Sys2Proof.Machine.execQueueReserve who q s
  | .queueLength who q v => Sys2Proof.Machine.execQueueLength who q v s
  | .queueDrain who q bad => Sys2Proof.Machine.execQueueDrain who q bad s
  | .packetAbandon q => Sys2Proof.Machine.execPacketAbandon q s
  | .queueFlush who q => Sys2Proof.Machine.execQueueFlush who q s
  | .queueMark who q => Sys2Proof.Machine.execQueueMark who q s
  | .queueRewind who q => Sys2Proof.Machine.execQueueRewind who q s
  | .bankOwnerWrite who b v => Sys2Proof.Machine.execBankOwnerWrite who b v s
  | .bankHandoverDone b => Sys2Proof.Machine.execBankHandoverDone b s
  | .bankModeWrite who b v => Sys2Proof.Machine.execBankModeWrite who b v s
  | .scratchpadAccess pa pb => Sys2Proof.Machine.execScratchpadAccess pa pb s
  | .errPop who a v => Sys2Proof.Machine.execErrPop who a v s
  | .errAck who a v => Sys2Proof.Machine.execErrAck who a v s
  | .mittenRegion bad => Sys2Proof.Machine.execMittenRegion bad s
  | .dramScrub ecc word => Sys2Proof.Machine.execDramScrub ecc word s
  | .pwmPeriodStart n => Sys2Proof.Machine.execPwmPeriodStart n s
  | .dutyWrite who n v => Sys2Proof.Machine.execDutyWrite who n v s
  | .lswOvercurrent n m => Sys2Proof.Machine.execLswOvercurrent n m s
  | .inrushEnd n atLimit m => Sys2Proof.Machine.execInrushEnd n atLimit m s
  | .retryPauseEnd n => Sys2Proof.Machine.execRetryPauseEnd n s
  | .retryCountReset n => Sys2Proof.Machine.execRetryCountReset n s
  | .lswOvertemp n m => Sys2Proof.Machine.execLswOvertemp n m s
  | .thWarn n m => Sys2Proof.Machine.execThWarn n m s
  | .ocLatchClear who n => Sys2Proof.Machine.execOcLatchClear who n s
  | .thLatchClear who n => Sys2Proof.Machine.execThLatchClear who n s
  | .openLoad n above since m => Sys2Proof.Machine.execOpenLoad n above since m s
  | .underCurrent n since m => Sys2Proof.Machine.execUnderCurrent n since m s
  | .allOff who v => Sys2Proof.Machine.execAllOff who v s
  | .holdEnd => Sys2Proof.Machine.execHoldEnd s
  | .regEnable who r v vout => Sys2Proof.Machine.execRegEnable who r v vout s
  | .regDisable who r v => Sys2Proof.Machine.execRegDisable who r v s
  | .softStartDone r => Sys2Proof.Machine.execSoftStartDone r s
  | .vsetWrite who r v => Sys2Proof.Machine.execVsetWrite who r v s
  | .slewDone r => Sys2Proof.Machine.execSlewDone r s
  | .phaseDrop r l => Sys2Proof.Machine.execPhaseDrop r l s
  | .currentLimit r cycles quiet => Sys2Proof.Machine.execCurrentLimit r cycles quiet s
  | .regFault r c => Sys2Proof.Machine.execRegFault r c s
  | .regOtWarn r t => Sys2Proof.Machine.execRegOtWarn r t s
  | .telemetryWindow r t => Sys2Proof.Machine.execTelemetryWindow r t s
  | .supplySupervisorReset v => Sys2Proof.Machine.execSupplySupervisorReset v s
  | .powerOnReset => Sys2Proof.Machine.execPowerOnReset s
  | .warmReset cause => Sys2Proof.Machine.execWarmReset cause s
  | .swWarmReset who => Sys2Proof.Machine.execSwWarmReset who s
  | .swPowerOnReset who => Sys2Proof.Machine.execSwPowerOnReset who s
  | .pllLock => Sys2Proof.Machine.execPllLock s
  | .pllLockLoss => Sys2Proof.Machine.execPllLockLoss s
  | .bootRom sigOk => Sys2Proof.Machine.execBootRom sigOk s
  | .bootRescan => Sys2Proof.Machine.execBootRescan s
  | .trustedBoot ev => Sys2Proof.Machine.execTrustedBoot ev s
  | .flashRead who => Sys2Proof.Machine.execFlashRead who s
  | .flashProgram who => Sys2Proof.Machine.execFlashProgram who s
  | .flashErase4k who => Sys2Proof.Machine.execFlashErase4k who s
  | .flashErase64k who => Sys2Proof.Machine.execFlashErase64k who s
  | .flashDone err => Sys2Proof.Machine.execFlashDone err s
  | .xspiExtN low => Sys2Proof.Machine.execXspiExtN low s
  | .quietEnter who => Sys2Proof.Machine.execQuietEnter who s
  | .quietWakeRtc => Sys2Proof.Machine.execQuietWakeRtc s
  | .quietWakePin lowNs => Sys2Proof.Machine.execQuietWakePin lowNs s
  | .quietWakeNow who => Sys2Proof.Machine.execQuietWakeNow who s
  | .wdtKick who v => Sys2Proof.Machine.execWdtKick who v s
  | .wdtWarn => Sys2Proof.Machine.execWdtWarn s
  | .wdtExpiry => Sys2Proof.Machine.execWdtExpiry s
  | .rcFieldRead who a ev => Sys2Proof.Machine.execRcFieldRead who a ev s
  | .dramAccess who write o size data ecc => Sys2Proof.Machine.execDramAccess who write o size data ecc s
  | .softStopDone r => Sys2Proof.Machine.execSoftStopDone r s
  | .atkaiDiscard m => Sys2Proof.Machine.execAtkaiDiscard m s
  | .meshSyncLost => Sys2Proof.Machine.execMeshSyncLost s
  | .plcaChg seg ok ed => Sys2Proof.Machine.execPlcaChg seg ok ed s
  | .pcieLinkChange up width speed dst => Sys2Proof.Machine.execPcieLinkChange up width speed dst s
  | .mgmtLinkChange up => Sys2Proof.Machine.execMgmtLinkChange up s
  | .safetyInputClosed n => Sys2Proof.Machine.execSafetyInputClosed n s
  | .safeAckPress => Sys2Proof.Machine.execSafeAckPress s
  | .mirHbInEdge => Sys2Proof.Machine.execMirHbInEdge s
  | .partnerRoleLineChange low => Sys2Proof.Machine.execPartnerRoleLineChange low s
  | .legalSlewEnd => Sys2Proof.Machine.execLegalSlewEnd s
  | .grandmasterLoss me => Sys2Proof.Machine.execGrandmasterLoss me s
  | .nbrReportSend meas => Sys2Proof.Machine.execNbrReportSend meas s

end Sys2Proof.Machine
end

