-- ==== Sys2Proof/Machine/Idle.lean ====
section
/-! DEFINITION. Sys2Proof/Machine/Idle.lean: what a datapath cycle without a command does. -/
namespace Sys2Proof.Machine

/-- Site time advances by 5 ns, corrected by rate (R26, R659). Assumption log: 2 (DESIGN CHOICE). -/
def Clk.tick (c : Clk) : Clk :=
  let f := c.frac + 5000000000 + (5 * c.rate).toNat - (-(5 * c.rate)).toNat
  { c with now := c.now + f / 1000000000, frac := f % 1000000000, cyc := c.cyc + 1 }

/-- One datapath cycle: site time, and the clock of PD0. While PD1 to PD8 are held in reset, site time stands. Assumption log: 2 (DESIGN CHOICE). -/
def idle (s : State) : State :=
  if s.boot.held then { s with boot := { s.boot with rtc := s.boot.rtc + 5 } }
  else { s with io := { s.io with clk := s.io.clk.tick }, boot := { s.boot with rtc := s.boot.rtc + 5 } }

end Sys2Proof.Machine
end

