-- ==== Sys2Proof/Safety.lean ====
section
/-! DEFINITION. Sys2Proof/Safety.lean: what a safe run is, and the words that statements about commands share. -/
namespace Sys2Proof
open Machine

/-- A step that goes on: neither a fault nor a refusal. -/
def Machine.goesOn (o : Host.Outcome State Fault Refusal) : Prop := ∃ s, o = .next s

/-- Command `i` carried out at `s` ends in a next state, and `P` holds of that state. -/
def Machine.Ends (i : Instr) (s : State) (P : State → Prop) : Prop := ∃ t, exec i s = .next t ∧ P t

/-- Only what the blocks share differs: registers, error logs, queues, messages. No engine's own state, memory, die or supply. -/
def Machine.OnlyIo (s t : State) : Prop := t = { s with io := t.io }

/-- Of what the blocks share, only registers differ. -/
def Machine.OnlyRegs (s t : State) : Prop := t = { s with io := { s.io with regs := t.io.regs } }

/-- Every register outside the list `l` reads as before. -/
def Machine.RegsBut (l : List Nat) (s t : State) : Prop := ∀ a, a ∉ l → t.io.reg a = s.io.reg a

/-- An ACCESS error of an initiator is in a block's log: its code, initiator and address are the newest record, or the log was full
and counted it (R591, R594). -/
def Machine.Logged (b : Block) (n : Nat) (code : Nat) (who : Who) (a : Nat) (s t : State) : Prop :=
  let old := Tbl.get s.io.logs ErrLog.init (b.logKey n)
  let new := Tbl.get t.io.logs ErrLog.init (b.logKey n)
  if old.recs.length < 8 then ∃ v, new.recs = old.recs ++ [⟨1, code, who.code, v, a % 2 ^ 40, 0, s.now⟩]
  else new.recs = old.recs ∧ new.ovf = true ∧ new.ovfCnt = incSat old.ovfCnt

/-- What one field of a register holds after a granted write of `new` (R6, R11, R12); `held`: its condition holds. -/
def Machine.fieldAfter (f : Fld) (held : Bool) (old new : Word) : Nat :=
  match f.ty with
  | .rw | .sw => if held && f.issued (bits new f.hi f.lo) then bits new f.hi f.lo else bits old f.hi f.lo
  | .ro | .rc | .wo => bits old f.hi f.lo
  | .w1c => Nat.land (bits old f.hi f.lo) (2 ^ (f.hi - f.lo + 1) - 1 - bits new f.hi f.lo)
  | .w1s => Nat.lor (bits old f.hi f.lo) (bits new f.hi f.lo)

/-- A received message passes every check of R324 and is accepted. -/
def Machine.Passes (m : AtkMsg) (s : State) : Prop := s.io.flag Reg.FAB.CTRL 0 = true ∧ atkReject s.io s.io.active m = none

/-- The state once an accepted message has been received: its stream, its source's address, RX_MSG_CNT; its consumer then acts. -/
def Machine.received (m : AtkMsg) (s : State) : State := { s with io := atkAccept s.io m }

/-- A block's packet, made by `mk` from the GAP flag: queue `d.q` takes it, or, where the fill bank has no room, it is dropped, the
event is set and GAP waits for the next record. -/
def Machine.Wrote (d : Io.QDst) (mk : Bool → List Word64) (s t : State) : Prop :=
  match (s.io.queue d.q).putAll (mk (Tbl.get s.io.gaps false d.gapKey)) s.now with
  | some q => t.io.queue d.q = q ∧ Tbl.get t.io.gaps false d.gapKey = false
  | none => t.io.queue d.q = s.io.queue d.q ∧ t.io.flag (d.base + 0x80) d.evtBit = true ∧ Tbl.get t.io.gaps false d.gapKey = true

/-- SESS serves dispenser `d`: its unit acts, SESS.CTRL.EN and DCTL.EN are 1 (R293, R311). -/
def Machine.Serves (d : Nat) (s : State) : Prop :=
  (s.live = true ∧ s.io.active = true) ∧ s.io.flag Reg.SESS.CTRL 0 = true ∧ s.io.flag (Reg.SESS.DCTL d) 31 = true

/-- Of the whole state only dispenser `d`'s session and its message counters differ, with what the blocks share. -/
def Machine.OnlySess (d : Nat) (s t : State) : Prop :=
  t = { s with sess := { s.sess with disp := t.sess.disp, fid := t.sess.fid, txn := t.sess.txn, cmdId := t.sess.cmdId }, io := t.io } ∧
  ∀ j, j ≠ d → sesOf t.sess j = sesOf s.sess j

/-- The vehicle at `d` is answered: kind and result of the answer (see `sResp`). -/
def Machine.Answered (d kind result : Nat) (s t : State) : Prop :=
  ∃ v, t.io.evts = s.io.evts ++ [⟨"VEH_RESP", d, [(sesOf t.sess d).proto, kind, result] ++ v⟩]

/-- The STATE record of R315 for a session that was in `prev`, at the priority of R316. -/
def Machine.StateRec (d : Nat) (prev : SState) (s t : State) : Prop :=
  let y := sesOf t.sess d
  let prio := if y.st = .fault then 0xC else 8
  Wrote q6 (fun g => [qLenWord prio 1, qWord false true prio
    (0xB1 * 2 ^ 48 + d * 2 ^ 40 + y.st.code * 2 ^ 36 + prev.code * 2 ^ 28 + y.cause * 2 ^ 16 + b2n g * 2 ^ 35)]) s t

/-- The session at `d` has gone to FAULT with a cause (R293, R313): its timers stop but for the 100 ms of FAULT, and STATE and then
ERROR are written. -/
def Machine.Faulted (d cause detail : Nat) (s t : State) : Prop :=
  let x := sesOf s.sess d
  let y := sesOf t.sess d
  OnlySess d s t ∧ y.st = .fault ∧ y.cause = cause ∧ y.since = s.now ∧ y.energyEn = x.energyEn ∧ y.start = x.start ∧
  y.tmr = { STimers.init with fault := some (s.now + 100 * ms) } ∧ t.io.flag 0x40200080 3 = true ∧
  ∃ u : State, u.sess = t.sess ∧ StateRec d x.st s u ∧ Wrote q6 (fun g => [qLenWord 0xC 1, qWord false true 0xC
    (0xB4 * 2 ^ 48 + d * 2 ^ 40 + 11 * 2 ^ 36 + cause * 2 ^ 24 + detail % 2 ^ 24 + b2n g * 2 ^ 35)]) u t

/-- Sepia carries out a command: of the whole state only its metering and what the blocks share differ, as `P` says of the two; then
the display records that wait go to their heads (R452). -/
def Machine.Metered (i : Instr) (s : State) (P : MtrSt → Io → Prop) : Prop :=
  ∃ y io, exec i s = .next (State.hmiFlush { s with mtr := y, io := io }) ∧ P y io

/-- A Q8 record: the queue takes it with GAP as the flag says, or, where the fill bank has no room, it is dropped, Q8_DROP counts it and
GAP waits for the next record (R463). -/
def Machine.Wrote8 (prio payload : Nat) (io io' : Io) : Prop :=
  match (io.queue 8).putAll [qWord true true prio (payload + b2n (Tbl.get io.gaps false 8) * 2 ^ 47)] io.now with
  | some q => io'.queue 8 = q ∧ Tbl.get io'.gaps false 8 = false
  | none => io'.queue 8 = io.queue 8 ∧ io'.reg Reg.MTR.Q8_DROP = incSat (io.reg Reg.MTR.Q8_DROP) ∧ Tbl.get io'.gaps false 8 = true

/-- Every metering channel but `c` is as before. -/
def Machine.OnlyChan (c : Nat) (y y' : MtrSt) : Prop := ∀ k, k ≠ c → chOf y' k = chOf y k

/-- Gauntlet carries out a command: of the whole state only Gauntlet and what the blocks share differ, as `P` says of the two; then
the contactors of pairs that the die has opened open (R265). -/
def Machine.Guarded (i : Instr) (s : State) (P : GntSt → Io → Prop) : Prop :=
  ∃ g io, exec i s = .next (State.coils s { s with gnt := g, io := io }) ∧ P g io

/-- Packets are written to a queue one after another. -/
def Machine.WroteSeq (d : Io.QDst) : List (Bool → List Word64) → State → State → Prop
  | [], s, t => t.io.queue d.q = s.io.queue d.q ∧ Tbl.get t.io.gaps false d.gapKey = Tbl.get s.io.gaps false d.gapKey
  | mk :: r, s, t => ∃ u : State, u.io.now = s.io.now ∧ Wrote d mk s u ∧ WroteSeq d r u t

/-- A pair after a demand with a reaction and a cause (R516, R526): LOCKED and FAULTED pairs stay, and on SF1 a STOPPING one; an ON pair
goes to STOPPING on SF1, and any other opens. -/
def Machine.tripped (sf1 : Bool) (cause p : Nat) (s : State) : Pair :=
  let x := pairOf s.gnt p
  match x.st, sf1 with
  | .locked, _ | .faulted, _ | .stopping, true => x
  | .on, true => { x with st := .stopping, cause := cause, stop := some (stopOf p (s.gnt, s.io)) }
  | .closing, _ => { x with st := .locked, cause := cause, stop := none, mA := 0 }
  | _, _ => { x with st := .locked, cause := cause, stop := none, mA := 0, openAt := s.io.now }

/-- A Q9 record of one word. -/
def Machine.rec9 (prio payload : Nat) : Bool → List Word64 := fun g => [qWord true true prio (payload + b2n g * 2 ^ 35)]

/-- The SF1 end record of pair `p`'s safe stop, where one is going on: how it ends, and the ms since t0. -/
def Machine.stopEnded (p how : Nat) (s : State) : List (Bool → List Word64) :=
  match (pairOf s.gnt p).stop with
  | some st => [rec9 4 (0xC * 2 ^ 48 + p * 2 ^ 43 + 2 ^ 42 + how * 2 ^ 40 + satU 32 (odiv ((s.io.now - st.t0 : Nat) : Int) ms).toNat)]
  | none => []

/-- A step of the load switches: only the die and what the blocks share differ, as `P` says of the two; then duties delivered take effect
on channels without PWM, and ALL_OFF on all (R603, R613). -/
def Machine.Switched (i : Instr) (s : State) (P : PowSt → Io → Prop) : Prop :=
  ∃ p io, exec i s = .next (State.settle { s with pow := p, io := io }) ∧ P p io

/-- Of the die only channel `n` differs: it is `y`. -/
def Machine.ChanIs (n : Nat) (y : Chan) (p p' : PowSt) : Prop :=
  p' = { p with chan := p'.chan } ∧ chanOf p' n = y ∧ ∀ k, k ≠ n → chanOf p' k = chanOf p k

/-- Of the die only regulator `r` differs: it is `y`. -/
def Machine.RailIs (r : Nat) (y : Rail) (p p' : PowSt) : Prop :=
  p' = { p with rail := p'.rail } ∧ railOf p' r = y ∧ ∀ k, k ≠ r → railOf p' k = railOf p k

/-- Every register of `io'` outside the list reads as in `io`. -/
def Machine.RegsKept (l : List Nat) (io io' : Io) : Prop := ∀ a, a ∉ l → io'.reg a = io.reg a

/-- Queue `q` holds `y`, every other queue what it held; QUE.EVT_STAT shows that it stopped being empty (NE) and that a flag of Qn_FLAGS
became set (EXC). Nothing else of the machine but logs, `bus` and the halves of 64-bit reads differs. -/
def Machine.QueueIs (q : Nat) (y : Queue) (s t : State) : Prop :=
  let x := s.io.queue q
  t = { s with io := { s.io with regs := t.io.regs, queues := t.io.queues, logs := t.io.logs, esc := t.io.esc, escOver := t.io.escOver,
                                 bus := t.io.bus, stage := t.io.stage } } ∧
  t.io.queue q = y ∧ (∀ j, j ≠ q → t.io.queue j = s.io.queue j) ∧ RegsBut [0x40020080] s t ∧
  (x.empty = true → y.empty = false → t.io.flag 0x40020080 q = true) ∧
  ((x.overrun = false ∧ y.overrun = true) ∨ (x.abandon = false ∧ y.abandon = true) ∨ (x.flushed = false ∧ y.flushed = true) ∨
    (x.markLost = false ∧ y.markLost = true) → t.io.flag 0x40020080 (16 + q) = true)

/-- PD1 to PD8 run and the unit is ACTIVE or has no partner. -/
def Machine.Running (s : State) : Prop := s.live = true ∧ s.io.active = true

end Sys2Proof
end

