-- ==== Sys2Proof/Certificates/Slice0/Obligations.lean ====
section
/-! DEFINITION. Sys2Proof/Certificates/Slice0/Obligations.lean: the statements for the provers. -/
open Sys2Proof Sys2Proof.Machine

/-! The block as a whole. -/

/-- A step with a command in front of the queue is `exec` of that command on the state with the rest of the queue, whatever it answers. With no
command waiting a step is one 5 ns cycle of the datapath clock (the model's choice, assumption log entry 2): the RTC and, while the part
runs, the cycle count advance; nothing but the clock and the RTC differs. -/
def Obligations.StepRunsTheCommandInFront : Prop :=
  (∀ (i : Instr) (rest : List Instr) (s : State), step { s with pending := i :: rest } = exec i { s with pending := rest }) ∧
  (∀ s : State, s.pending = [] →
    ∃ t, step s = .next t ∧ t = { s with io := { s.io with clk := t.io.clk }, boot := { s.boot with rtc := s.boot.rtc + 5 } } ∧
      (s.boot.held = true → t.io.clk = s.io.clk) ∧
      (s.boot.held = false → s.io.clk.rate = 0 → s.io.clk.frac < 1000000000 →
        t.now = s.now + 5 ∧ t.io.clk.frac = s.io.clk.frac) ∧
      (s.boot.held = false → s.now ≤ t.now))

/-- Every command ends in a next state, whatever its operands and whatever the state, and leaves the queue as it is. The model's choices in it are
those of assumption log entries 12 and 14. -/
def Obligations.EveryCommandGoesOn : Prop :=
  ∀ (i : Instr) (s : State), ∃ t, exec i s = .next t ∧ t.pending = s.pending

/-- After reset every register reads its Reset column, every queue and log is empty, no command waits, the part runs with no image, and the
memories list nothing, which is their canonical form. The model's choices in it are those of assumption log entries 3, 7, 8 and 9. -/
def Obligations.ResetLeavesResetValues : Prop :=
  ((∀ a, State.reset.io.reg a = regReset a) ∧
  (∀ n, State.reset.io.queue n = Queue.init) ∧
  (∀ k, Tbl.get State.reset.io.logs ErrLog.init k = ErrLog.init) ∧
  State.reset.io.reg Reg.SYS.CHIP_ID = 0x72561002 ∧
  (∀ n, n < 16 → State.reset.view (0x4002011C + 0x40 * n) = some 0x40000000) ∧
  State.reset.pending = []) ∧
  (Memory.wf State.reset.mem = true)

/-- The memories' tables keep their canonical form (addresses strictly rising, no entry at the value of an unlisted address) through
every step, from any state in which they have it. The model's choices in it are those of assumption log entry 7. -/
def Obligations.MemoryFormIsKept : Prop :=
  ∀ s t : State, Memory.wf s.mem = true → step s = .next t → Memory.wf t.mem = true

/-! Registers (chapters 00 and 01). -/

/-- What a granted write leaves in each field of a register, by the field's type (R6), its issued encodings (R11) and its condition
(R12); bits of no field stay. For every register of every block. The model's choices in it are those of assumption log entry 15. -/
def Obligations.WriteFollowsFieldTypes : Prop :=
  ∀ (a : Nat) (d : RegDesc) (ok : Guard → Bool) (old new : Word), regDesc a = some d →
    (∀ f ∈ d.fields, bits (writeFields ok d.whole new d.fields old) f.hi f.lo = fieldAfter f (ok f.guard) old new) ∧
    (∀ i, i < 32 → (∀ f ∈ d.fields, i < f.lo ∨ f.hi < i) →
      bit (writeFields ok d.whole new d.fields old) i = bit old i)

/-- An access that R20 does not grant: a write is discarded, a read returns zero, and the initiator and address go to the log of the
target block (R21); an access to no region, window or register does the same and is logged in SYS (R674). -/
def Obligations.AccessesNotGrantedDoNothing : Prop :=
  (∀ (who : Who) (a : Nat) (v : Word) (s : State) (b : Block) (n o : Nat), s.live = true → blockAt a = some (b, n, o) →
    (regDesc a).isSome = true → mayWrite who a = false →
    Ends (.registerWrite who a v) s fun t =>
      OnlyIo s t ∧ t.io.regs = s.io.regs ∧ t.io.queues = s.io.queues ∧ t.io.stage = s.io.stage ∧ t.io.out = s.io.out ∧
      Logged b n 1 who a s t) ∧
  (∀ (who : Who) (a ev : Nat) (s : State) (b : Block) (n o : Nat), s.live = true → blockAt a = some (b, n, o) →
    (regDesc a).isSome = true → mayRead who a = false →
    Ends (.rcFieldRead who a ev) s (fun t =>
      OnlyIo s t ∧ t.io.bus = 0 ∧ t.io.regs = s.io.regs ∧ t.io.queues = s.io.queues ∧ Logged b n 1 who a s t) ∧
    Ends (.loReadLatch who a) s (fun t =>
      OnlyIo s t ∧ t.io.bus = 0 ∧ t.io.regs = s.io.regs ∧ t.io.queues = s.io.queues ∧ Logged b n 1 who a s t)) ∧
  (∀ (who : Who) (a : Nat) (v : Word) (s : State), s.live = true → mappedAt a = false →
    Ends (.unmappedAccess who true a v) s (fun t => OnlyIo s t ∧ t.io.regs = s.io.regs ∧ Logged .sys 0 1 who a s t) ∧
    Ends (.unmappedAccess who false a v) s (fun t =>
      OnlyIo s t ∧ t.io.regs = s.io.regs ∧ t.io.bus = 0 ∧ Logged .sys 0 1 who a s t))

/-- A granted write of a register of DRC, SESS or T1S, blocks whose registers have no effect of their own: every field by its type (R6, R11,
R12), no other register changes, and no engine. In every block, writing 1 clears a bit of EVT_STAT and 0 leaves it, and EVT_EN takes what is
written. The model's choices in it are those of assumption log entries 13 and 15. -/
def Obligations.RegisterWritesSetTheirFields : Prop :=
  (∀ (who : Who) (a : Nat) (v : Word) (s : State) (b : Block) (n o : Nat) (d : RegDesc), s.live = true →
    blockAt a = some (b, n, o) → (b = .drc ∨ b = .sess ∨ b = .t1s) → o < 0x90 ∨ 0xC0 ≤ o → regDesc a = some d → d.pair = 0 →
    mayWrite who a = true →
    Ends (.registerWrite who a v) s fun t =>
      let key := s.io.regKey a
      OnlyIo s t ∧ t.io.queues = s.io.queues ∧ RegsBut [key] s t ∧
      (∀ f ∈ d.fields, bits (t.io.reg key) f.hi f.lo = fieldAfter f (s.guardAt key f.guard) (s.io.reg key) v)) ∧
  (∀ (who : Who) (a : Nat) (v : Word) (s : State) (b : Block) (n o : Nat) (d : RegDesc), s.live = true →
    blockAt a = some (b, n, o) → o = 0x80 ∨ o = 0x84 → regDesc a = some d → mayWrite who a = true →
    Ends (.registerWrite who a v) s fun t =>
      t = { s with io := t.io, pow := t.pow } ∧ RegsBut [a] s t ∧
      (∀ f ∈ d.fields, ∀ i, f.lo ≤ i → i ≤ f.hi →
        bit (t.io.reg a) i = if o = 0x80 then bit (s.io.reg a) i && !bit v i else bit v i))

/-- A read of NAME_LO returns the low half and latches the high half, which the next read of NAME_HI returns whatever has changed since (R13). A
read returns what a register shows and leaves each RC field holding just what the same cycle brought, `ev`; every other field, and every
other register, stays (R6, R10). The model's choices in it are those of assumption log entry 13. -/
def Obligations.ReadsLatchAndClear : Prop :=
  (∀ (who : Who) (a : Nat) (s : State) (b : Block) (n o : Nat) (d dh : RegDesc), s.live = true →
    blockAt a = some (b, n, o) → b ≠ .que → b ≠ .alloc → b ≠ .can → o < 0x90 ∨ 0xC0 ≤ o → o + 4 < 0x10000 →
    regDesc a = some d → d.pair = 1 → regDesc (a + 4) = some dh → dh.pair = 2 → mayRead who a = true → mayRead who (a + 4) = true →
    Ends (.loReadLatch who a) s fun t =>
      let shown := fun k => (s.view (s.io.regKey k)).getD (s.io.reg (s.io.regKey k))
      OnlyIo s t ∧ t.io.regs = s.io.regs ∧ t.io.bus = (shown a).toNat ∧
      (∀ u : State, u.live = true → u.io.stage = t.io.stage →
        Ends (.rcFieldRead who (a + 4) 0) u fun w => w.io.bus = (shown (a + 4)).toNat ∧ w.io.regs = u.io.regs)) ∧
  (∀ (who : Who) (a ev : Nat) (s : State) (b : Block) (n o : Nat) (d : RegDesc), s.live = true →
    blockAt a = some (b, n, o) → b ≠ .que → b ≠ .alloc → b ≠ .can → o < 0x90 ∨ 0xC0 ≤ o → regDesc a = some d → d.pair = 0 →
    mayRead who a = true →
    Ends (.rcFieldRead who a ev) s fun t =>
      let key := s.io.regKey a
      OnlyIo s t ∧ t.io.bus = ((s.view key).getD (s.io.reg key)).toNat ∧ RegsBut [key] s t ∧
      (∀ f ∈ d.fields, bits (t.io.reg key) f.hi f.lo =
        if f.ty = .rc then ev % 2 ^ (f.hi - f.lo + 1) else bits (s.io.reg key) f.hi f.lo))

/-- Of a 64-bit pair of SESS, the write of NAME_LO changes no register; the write of NAME_HI takes the whole value into effect (R14). The model's
choices in it are those of assumption log entries 13 and 15. -/
def Obligations.PairTakesEffectWithItsHighHalf : Prop :=
  ∀ (who : Who) (a : Nat) (lo hi : Word) (s : State) (n o : Nat) (d dh : RegDesc), s.live = true →
    blockAt a = some (.sess, n, o) → o < 0x88 ∨ 0xC0 ≤ o → o + 4 < 0x10000 →
    regDesc a = some d → d.pair = 1 → regDesc (a + 4) = some dh → dh.pair = 2 → mayWrite who a = true → mayWrite who (a + 4) = true →
    Ends (.registerWrite who a lo) s fun t =>
      OnlyIo s t ∧ t.io.regs = s.io.regs ∧
      (∀ u : State, u.live = true → u.io.stage = t.io.stage →
        Ends (.registerWrite who (a + 4) hi) u fun w =>
          let kl := u.io.regKey a
          let kh := u.io.regKey (a + 4)
          OnlyIo u w ∧ RegsBut [kl, kh] u w ∧
          (kl ≠ kh → (∀ f ∈ d.fields, bits (w.io.reg kl) f.hi f.lo = fieldAfter f (u.guardAt kh f.guard) (u.io.reg kl) lo) ∧
            (∀ f ∈ dh.fields, bits (w.io.reg kh) f.hi f.lo = fieldAfter f (u.guardAt kh f.guard) (u.io.reg kh) hi)))

/-! Allocation and routing (chapters 01 and 02). -/

/-- ALLOCATION_TICK. A tick that completes runs its steps in the order of R31: 1 to 4, 5 (solve), 6 (commit), 7 (mirror), 8
(Gauntlet). It commits once, all of it (R32); the tick is then over, and its row does nothing a second time. The model's choices in it are those
of assumption log entries 1 and 12. -/
def Obligations.TickRunsItsStepsInOrder : Prop :=
  (∀ (ev : TickEv) (s : State), Running s → s.boot.tick ≤ s.tickNum → s.mir.pend = none → s.mir.started = false → mirState s.io ≠ 2 →
    let n := s.tickNum
    let s0 : State := { s with boot := { s.boot with tick := n + 1 } }
    let s4 := State.step5Start n ev.allocUe (State.steps1to4 n ev s0.placed)
    let ins := s4.dispIns n
    let sins := s4.srcIns n
    let r := allocStep5 n (n % 20 = 0) ins sins s4.alloc s4.io
    s4.alloc.ue = false → ev.allocRes = false → r.ok = true → ev.leaseRes = false → ev.commitAt < 48000 →
      exec (.allocationTick ev) s =
        .next (State.settle (State.step8 (State.step7 n ev.cycles (State.commitTick n ins sins r s4))))) ∧
  (∀ (ev : TickEv) (s : State), Running s → s.boot.tick ≤ s.tickNum →
    Ends (.allocationTick ev) s fun t =>
      t.boot.tick = s.tickNum + 1 ∧ t.mem = s.mem ∧ t.net = s.net ∧ t.spn = s.spn ∧ t.mtr = s.mtr) ∧
  (∀ (ev : TickEv) (u : State), u.live = true → u.tickNum < u.boot.tick → exec (.allocationTick ev) u = .next u)

/-- TICK_ABANDON, RENEW_SUSPEND. A tick that has not reached step 4 by cycle 48 000 is abandoned: the previous commit stays in force (R33). After
eight abandoned ticks in a row renewal is suspended: RENEW_SUSP reads 1 and the event is set (R35, R38); without a partner nothing else of
the registers changes. The model's choices in it are those of assumption log entries 21 and 22. -/
def Obligations.AbandonedTicks : Prop :=
  (∀ s : State, Running s → s.boot.tick ≤ s.tickNum → s.tickNum * tickNs + 240000 ≤ s.now → s.mir.pend = none →
    Ends .tickAbandon s fun t =>
      t.alloc = s.alloc ∧ t.boot = { s.boot with tick := s.tickNum + 1 } ∧ t.mem = s.mem ∧ t.net = s.net ∧ t.thrm = s.thrm ∧
      t.pnt = s.pnt ∧ t.spn = s.spn ∧ t.mtr = s.mtr ∧ t.hlm = s.hlm) ∧
  (∀ s : State, Running s → paired s.io = false → 8 ≤ s.io.fld Reg.SYS.TICK_STAT 23 16 → s.io.flag Reg.SYS.TICK_STAT 29 = false →
    Ends .renewSuspend s fun t =>
      t.io.flag Reg.SYS.TICK_STAT 29 = true ∧ t.io.flag 0x40000080 5 = true ∧ RegsBut [Reg.SYS.TICK_STAT, 0x40000080] s t ∧
      t = { s with io := t.io, pow := t.pow })

/-- MODEL_SWAP, MODEL_SWAP_EFFECT, MODEL_DATA_ACCESS. A pending copy that passes R49 waits for the first tick 100 µs later; one that
fails is refused with the first failing check's code. When the swap takes effect every price is zero and the routes and shedding
states stay (R50, R51). MODEL_DATA reads and writes a word of the pending copy, and MODEL_ADDR advances by 4. -/
def Obligations.SiteModelCommands : Prop :=
  (∀ (n : Nat) (s : State), s.live = true → s.io.flag Reg.ALLOC.MODEL_CTL 1 = false → modelCode s.alloc.modelP = 0 →
    Ends (.modelSwap (.core n)) s fun t =>
      t = { s with alloc := { s.alloc with swapAt := some (s.now + 100000) }, io := t.io } ∧
      t.io.fld Reg.ALLOC.MODEL_CTL 1 0 = 3 ∧ t.io.fld Reg.ALLOC.MODEL_CTL 15 8 = 0 ∧ RegsBut [Reg.ALLOC.MODEL_CTL] s t) ∧
  (∀ (n : Nat) (s : State), s.live = true → s.io.flag Reg.ALLOC.MODEL_CTL 1 = false → modelCode s.alloc.modelP ≠ 0 →
    Ends (.modelSwap (.core n)) s fun t =>
      OnlyIo s t ∧ t.io.fld Reg.ALLOC.MODEL_CTL 15 8 = modelCode s.alloc.modelP % 256 ∧ t.io.flag 0x40100080 8 = true ∧
      RegsBut [Reg.ALLOC.MODEL_CTL, 0x40100080] s t) ∧
  (∀ (at_ : Nat) (s : State), Running s → s.alloc.swapAt = some at_ → at_ ≤ s.tickNum * tickNs →
    Ends .modelSwapEffect s fun t =>
      t = { s with alloc := { s.alloc with model := s.alloc.modelP, swapAt := none, pi := [], ue := false }, io := t.io } ∧
      t.io.reg Reg.ALLOC.MODEL_VER = w32 (mVer s.alloc.modelP) ∧ t.io.fld Reg.ALLOC.MODEL_CTL 1 0 = 0 ∧
      t.io.flag 0x40100080 7 = true ∧ RegsBut [Reg.ALLOC.MODEL_CTL, Reg.ALLOC.MODEL_VER, 0x40100080] s t) ∧
  (∀ (n : Nat) (v : Word) (s : State), s.live = true → s.io.flag Reg.ALLOC.MODEL_CTL 1 = false →
    s.io.fld Reg.ALLOC.MODEL_ADDR 17 0 ≤ 0x27FF8 →
    Ends (.modelDataAccess (.core n) true v) s fun t =>
      let o := s.io.fld Reg.ALLOC.MODEL_ADDR 17 0
      t = { s with alloc := { s.alloc with modelP := t.alloc.modelP }, io := t.io } ∧
      mU32 t.alloc.modelP o = v.toNat ∧ t.io.fld Reg.ALLOC.MODEL_ADDR 17 0 = o + 4 ∧ RegsBut [Reg.ALLOC.MODEL_ADDR] s t ∧
      (∀ k, k < o ∨ o + 4 ≤ k → Tbl.get t.alloc.modelP 0 k = Tbl.get s.alloc.modelP 0 k)) ∧
  (∀ (n : Nat) (v : Word) (s : State), s.live = true → s.io.flag Reg.ALLOC.MODEL_CTL 1 = true →
    Ends (.modelDataAccess (.core n) true v) s fun t =>
      OnlyIo s t ∧ t.io.regs = s.io.regs ∧ Logged .alloc 0 4 (.core n) Reg.ALLOC.MODEL_DATA s t) ∧
  (∀ (n : Nat) (v : Word) (s : State), s.live = true → s.io.fld Reg.ALLOC.MODEL_ADDR 17 0 ≤ 0x27FF8 →
    Ends (.modelDataAccess (.core n) false v) s fun t =>
      OnlyIo s t ∧ t.io.bus = mU32 s.alloc.modelP (s.io.fld Reg.ALLOC.MODEL_ADDR 17 0) ∧
      t.io.fld Reg.ALLOC.MODEL_ADDR 17 0 = s.io.fld Reg.ALLOC.MODEL_ADDR 17 0 + 4 ∧ RegsBut [Reg.ALLOC.MODEL_ADDR] s t)

/-- CLOSE_TIMEOUT, DRAIN_TIMEOUT, OPEN_TIMEOUT, QUERY_TIMEOUT, ROUTE_REPORT, CAB_STATUS. A timer of R76 or R79 that runs out on an ACTIVE unit
takes its cabinet to FAULT, sets ROUTE_FAIL, and records the change; no other cabinet's route changes. The report that a CLOSING cabinet is
closed to its dispenser, with the last command's ROUTE_ID, makes it BOUND and ends its timer; a report that a BOUND cabinet is where it
should be changes nothing (R76, R84). A STATUS of a cabinet of the model, from the cabinet's node, becomes that cabinet's input, and no
other's (R70, R328). The model's choices in it are those of assumption log entries 12 and 199. -/
def Obligations.CabinetsFollowTheirReports : Prop :=
  (∀ (c x : Nat) (s : State), Running s → x ≤ s.now → (routeOf s.alloc c).st ≠ .fault →
    (let failed := fun (t : State) =>
      t = { s with alloc := t.alloc, io := t.io } ∧ (routeOf t.alloc c).st = .fault ∧ (routeOf t.alloc c).deadline = none ∧
      (routeOf t.alloc c).query = none ∧ t.io.flag 0x40100080 6 = true ∧
      (∀ k, k ≠ c → routeOf t.alloc k = routeOf s.alloc k) ∧ t.alloc.recs.length = s.alloc.recs.length + 1 ∧
      t.alloc.model = s.alloc.model ∧ t.alloc.pd = s.alloc.pd ∧ t.alloc.pc = s.alloc.pc
     ((routeOf s.alloc c).st = .closing → (routeOf s.alloc c).deadline = some x → Ends (.closeTimeout c) s failed) ∧
     ((routeOf s.alloc c).st = .draining → (routeOf s.alloc c).deadline = some x → Ends (.drainTimeout c) s failed) ∧
     ((routeOf s.alloc c).st = .opening → (routeOf s.alloc c).deadline = some x → Ends (.openTimeout c) s failed) ∧
     ((routeOf s.alloc c).query = some x → Ends (.queryTimeout c) s failed)) ∧
    (∀ u : State, (∀ y, (routeOf u.alloc c).deadline = some y → u.now < y) → (∀ y, (routeOf u.alloc c).query = some y → u.now < y) →
      exec (.closeTimeout c) u = .next u ∧ exec (.drainTimeout c) u = .next u ∧ exec (.openTimeout c) u = .next u ∧
      exec (.queryTimeout c) u = .next u)) ∧
  (∀ (m : AtkMsg) (d : Nat) (s : State), Running s → Passes m s → m.ty = 8 → m.sub = 3 →
    (let x := parseReport m.payload
     let r := routeOf s.alloc x.cab
     x.cab < nCab s.alloc.model → r.query = none → r.disp = some d → x.disp = some d → x.st = 2 →
     (r.st = .closing → x.id = r.cmdId →
       Ends (.routeReport m) s fun t =>
         t = { received m s with alloc := t.alloc } ∧ routeOf t.alloc x.cab = { r with st := .bound, deadline := none } ∧
         (∀ k, k ≠ x.cab → routeOf t.alloc k = routeOf s.alloc k) ∧
         t.alloc.recs = s.alloc.recs ++ [⟨x.cab, some d, .bound, 0, x.id % 2 ^ 24⟩]) ∧
     (r.st = .bound → exec (.routeReport m) s = .next (received m s)))) ∧
  (∀ (m : AtkMsg) (s : State), s.live = true → s.io.active = false → Passes m s → m.ty = 8 → m.sub = 2 →
    State.cabLayout m.payload = true → u16 m.payload 0 < nCab s.alloc.model → cabAtk s.alloc.model (u16 m.payload 0) = m.src →
    Ends (.cabStatus m) s fun t =>
      t = { received m s with alloc := t.alloc } ∧
      Tbl.get t.alloc.cab CabIn.init (u16 m.payload 0) =
        ⟨true, s.now, u8 m.payload 2, s32 m.payload 12, u32 m.payload 16, s32 m.payload 20, s16 m.payload 24,
         bitsN (u8 m.payload 3) 0 0 == 1, bitsN (u8 m.payload 3) 1 1 == 1, u32 m.payload 28, u64 m.payload 4⟩ ∧
      (∀ k, k ≠ u16 m.payload 0 → Tbl.get t.alloc.cab CabIn.init k = Tbl.get s.alloc.cab CabIn.init k) ∧
      t.alloc.pd = s.alloc.pd ∧ t.alloc.pc = s.alloc.pc ∧ t.alloc.model = s.alloc.model)

/-- ROUTE_CLR, MATRIX_ID_WRITE, PRICE_COLD_RESET, ROUTING_PASS, SHED_HOLD_EXPIRY. Software takes a FAULT cabinet to FREE; it sets the switching
matrix's node before the first commit; it asks for cold prices, which the next tick's step 5 starts with (R62, R76, R82). A pass runs once
in each second of site time; it commits nothing: no power, no price and no shedding state changes. The end of a hold timer changes only
that timer. The model's choices in it are those of assumption log entry 31. -/
def Obligations.RoutingCommandsAndPass : Prop :=
  ((∀ (n : Nat) (v : Word) (s : State), s.live = true → (routeOf s.alloc (bits v 9 0)).st = .fault →
    Ends (.routeClr (.core n) v) s fun t =>
      t = { s with alloc := t.alloc, io := t.io } ∧ (routeOf t.alloc (bits v 9 0)).st = .free ∧
      (∀ k, k ≠ bits v 9 0 → routeOf t.alloc k = routeOf s.alloc k)) ∧
  (∀ (n : Nat) (v : Word) (s : State), s.live = true → (routeOf s.alloc (bits v 9 0)).st ≠ .fault →
    Ends (.routeClr (.core n) v) s fun t =>
      OnlyIo s t ∧ t.io.regs = s.io.regs ∧ Logged .alloc 0 4 (.core n) Reg.ALLOC.ROUTE_CLR s t) ∧
  (∀ (n : Nat) (v : Word) (s : State), s.live = true → s.io.flag Reg.ALLOC.STAT 0 = false → s.alloc.placed = false →
    1 ≤ bits v 31 16 → bits v 31 16 ≤ 100 → bits v 15 0 = 0 ∨ (0x2000 ≤ bits v 15 0 ∧ bits v 15 0 ≤ 0x7FFF) →
    Ends (.matrixIdWrite (.core n) v) s fun t =>
      OnlyRegs s t ∧ RegsBut [Reg.ALLOC.ROUTE_NODE] s t ∧ matrixId t.io = bits v 15 0 ∧
      t.io.fld Reg.ALLOC.ROUTE_NODE 31 16 = bits v 31 16) ∧
  (∀ (n : Nat) (s : State), s.live = true →
    exec (.priceColdReset (.core n)) s = .next { s with alloc := { s.alloc with cold := true } })) ∧
  ((∀ s : State, Running s → s.io.flag Reg.ALLOC.CTRL 1 = true → matrixId s.io ≠ 0 → s.alloc.lastPass < s.now / 1000000000 + 1 →
    Ends .routingPass s fun t =>
      t = { s with alloc := t.alloc, io := t.io } ∧ t.alloc.lastPass = s.now / 1000000000 + 1 ∧
      t.alloc.pd = s.alloc.pd ∧ t.alloc.pc = s.alloc.pc ∧ t.alloc.ps = s.alloc.ps ∧ t.alloc.pi = s.alloc.pi ∧
      t.alloc.shed = s.alloc.shed ∧ t.alloc.model = s.alloc.model) ∧
  (∀ s : State, s.live = true → s.now / 1000000000 + 1 ≤ s.alloc.lastPass → exec .routingPass s = .next s) ∧
  (∀ (d : Nat) (s : State), Running s → (Tbl.get s.alloc.shed Shed.init d).shed = true → (Tbl.get s.alloc.shed Shed.init d).hold ≤ s.now →
    Ends (.shedHoldExpiry d) s fun t =>
      t = { s with alloc := { s.alloc with shed := t.alloc.shed } } ∧
      Tbl.get t.alloc.shed Shed.init d = { Tbl.get s.alloc.shed Shed.init d with hold := 0 } ∧
      (∀ k, k ≠ d → Tbl.get t.alloc.shed Shed.init k = Tbl.get s.alloc.shed Shed.init k)))

/-! Leases and their holders (chapter 03). -/

/-- The grants of a renewal tick (R94, R95): every enabled target within the model gets its next SEQ, START and EXPIRY by R95, and a
LEASE_ID one above that of the grant before; every other chain stays. -/
def Obligations.RenewalGrantsEveryTarget : Prop :=
  ∀ (n : Nat) (reuse : Bool) (a : AllocSt) (inp : Tbl DispIn) (l : LeaseSt) (io : Io), mayGrant true io = true →
    let ts := grantTargets a io
    let r := (leaseRenew n reuse true a inp l io).1
    (∀ (i : Nat) (h : i < ts.length),
      let ch := chainOf r ts[i]
      ch.seq = ((chainOf l ts[i]).seq + 1) % 2 ^ 32 ∧
      ch.lid = b2n io.unitB * 2 ^ 31 + (l.count + i) % 2 ^ 31 ∧
      ∃ e rest, ch.hist = e :: rest ∧ e.start = (n + io.fld (Reg.LEASE.TGT ts[i]) 15 12) * 250000 ∧
        e.expiry = e.start + io.fld Reg.LEASE.CFG 7 0 * 1000000) ∧
    (∀ t, t ∉ ts → chainOf r t = chainOf l t) ∧ r.count % 2 ^ 31 = (l.count + ts.length) % 2 ^ 31

/-- LEASE_ACK, ACK_TIMEOUT, HOLDOFF_END, WIND_DOWN_WRITE, TBL_SEL_WRITE. An acknowledgement answers the grant it names; one that accepts ends
the run of misses, with an ACK_OK record where the run had its NOACK record; ACCEPTED_LATE and a rejection are recorded; a newer EPOCH stops
granting (R109, R110, R111). Each grant not acknowledged in time is one miss, and the run that reaches ACK_MISS_MAX gives one NOACK record
(R109). The hold-off ends after its second (R121). WIND_DOWN written to 0 clears QUIET (R123). A write of TBL_SEL latches the target's last
grant. The model's choices in it are those of assumption log entry 36. -/
def Obligations.LeaseBookkeepingCommands : Prop :=
  (∀ (m : AtkMsg) (s : State), Running s → Passes m s → m.ty = 2 → ackLayout m.payload = true →
    let t := ackTarget m.payload
    let ch := chainOf s.lease t
    let res := u8 m.payload 10
    (epochNewer (u16 m.payload 24) (leaseEpoch s.io) = false → s.io.flag Reg.LEASE.STAT 4 = false →
      Ends (.leaseAck m) s fun u =>
        u = { received m s with lease := { s.lease with chain := u.lease.chain }, io := u.io } ∧
        chainOf u.lease t = { ch with
          pend := ch.pend.filter fun e => e.1 != u32 m.payload 0, result := res, hstate := u8 m.payload 11,
          miss := if res ≤ 1 then 0 else ch.miss, noack := if res ≤ 1 then false else ch.noack } ∧
        (∀ k, k ≠ t → chainOf u.lease k = chainOf s.lease k) ∧
        (res = 0 → ch.noack = true → Wrote q1 (fun _ => [qWord true true 4 (0x63 * 2 ^ 48 + tField t + ch.miss % 2 ^ 32)]) s u) ∧
        (res = 1 → u.io.flag 0x40110080 3 = true ∧ (ch.noack = false →
          Wrote q1 (fun _ => [qWord true true 8 (0x64 * 2 ^ 48 + tField t + u32 m.payload 4)]) s u)) ∧
        (2 ≤ res → u.io.flag 0x40110080 2 = true ∧
          Wrote q1 (fun _ => [qWord true true 8 (0x61 * 2 ^ 48 + tField t + res * 2 ^ 24 + u32 m.payload 4 % 2 ^ 24)]) s u)) ∧
    (epochNewer (u16 m.payload 24) (leaseEpoch s.io) = true → s.io.flag Reg.LEASE.EPOCH 16 = true →
      Ends (.leaseAck m) s fun u =>
        u.io.flag Reg.LEASE.STAT 4 = true ∧ u.io.flag 0x40110080 10 = true ∧ (∀ b, mayGrant b u.io = false))) ∧
  ((∀ (t : Nat) (s : State), Running s →
    let ch := chainOf s.lease t
    let due := (ch.pend.filter fun e => decide (e.2 ≤ s.now)).length
    let max_ := s.io.fld Reg.LEASE.CFG 23 20
    (0 < due → Ends (.ackTimeout t) s fun u =>
      u = { s with lease := { s.lease with chain := u.lease.chain }, io := u.io } ∧
      chainOf u.lease t = { ch with
        pend := ch.pend.filter fun e => decide (s.now < e.2), miss := ch.miss + due, noack := ch.noack || decide (max_ ≤ ch.miss + due) } ∧
      (∀ k, k ≠ t → chainOf u.lease k = chainOf s.lease k) ∧
      u.io.reg Reg.LEASE.MISS_CNT = w32 (satU 32 ((s.io.reg Reg.LEASE.MISS_CNT).toNat + due)) ∧
      (max_ ≤ ch.miss + due → ch.noack = false →
        u.io.flag 0x40110080 1 = true ∧ Wrote q1 (fun _ => [qWord true true 0xC (0x62 * 2 ^ 48 + tField t + max_)]) s u) ∧
      (ch.miss + due < max_ → u.io.queues = s.io.queues)) ∧
    (due = 0 → exec (.ackTimeout t) s = .next s)) ∧
  (∀ (t : Nat) (s : State), s.live = true → s.lease.holdUntil = some t →
    (t ≤ s.now → Ends .holdoffEnd s fun u =>
      u = { s with lease := { s.lease with holdUntil := none }, io := u.io } ∧ u.io.flag Reg.LEASE.STAT 2 = false ∧
      RegsBut [Reg.LEASE.STAT] s u) ∧
    (s.now < t → exec .holdoffEnd s = .next s)) ∧
  (∀ (n : Nat) (v : Word) (s : State), s.live = true → bit v 1 = false →
    Ends (.windDownWrite (.core n) v) s fun u =>
      OnlyRegs s u ∧ u.io.fld Reg.LEASE.CTRL 1 0 = bits v 1 0 ∧ u.io.flag Reg.LEASE.STAT 3 = false ∧
      RegsBut [Reg.LEASE.CTRL, Reg.LEASE.STAT] s u) ∧
  (∀ (n : Nat) (v : Word) (s : State), s.live = true →
    Ends (.tblSelWrite (.core n) v) s fun u =>
      let ch := chainOf s.lease (bits v 9 0)
      let e := ch.hist.head?.getD ⟨0, 0, 0, 0, 0⟩
      OnlyRegs s u ∧ u.io.reg Reg.LEASE.TBL_SEQ = w32 ch.seq ∧ u.io.reg Reg.LEASE.TBL_LID = w32 ch.lid ∧
      u.io.reg Reg.LEASE.TBL_P = wS e.p ∧ u.io.reg Reg.LEASE.TBL_I = wS e.i ∧
      u.io.reg Reg.LEASE.TBL_START_LO = w32 e.start ∧ u.io.reg Reg.LEASE.TBL_EXP_LO = w32 e.expiry ∧
      (∀ a, a < Reg.LEASE.TBL_SEL ∨ Reg.LEASE.TBL_ACK < a → u.io.reg a = s.io.reg a)))

/-- HOLDER_GRANT_RECEIVE. A holder accepts a grant exactly when everything that R98 lists holds; it then keeps the grant and its EPOCH
and SEQ. It answers every grant that its node takes, and nothing else changes (R98, R99). The model's choices in it are those of assumption log
entries 34, 92 and 102. -/
def Obligations.HolderAcceptsByR98 : Prop :=
  (∀ (node tgt hnow ma mv : Nat) (held : Bool) (m : AtkMsg) (s : State), m.ty = 1 →
    let h := Tbl.get s.lease.holders Holder.init (holderKey node tgt)
    let g := parseGrant m.payload
    let ok := nodeTakes s.net node hnow m && decide (g.node = node) && decide (g.target = tgt) && grantNewer g h.last &&
      decide (hnow < g.expiry) && decide (g.start ≤ hnow + 5000000) && held && grantFormat m.payload
    Ends (.holderGrantReceive node tgt hnow ma mv held m) s fun t =>
      t = { s with net := t.net, lease := { s.lease with holders := t.lease.holders }, io := t.io } ∧ t.io.regs = s.io.regs ∧
      (∀ k, k ≠ holderKey node tgt → Tbl.get t.lease.holders Holder.init k = Tbl.get s.lease.holders Holder.init k) ∧
      (ok = true → Tbl.get t.lease.holders Holder.init (holderKey node tgt) =
        { h with timeHeld := held, wait := h.wait ++ [g], last := some (g.epoch, g.seq) }) ∧
      (ok = false → nodeTakes s.net node hnow m = true → Tbl.get t.lease.holders Holder.init (holderKey node tgt) =
        { h with timeHeld := held }) ∧
      (nodeTakes s.net node hnow m = true → t.io.evts.length = s.io.evts.length + 1) ∧
      (nodeTakes s.net node hnow m = false → t = s)) ∧
  (∀ (g : Grant) (e q : Nat),
    let d := (g.epoch + 65536 - e % 65536) % 65536
    grantNewer g none = true ∧ (1 ≤ d → d ≤ 0x7FFF → grantNewer g (some (e, q)) = true) ∧
    (0x8000 ≤ d → grantNewer g (some (e, q)) = false) ∧ (d = 0 → grantNewer g (some (e, q)) = newer g.seq q))

/-- HOLDER_LEASE_START, HOLDER_LEASE_EXPIRY, HOLDER_RUNDOWN_END, HOLDER_TIME_LOSS, HOLDER_FORGET: the transitions of R104 and what each
leaves alone; in RUNDOWN and NO_LEASE a holder may carry nothing (R101, R103 to R106). The model's choices in it are those of assumption log
entries 34 and 35. -/
def Obligations.HolderMovesByR104 : Prop :=
  ∀ (node tgt hnow : Nat) (s : State),
    let k := holderKey node tgt
    let h := Tbl.get s.lease.holders Holder.init k
    let becomes := fun (x : Holder) (t : State) =>
      t = { s with lease := { s.lease with holders := t.lease.holders } } ∧ Tbl.get t.lease.holders Holder.init k = x ∧
      (∀ j, j ≠ k → Tbl.get t.lease.holders Holder.init j = Tbl.get s.lease.holders Holder.init j)
    (∀ g, newestStarted hnow h.wait = some g → (∀ c, h.cur = some c → grantNewer g (some (c.epoch, c.seq)) = true) →
      Ends (.holderLeaseStart node tgt hnow) s (becomes { h with
        st := .inForce, cur := some g, wait := h.wait.filter fun w => grantNewer w (some (g.epoch, g.seq)) })) ∧
    (newestStarted hnow h.wait = none → exec (.holderLeaseStart node tgt hnow) s = .next s) ∧
    (∀ g, h.st = .inForce → h.cur = some g → g.expiry ≤ hnow → newestStarted hnow h.wait = none →
      Ends (.holderLeaseExpiry node tgt hnow) s (becomes { h with
        st := .rundown, downAt := g.expiry + g.fall * 1000000, noneAt := g.expiry })) ∧
    (∀ g, h.cur = some g → hnow < g.expiry → exec (.holderLeaseExpiry node tgt hnow) s = .next s) ∧
    (h.st = .rundown → h.downAt ≤ hnow →
      Ends (.holderRundownEnd node tgt hnow) s (becomes { h with st := .noLease, cur := none })) ∧
    (∀ g, h.st = .inForce → h.cur = some g →
      Ends (.holderTimeLoss node tgt hnow) s (becomes { h with
        timeHeld := false, st := .rundown, downAt := hnow + g.fall * 1000000, noneAt := hnow })) ∧
    (h.st = .noLease → h.noneAt + 1000000000 ≤ hnow → Ends (.holderForget node tgt hnow) s (becomes { h with last := none })) ∧
    (hnow < h.noneAt + 1000000000 → exec (.holderForget node tgt hnow) s = .next s) ∧
    (h.st ≠ .inForce → h.limits = (0, 0)) ∧ (∀ g, h.st = .inForce → h.cur = some g → h.limits = (g.p, g.i))

/-! Control slots, profile generators, SETPOINT receivers (chapter 04). -/

/-- CTLE_FRAME. A frame in which one background slot is due evaluates it by R138 on its active coefficients: the sum of feed-forward,
proportional, derivative and integral terms, clamped; held on a stale measurement or on inverted limits. rnd is to the nearest, ties
away from zero (R139). A frame runs once (R148). The model's choices in it are those of assumption log entries 42 and 48. -/
def Obligations.FrameEvaluatesTheDueSlot : Prop :=
  (∀ (ev : CtlEv) (k : Nat) (s : State), Running s → s.ctle.lastFrame ≤ s.now / 50000 → enabledGens s.io = [] →
    enabledSlots s.io = [k] → tickBound s.io k = false → sinkKind s.io k = 0 → s.io.flag Reg.CTLE.CTRL 0 = true →
    s.io.flag (Reg.CTLE.CTL k) 18 = false → dueAt (slotDiv s.io k) (slotPhase s.io k) (s.now / 50000) = true →
    k ∉ ev.miss → k ∉ ev.memSlot → k ∉ ev.residue →
    let t := s.now / 50000 * 50000
    let x := (slotOf s.ctle k).settle t
    let c := s.ctle.putSlot k x
    let m := slotPv s.measure c s.io k
    let sp := slotSp c s.io k
    let stale := m.old t (s.io.fld (Reg.CTLE.STALE k) 7 0)
    let a := x.act
    let e0 := sat32 (sp - m.val)
    let e := if e0.natAbs ≤ a.deadband then 0 else e0
    let dstate := x.dstate + (a.kd * (x.pvPrev.elim 0 fun q => q - m.val) - x.dstate) / ((2 ^ a.dsh : Nat) : Int)
    let fpd := rnd16 (a.kf * sp) + rnd16 (a.kp * e) + rnd16 dstate
    let pre := fpd + rnd16 x.i
    let keep := (decide (a.outMax ≤ pre) && decide (0 < e)) || (decide (pre ≤ a.outMin) && decide (e < 0))
    let i := if keep then x.i else max (a.iMin * 65536) (min (a.iMax * 65536) (x.i + a.ki * e))
    let u := fpd + rnd16 i
    x.fault = false →
    Ends (.ctleFrame ev) s fun s1 =>
      let y := slotOf s1.ctle k
      s1 = { s with ctle := s1.ctle, io := s1.io, pow := s1.pow } ∧ (∀ j, j ≠ k → slotOf s1.ctle j = slotOf s.ctle j) ∧
      s1.ctle.gen = s.ctle.gen ∧ s1.ctle.rx = s.ctle.rx ∧
      (stale = true ∨ a.outMax < a.outMin ∨ a.iMax < a.iMin →
        y.out = x.out ∧ y.i = x.i ∧ y.dstate = x.dstate ∧ y.pvPrev = x.pvPrev ∧ y.act = a) ∧
      (stale = false → a.outMin ≤ a.outMax → a.iMin ≤ a.iMax →
        y = { x with err := e, pv := m.val, pvPrev := some m.val, dstate := dstate, i := i, iHeld := keep, invLim := false,
                     sat := if a.outMax < u then 1 else if u < a.outMin then 2 else 0, out := max a.outMin (min a.outMax u),
                     evalCnt := (x.evalCnt + 1) % 2 ^ 32, missRun := 0, alarmed := false, lastT := t, done := true, held := none })) ∧
  (∀ (ev : CtlEv) (s : State), s.live = true → s.now / 50000 < s.ctle.lastFrame →
    Ends (.ctleFrame ev) s fun s1 => s1 = { s with pow := s1.pow }) ∧
  (∀ a : Int, -65536 ≤ 2 * (65536 * rnd16 a - a) ∧ 2 * (65536 * rnd16 a - a) ≤ 65536 ∧
    (2 * (65536 * rnd16 a - a) = 65536 → 0 ≤ a) ∧ (2 * (65536 * rnd16 a - a) = -65536 → a ≤ 0))

/-- EVAL_MISS, MISS_ALARM, SLOT_ENABLE, SLOT_DISABLE, SHADOW_WRITE, FREEZE_SET, FREEZE_COMMIT, INTEGRATOR_WRITE: what each does to its
slot (R134, R137, R143, R146, R151, R155, R156, R159, R162 to R164); the other slots stay. The model's choices in it are those of assumption log
entries 44, 45, 46 and 48. -/
def Obligations.SlotCommands : Prop :=
  ∀ (n k : Nat) (v : Word) (s : State), s.live = true → k < 1024 →
    let x := slotOf s.ctle k
    let becomes := fun (y : Slot) (u : State) =>
      u = { s with ctle := { s.ctle with slot := u.ctle.slot }, io := u.io, pow := u.pow } ∧ slotOf u.ctle k = y ∧
      (∀ j, j ≠ k → slotOf u.ctle j = slotOf s.ctle j)
    let ctl := Reg.CTLE.CTL k
    let held := s.io.reg ctl
    let io1 := s.io.setReg ctl (setBits (setBits (setBits (setBits (setBits held 31 31 1) 30 30 (bits v 30 30)) 28 24 (bits v 28 24))
      23 19 (bits v 23 19)) 18 18 (bits v 18 18))
    -- EN is set
    (slotEn s.io k = false → bit v 30 = slotFrozen s.io k → 1 ≤ bits v 28 24 → bits v 28 24 ≤ 20 →
      (phaseOk io1 k = true → sinkHeld io1 k = false → admitted (loads io1 (enabledSlots io1)) = true →
        Ends (.slotEnable (.core n) k v) s fun u =>
          becomes { x with dstate := 0, pvPrev := none, fault := false, held := none, invLim := false, sat := 0, sentWin := 0 } u ∧
          slotEn u.io k = true ∧ slotDiv u.io k = bits v 28 24 ∧ slotPhase u.io k = bits v 23 19 ∧ RegsBut [ctl] s u) ∧
      (phaseOk io1 k = false ∨ sinkHeld io1 k = true →
        Ends (.slotEnable (.core n) k v) s fun u =>
          becomes x u ∧ slotEn u.io k = false ∧ RegsBut [ctl] s u ∧ Logged .ctle 0 4 (.core n) 0x40120100 s u) ∧
      (phaseOk io1 k = true → sinkHeld io1 k = false → admitted (loads io1 (enabledSlots io1)) = false →
        Ends (.slotEnable (.core n) k v) s fun u => becomes x u ∧ slotEn u.io k = false ∧ u.io.flag 0x40120080 7 = true)) ∧
    -- EN is cleared
    (slotEn s.io k = true → bit v 30 = slotFrozen s.io k → sinkKind s.io k ≠ 8 →
      Ends (.slotDisable (.core n) k v) s fun u =>
        becomes x u ∧ slotEn u.io k = false ∧ slotDiv u.io k = slotDiv s.io k ∧ RegsBut [ctl] s u) ∧
    -- coefficients
    (∀ place, place < 9 → (place = 8 → bits v 3 0 ≤ 8) →
      Ends (.shadowWrite (.core n) k place v) s fun u =>
        becomes (if slotFrozen s.io k then x else
          { x with pend := x.pend ++ [(s.now + 40, .word place (u.io.reg (shadowReg place k)))] }) u ∧
        (place < 8 → u.io.reg (shadowReg place k) = v) ∧
        (place = 8 → bits (u.io.reg (shadowReg 8 k)) 31 16 = bits v 31 16 ∧ bits (u.io.reg (shadowReg 8 k)) 3 0 = bits v 3 0) ∧
        RegsBut [shadowReg place k] s u) ∧
    -- FREEZE
    (slotFrozen s.io k = false → bit v 31 = slotEn s.io k →
      Ends (.freezeSet (.core n) k v) s fun u => becomes { x with iSh := none } u ∧ slotFrozen u.io k = true ∧ RegsBut [ctl] s u) ∧
    (slotFrozen s.io k = true → bit v 31 = slotEn s.io k →
      Ends (.freezeCommit (.core n) k v) s fun u =>
        becomes { x with
          pend := x.pend ++ [(s.now + 40, .all (shadowSet s.io k) x.iSh)], iSh := none, actVer := (x.actVer + 1) % 65536 } u ∧
        slotFrozen u.io k = false ∧ u.io.flag 0x40120080 6 = true ∧
        Wrote q2 (fun g => [qWord true true 4 (0x77 * 2 ^ 48 + k * 2 ^ 38 + (x.actVer + 1) % 65536 + b2n g * 2 ^ 35)]) s u) ∧
    -- the integrator
    (∀ lo, Tbl.get s.io.stage none 0x40120158 = some lo →
      (slotEn s.io k = false → Ends (.integratorWrite (.core n) k true v) s fun u =>
        becomes { x with i := sxt 64 (v.toNat * 2 ^ 32 + lo.toNat), iSh := none } u ∧ u.io.regs = s.io.regs) ∧
      (slotEn s.io k = true → slotFrozen s.io k = true → Ends (.integratorWrite (.core n) k true v) s fun u =>
        becomes { x with iSh := some (sxt 64 (v.toNat * 2 ^ 32 + lo.toNat)) } u ∧ u.io.regs = s.io.regs) ∧
      (slotEn s.io k = true → slotFrozen s.io k = false → Ends (.integratorWrite (.core n) k true v) s fun u =>
        becomes x u ∧ Logged .ctle 0 4 (.core n) 0x4012015C s u)) ∧
    -- missed evaluations
    (s.io.active = true →
      (x.missRun < 3 ∨ x.alarmed = true → Ends (.evalMiss k) s fun u =>
        becomes { x with missRun := x.missRun + 1 } u ∧ u.io = s.io.count Reg.CTLE.MISS_CNT) ∧
      (4 ≤ x.missRun → x.alarmed = false → Ends (.missAlarm k) s fun u =>
        becomes { x with alarmed := true } u ∧ u.io.flag 0x40120080 4 = true ∧
        Wrote q2 (fun g => [qWord true true 0xC (0x75 * 2 ^ 48 + k * 2 ^ 38 + satU 32 x.missRun + b2n g * 2 ^ 35)]) s u) ∧
      (x.missRun < 4 → exec (.missAlarm k) s = .next s))

/-- GEN_ENABLE, GEN_TARGET_WRITE, GEN_LIMIT_WRITE: a generator starts at X, at rest; a new target or limit asks for a plan from the next
frame start, and the published position shows no step (R166, R167, R169, R171, R172). SETPOINT_RECEIVE and SETPOINT_EXPIRY: a receiver
applies the newest message until VALID_UNTIL and is at zero FALL_MS later (R174 to R176). The model's choices in it are those of assumption log
entries 40, 41 and 92. -/
def Obligations.GeneratorsAndSetpoints : Prop :=
  (∀ (n g : Nat) (v : Word) (s : State), s.live = true → g < 320 →
    let x := genOf s.ctle g
    let becomes := fun (y : Gen) (u : State) =>
      u = { s with ctle := { s.ctle with gen := u.ctle.gen }, io := u.io } ∧ genOf u.ctle g = y ∧
      (∀ j, j ≠ g → genOf u.ctle j = genOf s.ctle j)
    (genEn s.io g = false → Ends (.genEnable (.core n) g v) s fun u =>
      let p := sW (s.io.reg (Reg.CTLE.X g))
      becomes { x with x0 := p * fx1, v0 := 0, a0 := 0, plan := [], goal := p, x := p, replan := true, ovr := false, reduce := 0 } u ∧
      genEn u.io g = true ∧ RegsBut [Reg.CTLE.GCTL g] s u) ∧
    (allocOwns s.alloc.model g = false → Ends (.genTargetWrite (.core n) g v) s fun u =>
      becomes { x with replan := x.replan || genEn s.io g } u ∧ u.io.reg (Reg.CTLE.TARGET g) = v ∧ RegsBut [Reg.CTLE.TARGET g] s u) ∧
    (allocOwns s.alloc.model g = true → Ends (.genTargetWrite (.core n) g v) s fun u =>
      becomes x u ∧ u.io.regs = s.io.regs ∧ Logged .ctle 0 4 (.core n) 0x40120204 s u) ∧
    (∀ which, which < 3 → v ≠ 0 → Ends (.genLimitWrite (.core n) g which v) s fun u =>
      becomes { x with replan := x.replan || genEn s.io g } u ∧ u.io.reg (bankKey (0x40120208 + 4 * which) g) = v ∧
      (genEn s.io g = true → which = 1 → (v.toNat : Int) * fx1 < ((x.motion s.now).a.natAbs : Int) → u.io.flag 0x40120080 8 = true)) ∧
    (∀ which, which < 3 → Ends (.genLimitWrite (.core n) g which 0) s fun u =>
      becomes x u ∧ u.io.reg (bankKey (0x40120208 + 4 * which) g) = s.io.reg (bankKey (0x40120208 + 4 * which) g) ∧
      Logged .ctle 0 2 (.core n) (0x40120208 + 4 * which) s u)) ∧
  (∀ (node hnow : Nat) (m : AtkMsg) (s : State), m.ty = 8 → m.sub = 4 →
    let k := node * 65536 + u16 m.payload 0
    (nodeTakes s.net node hnow m = true → Ends (.setpointReceive node hnow m) s fun u =>
      u = { s with net := nodeTook node hnow m s.net, ctle := { s.ctle with rx := u.ctle.rx } } ∧
      Tbl.get u.ctle.rx SetpRx.init k = ⟨s32 m.payload 4, u64 m.payload 8, u16 m.payload 16, none⟩ ∧
      (∀ j, j ≠ k → Tbl.get u.ctle.rx SetpRx.init j = Tbl.get s.ctle.rx SetpRx.init j)) ∧
    (nodeTakes s.net node hnow m = false → exec (.setpointReceive node hnow m) s = .next s)) ∧
  (∀ (node ch hnow : Nat) (s : State),
    let k := node * 65536 + ch
    let x := Tbl.get s.ctle.rx SetpRx.init k
    (x.zeroAt = none → x.until_ ≤ hnow → Ends (.setpointExpiry node ch hnow) s fun u =>
      u = { s with ctle := { s.ctle with rx := u.ctle.rx } } ∧
      Tbl.get u.ctle.rx SetpRx.init k = { x with zeroAt := some (x.until_ + x.fall * 1000000) } ∧
      (∀ j, j ≠ k → Tbl.get u.ctle.rx SetpRx.init j = Tbl.get s.ctle.rx SetpRx.init j)) ∧
    (hnow < x.until_ → exec (.setpointExpiry node ch hnow) s = .next s))

/-! Cable and connector observers, coolant circuits (chapter 05). -/

/-- THRM_STEP. A step runs once per millisecond and publishes its time. No enabled observer's credit of a longer horizon exceeds that of
a shorter one; outside NORMAL every horizon has the fallback credit (R195); disabled observers and every engine but Gauntlet stay. -/
def Obligations.StepPublishesCredits : Prop :=
  ∀ (residue : List Nat) (s : State), Running s → s.thrm.lastStep ≤ s.now / 1000000 →
    Ends (.thrmStep residue) s fun u =>
      u.thrm.lastStep = s.now / 1000000 + 1 ∧
      u.io.reg Reg.THRM.PUB_TIME_LO = w32 (s.now / 1000000 * 1000000) ∧
      (∀ o, o ∈ enabledObs s.io →
        let x := obsOf u.thrm o
        x.cred60 ≤ x.cred10 ∧ x.cred10 ≤ x.cred1 ∧
        (x.st ≠ .normal → x.cred1 = fallbackCred s.io o ∧ x.cred10 = fallbackCred s.io o ∧ x.cred60 = fallbackCred s.io o)) ∧
      (∀ o, o ∉ enabledObs s.io → obsOf u.thrm o = obsOf s.thrm o) ∧
      (∀ k, k ∉ enabledCircs s.io → circOf u.thrm k = circOf s.thrm k) ∧ u.thrm.rx = s.thrm.rx ∧
      u = { s with thrm := u.thrm, gnt := u.gnt, sess := u.sess, pow := u.pow, io := u.io }

/-- OBSERVER_FAULT, RECOVER_EXPIRY, CIRC_RUNON_END, COOL_CMD_SEND, CIRC_ENABLE and the receivers' COOL_CMD_RECEIVE, COOL_CMD_EXPIRY
(R193, R197, R203, R206 to R210): what each changes, and that it leaves other observers, circuits and channels alone. The model's choices in it
are those of assumption log entries 54 and 92. -/
def Obligations.ThermalCommands : Prop :=
  (∀ (o : Nat) (s : State), Running s →
    let x := obsOf s.thrm o
    let f := fallbackCred s.io o
    let others := fun (u : State) => u = { s with thrm := { s.thrm with obs := u.thrm.obs }, io := u.io } ∧
      (∀ j, j ≠ o → obsOf u.thrm j = obsOf s.thrm j)
    (3 ≤ x.resFail → x.st ≠ .fault → Ends (.observerFault o) s fun u =>
      others u ∧ obsOf u.thrm o = { x with st := .fault, cred1 := f, cred10 := f, cred60 := f } ∧ u.io.flag 0x40130080 6 = true ∧
      Wrote q3 (fun g => [qWord true true 0xC (0x86 * 2 ^ 48 + o % 512 * 2 ^ 39 + (s.io.reg Reg.THRM.RESIDUE_CNT).toNat
        + b2n g * 2 ^ 35)]) s u) ∧
    (x.resFail < 3 ∨ x.st = .fault → exec (.observerFault o) s = .next s) ∧
    (x.st = .recovering → x.timer ≤ s.now → Ends (.recoverExpiry o) s fun u =>
      others u ∧ (obsOf u.thrm o).st = .normal ∧ (obsOf u.thrm o).t1 = x.t1 ∧ u.io.flag 0x40130080 2 = true ∧
      Wrote q3 (fun g => [qWord true true 4 (0x83 * 2 ^ 48 + o % 512 * 2 ^ 39 + (obsOf u.thrm o).cred1 + b2n g * 2 ^ 35)]) s u) ∧
    (s.now < x.timer → exec (.recoverExpiry o) s = .next s)) ∧
  (∀ (k : Nat) (s : State), Running s →
    let x := circOf s.thrm k
    let others := fun (u : State) => u = { s with thrm := { s.thrm with circ := u.thrm.circ }, io := u.io, pow := u.pow } ∧
      (∀ j, j ≠ k → circOf u.thrm j = circOf s.thrm j)
    (∀ t, x.lastOn = some t → x.active = true → x.runon = true → x.forced = false →
      t + s.io.fld (Reg.THRM.ON k) 15 0 * 1000000000 ≤ s.now → Ends (.circRunonEnd k) s fun u =>
      others u ∧ circOf u.thrm k = { x with
        active := false, runon := false, pump := slotDemand s.ctle s.io k false, valve := slotDemand s.ctle s.io k true }) ∧
    (∀ t, x.lastOn = some t → s.now < t + s.io.fld (Reg.THRM.ON k) 15 0 * 1000000000 →
      Ends (.circRunonEnd k) s fun u => u = { s with pow := u.pow }) ∧
    (s.io.flag (Reg.THRM.CCTL k) 31 = true → coolRouted s.io k = true → x.sentWin ≠ coolWin s.io k →
      Ends (.coolCmdSend k) s fun u =>
        others u ∧ u.pow = s.pow ∧ circOf u.thrm k = { x with sentWin := coolWin s.io k } ∧ u.io = coolCmd k s.thrm s.io) ∧
    (x.sentWin = coolWin s.io k → exec (.coolCmdSend k) s = .next s)) ∧
  (∀ (n k : Nat) (v : Word) (s : State), s.live = true → k < 64 → s.io.flag (Reg.THRM.CCTL k) 31 = false →
    bits v 30 29 < 3 → bits v 28 27 < 3 →
    let ctl := Reg.THRM.CCTL k
    let w := setBits (setBits (setBits (setBits (setBits (s.io.reg ctl) 31 31 1) 30 29 (bits v 30 29)) 28 27 (bits v 28 27))
      20 16 (bits v 20 16)) 12 8 (bits v 12 8)
    let io1 := s.io.setReg ctl w
    let taken := fun ch : Nat => circuitDrives io1 k ch || (enabledSlots io1).any fun i => sinkKind io1 i == 3 && sinkSel io1 i % 32 == ch
    let clash := (bits v 30 29 = 1 ∧ taken (bits v 20 16) = true) ∨ (bits v 28 27 = 1 ∧ taken (bits v 12 8) = true)
    Ends (.circEnable (.core n) k v) s fun u =>
      u = { s with io := u.io, pow := u.pow } ∧ RegsBut [ctl] s u ∧
      (¬ clash → u.io.reg ctl = w) ∧ (clash → u.io.reg ctl = setBits w 31 31 0 ∧ Logged .thrm 0 4 (.core n) 0x40130200 s u)) ∧
  (∀ (node hnow : Nat) (m : AtkMsg) (s : State), m.ty = 6 → nodeTakes s.net node hnow m = true →
    let k := node * 65536 + u16 m.payload 0
    Ends (.coolCmdReceive node hnow m) s fun u =>
      u = { s with net := nodeTook node hnow m s.net, thrm := { s.thrm with rx := u.thrm.rx } } ∧
      Tbl.get u.thrm.rx CoolRx.init k = ⟨true, u16 m.payload 2, u16 m.payload 4, u64 m.payload 8, u16 m.payload 16, u16 m.payload 18, false⟩ ∧
      (∀ j, j ≠ k → Tbl.get u.thrm.rx CoolRx.init j = Tbl.get s.thrm.rx CoolRx.init j)) ∧
  (∀ (node ch hnow : Nat) (s : State),
    let k := node * 65536 + ch
    let x := Tbl.get s.thrm.rx CoolRx.init k
    (x.seen = true → x.loss = false → x.until_ ≤ hnow → Ends (.coolCmdExpiry node ch hnow) s fun u =>
      u = { s with thrm := { s.thrm with rx := u.thrm.rx } } ∧
      Tbl.get u.thrm.rx CoolRx.init k = { x with loss := true } ∧
      (∀ j, j ≠ k → Tbl.get u.thrm.rx CoolRx.init j = Tbl.get s.thrm.rx CoolRx.init j)) ∧
    (hnow < x.until_ → exec (.coolCmdExpiry node ch hnow) s = .next s))

/-! The point plane (chapter 06). -/

/-- POINT_BLOCK. A block of one sample of a known key, from the key's own node, not ahead of site time and newer than the record, is one
write of that record; a sample of another node, from the future or out of order is counted and changes no point. A block that finds
512 in the FIFO is dropped whole (R226, R229). The model's choices in it are those of assumption log entry 65. -/
def Obligations.SamplesAreJudgedOneByOne : Prop :=
  ∀ (fifo : Nat) (m : AtkMsg) (s : State) (x : Sample), s.live = true → Passes m s → m.ty = 3 → s.io.flag Reg.PNT.CTRL 0 = true →
    blockSamples m.payload = some [x] →
    (512 ≤ fifo → Ends (.pointBlock fifo m) s fun t =>
      t = { received m s with io := t.io } ∧ t.io.flag 0x40140080 12 = true ∧
      t.io.reg Reg.PNT.BLK_DROP_CNT = incSat (s.io.reg Reg.PNT.BLK_DROP_CNT)) ∧
    (fifo < 512 →
      let rejected := fun (c : Nat) => Ends (.pointBlock fifo m) s fun t =>
        t = { received m s with io := t.io } ∧ t.io.reg c = incSat (s.io.reg c)
      let idx := fun i => lookupKey s.pnt x.key = some i
      let old := fun i => ptOf s.pnt i
      (x.key / 2 ^ 48 ≠ m.src → rejected Reg.PNT.REJ_NODE_CNT) ∧
      (x.key / 2 ^ 48 = m.src → s.now + 1000000 < x.t → rejected Reg.PNT.REJ_TIME_CNT) ∧
      (x.key / 2 ^ 48 = m.src → x.t ≤ s.now + 1000000 → lookupKey s.pnt x.key = none → Ends (.pointBlock fifo m) s fun t =>
        t = { received m s with pnt := { s.pnt with unk := t.pnt.unk }, io := t.io } ∧
        t.io.reg Reg.PNT.UNKNOWN_CNT = incSat (s.io.reg Reg.PNT.UNKNOWN_CNT)) ∧
      (∀ i, x.key / 2 ^ 48 = m.src → x.t ≤ s.now + 1000000 → idx i → stValid (old i).status = true →
        (newer x.seq (old i).seq && decide ((old i).time ≤ x.t)) = false → rejected Reg.PNT.REJ_SEQ_CNT) ∧
      (∀ i, x.key / 2 ^ 48 = m.src → x.t ≤ s.now + 1000000 → idx i →
        stValid (old i).status = false ∨ (newer x.seq (old i).seq = true ∧ (old i).time ≤ x.t) →
        Ends (.pointBlock fifo m) s fun t =>
          t = { received m s with pnt := t.pnt, io := t.io } ∧ (∀ j, j ≠ i → ptOf t.pnt j = ptOf s.pnt j) ∧
          (let r := ptOf t.pnt i
           r.seq = x.seq ∧ r.time = x.t ∧ r.value = (if x.bad then (old i).value else x.v) ∧ stValid r.status = true ∧
           stStale r.status = false ∧ bitsN r.status 7 7 = b2n x.bad ∧ r.key = (old i).key ∧ r.parent = (old i).parent ∧
           r.profile = (old i).profile ∧
           (∀ f, profOf s.pnt (old i).profile = some f → x.bad = false →
             (f.hardHi < x.v → bitsN r.status 2 2 = 1) ∧ (x.v ≤ f.hardHi - f.hyst → bitsN r.status 2 2 = 0) ∧
             (x.v < f.hardLo → bitsN r.status 1 1 = 1) ∧ (f.hardLo + f.hyst ≤ x.v → bitsN r.status 1 1 = 0) ∧
             (f.softHi < x.v → bitsN r.status 4 4 = 1) ∧ (f.softLo + f.hyst ≤ x.v → bitsN r.status 3 3 = 0))) ∧
          t.pnt.prof = s.pnt.prof ∧ t.pnt.slots = s.pnt.slots ∧ t.pnt.stash = s.pnt.stash))

/-- ADD_RANGE, DEL_RANGE, LOOKUP, SET_PROFILE, DEF_NODES, DEL_NODES. A command that is refused changes nothing of PNT and reports its
RESULT (R221); what each does when nothing refuses it (R220), for one element of a range and, where it is the same, for all. The model's choices
in it are those of assumption log entry 57. -/
def Obligations.PointCommands : Prop :=
  ∀ (n : Nat) (s : State), s.live = true →
    let p := s.pnt
    let x := pntArgs s.io
    let ends := fun (i : Instr) (op : Nat) (P : State → Prop) => Ends i s fun t =>
      t = { s with pnt := t.pnt, io := t.io } ∧ t.io.fld Reg.PNT.CMD_STAT 15 8 = op ∧ t.io.flag 0x40140080 13 = true ∧
      (t.io.fld Reg.PNT.CMD_STAT 23 16 ≠ 0 → t.pnt = s.pnt) ∧ P t
    let ok := fun (t : State) => t.io.fld Reg.PNT.CMD_STAT 23 16 = 0
    -- refused or not, a command reports and, refused, changes nothing
    (ends (.addRange (.core n)) 1 (fun _ => True) ∧ ends (.delRange (.core n)) 2 (fun _ => True) ∧
      ends (.lookup (.core n)) 3 (fun t => t.pnt = s.pnt) ∧ ends (.setProfile (.core n)) 4 (fun _ => True) ∧
      ends (.defNodes (.core n)) 5 (fun _ => True) ∧ ends (.delNodes (.core n)) 6 (fun _ => True)) ∧
    -- one point without a parent, a bucket of T0 with room
    (∀ sl, x.a1 = 1 → x.a0 < 2 ^ 25 → x.a2 < 2 ^ 12 → x.a3 = 0x1FFFFF → (profOf p x.a2).isSome = true → lookupKey p x.key = none →
      (ptOf p x.a0).defined = false → freeSlot p (bucketOf p.salts 0 x.key) = some sl → p.stash.length < rehashAt s.io →
      ends (.addRange (.core n)) 1 fun t => ok t ∧ ptOf t.pnt x.a0 = ⟨0, 0, 0, x.key, 32768, x.a2, none, false⟩ ∧
        lookupKey t.pnt x.key = some x.a0 ∧ (∀ j, j ≠ x.a0 → ptOf t.pnt j = ptOf p j) ∧
        t.io.reg Reg.PNT.DEF_CNT = w32 ((s.io.reg Reg.PNT.DEF_CNT).toNat + 1)) ∧
    (∀ i, x.a0 = 0 → x.a1 = 1 → x.a2 = 0 → x.a3 = 0 → lookupKey p x.key = some i → (ptOf p i).parent = none →
      ends (.delRange (.core n)) 2 fun t => ok t ∧ ptOf t.pnt i = PtRec.init ∧ (∀ j, j ≠ i → ptOf t.pnt j = ptOf p j)) ∧
    (∀ i, x.a0 = 0 → x.a1 = 0 → x.a2 = 0 → x.a3 = 0 → i < 2 ^ 25 → lookupKey p x.key = some i →
      ends (.lookup (.core n)) 3 fun t => ok t ∧ t.io.reg Reg.PNT.CMD_RES = w32 i) ∧
    (x.a0 = 0 → x.a1 = 0 → x.a2 = 0 → x.a3 = 0 → lookupKey p x.key = none →
      ends (.lookup (.core n)) 3 fun t => t.io.fld Reg.PNT.CMD_STAT 23 16 = 5) ∧
    (x.key = 0 → x.a0 < 2 ^ 25 → x.a2 < 2 ^ 12 → x.a3 = 0 → 1 ≤ x.a1 → x.a1 ≤ 65536 → x.a0 + x.a1 ≤ 33554432 →
      (profOf p x.a2).isSome = true → (∀ i, i < x.a1 → (ptOf p (x.a0 + i)).defined = true) →
      ends (.setProfile (.core n)) 4 fun t => ok t ∧
        (∀ i, i < x.a1 → ptOf t.pnt (x.a0 + i) = { ptOf p (x.a0 + i) with profile := x.a2 }) ∧
        (∀ j, j < x.a0 ∨ x.a0 + x.a1 ≤ j → ptOf t.pnt j = ptOf p j) ∧ t.pnt.nodes = p.nodes ∧ t.pnt.slots = p.slots) ∧
    (x.key = 0 → x.a0 < 2 ^ 21 → x.a2 < 2 ^ 8 → x.a3 = 0x1FFFFF → 1 ≤ x.a1 → x.a1 ≤ 65536 → nodeLevel x.a0 < 4 →
      nodeLevel (x.a0 + x.a1 - 1) = nodeLevel x.a0 → paramOk p (nodeLevel x.a0) x.a2 = true →
      (∀ i, i < x.a1 → nodeRec p (x.a0 + i) = none) →
      ends (.defNodes (.core n)) 5 fun t => ok t ∧
        (∀ i, i < x.a1 → nodeRec t.pnt (x.a0 + i) = some { RNode.init with param := x.a2 }) ∧
        (∀ j, j < x.a0 ∨ x.a0 + x.a1 ≤ j → nodeRec t.pnt j = nodeRec p j) ∧ t.pnt.pts = p.pts) ∧
    (∀ r, x.key = 0 → x.a0 < 2 ^ 21 → x.a1 = 1 → x.a2 = 0 → x.a3 = 0 → x.a0 < 1118464 → nodeRec p x.a0 = some r → r.nPt = 0 →
      r.nNode = 0 → r.parent = none →
      ends (.delNodes (.core n)) 6 fun t => ok t ∧ nodeRec t.pnt x.a0 = none ∧
        (∀ j, j ≠ x.a0 → nodeRec t.pnt j = nodeRec p j) ∧ t.pnt.pts = p.pts)

/-- STASH_RETRY, REHASH_REQUEST, REHASH_END, PRESS_CLR, SWEEP_VISIT, ROLLUP_PASS, ROLL_LATE, PROF_SEL_WRITE, SPROF_SEL_WRITE, RD_IDX_WRITE,
NODE_SEL_WRITE (R224, R234 to R236, R239, R242, R248, R251, R252). No rehash changes a point. The model's choices in it are those of assumption
log entries 63 and 64. -/
def Obligations.PointPlaneUpkeep : Prop :=
  (∀ (n : Nat) (s : State), s.live = true →
    let p := s.pnt
    (∀ e r sl, p.stash = e :: r → p.retry ≠ s.now / 1000000 + 1 → freeSlot p (bucketOf p.salts 0 e.key) = some sl →
      Ends .stashRetry s fun t =>
        t = { s with pnt := ({ p with retry := s.now / 1000000 + 1, stash := r }).slotPut (bucketOf p.salts 0 e.key) sl
                      (some ⟨p.gen, e.idx, fprint p.salts e.key⟩) }) ∧
    (p.prev = none → Ends (.rehashRequest (.core n)) s fun t =>
      t = { s with pnt := { p with prev := some p.salts, salts := t.pnt.salts, gen := !p.gen }, io := t.io } ∧
      t.io.flag Reg.PNT.STAT 1 = true ∧ t.io.flag 0x40140080 7 = true) ∧
    (p.prev.isSome = true → exec (.rehashRequest (.core n)) s = .next s) ∧
    (p.prev.isSome = true → Ends .rehashEnd s fun t =>
      t = { s with pnt := t.pnt, io := t.io } ∧ t.pnt.prev = none ∧ t.pnt.rehashEnd = some s.now ∧ t.pnt.pts = p.pts ∧
      t.pnt.nodes = p.nodes ∧ t.pnt.salts = p.salts ∧ t.io.flag Reg.PNT.STAT 1 = false ∧ t.io.flag 0x40140080 8 = true ∧
      t.io.reg Reg.PNT.REHASH_CNT = incSat (s.io.reg Reg.PNT.REHASH_CNT)) ∧
    (p.prev = none → exec .rehashEnd s = .next s) ∧
    (Ends (.pressClr (.core n)) s fun t => OnlyRegs s t ∧ t.io.flag Reg.PNT.STAT 5 = false ∧ RegsBut [Reg.PNT.STAT] s t)) ∧
  (∀ (i : Nat) (f : Prof) (s : State), s.live = true → s.io.flag Reg.PNT.CTRL 2 = true → s.io.flag Reg.PNT.STAT 4 = false →
    let p := s.pnt
    let r := ptOf p i
    nextDefined p p.sweep = some (i, false) → profOf p r.profile = some f → stValid r.status = true → f.staleMs ≠ 0 →
    stStale r.status = false → r.time + f.staleMs * 1000000 < s.now →
    Ends (.sweepVisit ⟨false, [], []⟩) s fun t =>
      t = { s with pnt := t.pnt, io := t.io } ∧ ptOf t.pnt i = { r with status := r.status + 64 } ∧
      (∀ j, j ≠ i → ptOf t.pnt j = ptOf p j) ∧ t.pnt.sweep = i + 1) ∧
  (∀ (residue : List Nat) (s : State), s.live = true → s.io.flag Reg.PNT.CTRL 1 = true →
    let k := passNow s.now
    (s.pnt.lastPass ≤ k → Ends (.rollupPass residue) s fun t =>
      t = { s with pnt := t.pnt, io := t.io } ∧ t.pnt.lastPass = k + 1 ∧ t.pnt.pts = s.pnt.pts ∧ t.pnt.ready.isSome = true ∧
      (∀ j r, nodeLevel j = 1 → nodeRec s.pnt j = some r → 0 < r.hardN →
        ∃ r1, nodeRec t.pnt j = some r1 ∧ r1.hardN = r.hardN ∧ r1.pDis = 0 ∧ r1.pChg = 0)) ∧
    (k < s.pnt.lastPass → exec (.rollupPass residue) s = .next s) ∧
    (s.pnt.lastPass ≤ s.now / 10000000 → s.pnt.lateAt ≤ s.now / 10000000 → Ends .rollLate s fun t =>
      t = { s with pnt := { s.pnt with lateAt := s.now / 10000000 + 1 }, io := t.io } ∧ t.io.flag Reg.PNT.STAT 3 = true ∧
      t.io.flag 0x40140080 10 = true ∧ t.io.reg Reg.PNT.ROLL_LATE_CNT = incSat (s.io.reg Reg.PNT.ROLL_LATE_CNT))) ∧
  (∀ (n : Nat) (v : Word) (s : State), s.live = true →
    (∀ q, bit v 31 = true → profOfWords (fun k => s.io.reg (Reg.PNT.PROF_WIN k)) = some q → Ends (.profSelWrite (.core n) v) s fun t =>
      t = { s with pnt := { s.pnt with prof := t.pnt.prof }, io := t.io } ∧ profOf t.pnt (bits v 11 0) = some q ∧
      (∀ j, j ≠ bits v 11 0 → profOf t.pnt j = profOf s.pnt j)) ∧
    (bit v 31 = true → profOfWords (fun k => s.io.reg (Reg.PNT.PROF_WIN k)) = none → Ends (.profSelWrite (.core n) v) s fun t =>
      t = { s with io := t.io } ∧ Logged .pnt 0 4 (.core n) Reg.PNT.PROF_SEL s t) ∧
    (∀ q, bit v 31 = true → sprofOfWords (fun k => s.io.reg (Reg.PNT.SPROF_WIN k)) = some q → Ends (.sprofSelWrite (.core n) v) s fun t =>
      t = { s with pnt := { s.pnt with sprof := t.pnt.sprof }, io := t.io } ∧ sprofOf t.pnt (bits v 7 0) = some q) ∧
    (bit v 31 = true → sprofOfWords (fun k => s.io.reg (Reg.PNT.SPROF_WIN k)) = none → Ends (.sprofSelWrite (.core n) v) s fun t =>
      t = { s with io := t.io } ∧ Logged .pnt 0 4 (.core n) Reg.PNT.SPROF_SEL s t) ∧
    (Ends (.rdIdxWrite (.core n) v) s fun t =>
      let r := ptOf s.pnt (v.toNat % 33554432)
      OnlyRegs s t ∧ t.io.reg (Reg.PNT.RD_DATA 2) = wS r.value ∧ t.io.reg (Reg.PNT.RD_DATA 3) = w32 r.seq ∧
      t.io.reg (Reg.PNT.RD_DATA 6) = w32 (r.status + r.profile * 65536) ∧ t.io.reg Reg.PNT.RD_STAT = w32 (b2n r.lost)) ∧
    (Ends (.nodeSelWrite (.core n) v) s fun t =>
      OnlyRegs s t ∧ (∀ r, nodeRec s.pnt (v.toNat % 2097152) = some r →
        t.io.reg (Reg.PNT.NODE_WIN 0) = wS r.vMin ∧ t.io.reg (Reg.PNT.NODE_WIN 12) = w32 r.pDis ∧
        t.io.reg (Reg.PNT.NODE_WIN 13) = w32 r.pChg)))

/-! Vehicle sessions and the heads (chapter 07). -/

/-- E is the least count of millijoules that is at least c dv² / (2 * 10^12); ser the least count of nanofarads at least a b / (a + b)
(the formulas before R299). Gate 1 passes exactly under its three conditions, gate 2 under its two, gate 3 under its two (R300). -/
def Obligations.StoredEnergyAndGates : Prop :=
  (∀ c dv : Nat, c * dv * dv ≤ eMj c dv * 2000000000000 ∧ eMj c dv * 2000000000000 < c * dv * dv + 2000000000000) ∧
  (∀ a b : Nat, ser 0 0 = 0 ∧ (0 < a + b → a * b ≤ ser a b * (a + b) ∧ ser a b * (a + b) < a * b + (a + b))) ∧
  (∀ (io : Io) (d : Nat) (x : Sess) (h : HeadIn),
    let r := fun a : Nat => (io.reg a).toNat
    let y := eMj (r (Reg.SESS.C_Y d)) (max h.vPpe.natAbs h.vNpe.natAbs) ≤ io.fld (Reg.SESS.E_LIM d) 15 0
    let rel := io.fld (Reg.SESS.E_LIM d) 31 16
    let safe := h.vCable ≤ r (Reg.SESS.V_SAFE d)
    let dv := fun a b : Nat => ((a : Int) - (b : Int)).natAbs
    ((gateEval 1 io d x h).2 = true ↔
      safe ∧ eMj (ser (r (Reg.SESS.C_OUT d)) (r (Reg.SESS.C_CABLE d))) (dv h.vOut h.vCable) ≤ rel ∧ y) ∧
    ((gateEval 2 io d x h).2 = true ↔
      eMj (ser (r (Reg.SESS.C_OUT d) + r (Reg.SESS.C_CABLE d)) (r (Reg.SESS.C_EV_MAX d))) (dv h.vCable x.ev.preMv) ≤ rel ∧ y) ∧
    ((gateEval 3 io d x h).2 = true ↔
      safe ∧ eMj (r (Reg.SESS.C_CABLE d)) h.vCable ≤ io.fld (Reg.SESS.E_HOLD d) 31 16))

/-- ENERGY_START_REQUEST: with gate 2 passing the session enters ENERGY; with gate 2 failing SESS sends the failure response and the
session moves to FAULT with cause GATE (R302, R293, R300). -/
def Obligations.EnergyStartsOnlyThroughGate2 : Prop :=
  ∀ (d : Nat) (s : State), Serves d s →
    let x := sesOf s.sess d
    let h := headIn s.sess d
    x.st = .precharge ∨ x.st = .paused → x.fwStop = false → headFresh s.sess s.io d = true →
      ((gateEval 2 s.io d x h).2 = true → Ends (.energyStartRequest d) s fun t =>
        let y := sesOf t.sess d
        OnlySess d s t ∧ StateRec d x.st s t ∧ Answered d 5 0 s t ∧ t.io.flag 0x40200080 1 = true ∧
        y = { x with st := .energy, since := s.now, gate := y.gate, gateOk := true, tmr := y.tmr, run := y.run, tcp := y.tcp } ∧
        y.tmr = { x.tmr with
          seq := some (s.now + s.io.fld (Reg.SESS.TMO0 d) 15 8 * sec), prechg := none,
          loop := some (s.now + s.io.fld (Reg.SESS.TMO1 d) 15 0 * ms) }) ∧
      ((gateEval 2 s.io d x h).2 = false → Ends (.energyStartRequest d) s fun t =>
        Faulted d 0xC 0 s t ∧ Answered d 5 1 s t ∧ t.io.flag 0x40200080 4 = true)

/-- LINK_UP, SDP_REQUEST, SAP_REQUEST, CLIENT_HELLO, SLOW_PATH_REQUEST, CABLE_CHECK_REQUEST, PRECHARGE_REQUEST, FAST_PATH_REQUEST,
CHARGE_STANDBY, STOP_REQUEST, SESSION_END_REQUEST: each moves its session as R293 gives and is answered; a request that the state does
not allow gets the sequence error, and the session FAULT with cause SEQ (R268, R269, R284, R288, R289, R292, R293). The model's choices in it are
those of assumption log entries 66, 69, 70, 71, 72, 79, 81, 82 and 86. -/
def Obligations.VehicleRequestsMoveTheSession : Prop :=
  ∀ (d : Nat) (s : State), Serves d s →
    let x := sesOf s.sess d
    let h := headIn s.sess d
    let moved := fun (st : SState) (t : State) =>
      OnlySess d s t ∧ (sesOf t.sess d).st = st ∧ (sesOf t.sess d).since = s.now ∧ (sesOf t.sess d).energyEn = x.energyEn ∧
      StateRec d x.st s t
    let asked := fun t : State => t.io.reg Reg.SESS.RX_MSG_CNT = incSat (s.io.reg Reg.SESS.RX_MSG_CNT) ∧
      (sesOf t.sess d).tmr.seq = some (s.now + s.io.fld (Reg.SESS.TMO0 d) 15 8 * sec)
    let g := s.grantView d
    let fast := fun (kind result : Nat) (t : State) => t.io.evts = s.io.evts ++ [⟨"VEH_RESP", d,
      [x.proto, kind, result, h.vCable, unS 32 h.iOut, min g.i.natAbs g.cap, g.p.natAbs, b2n (isoStatus (s.sess, s.io) d)]⟩]
    let refused := fun (i : Instr) (kind : Nat) => Ends i s fun t => Faulted d 0x14 0 s t ∧ Answered d kind 2 s t
    -- link, protocol, TLS
    (x.st = .plugged → s.io.fld (Reg.SESS.DCTL d) 23 22 = 0 → x.linkRb = true → Ends (.linkUp d) s fun t =>
      moved .link t ∧ (sesOf t.sess d).tmr = { x.tmr with
        link := none, setup := some (s.now + s.io.fld (Reg.SESS.TMO0 d) 23 16 * sec) }) ∧
    (x.st ≠ .plugged → exec (.linkUp d) s = .next s) ∧
    (∀ tls, x.st = .link → Ends (.sdpRequest d tls) s fun t =>
      OnlySess d s t ∧ t.io.regs = s.io.regs ∧
      ((if tls then offered s.io d 3 else offered s.io d 1 || offered s.io d 2) = true → Answered d 1 0 s t) ∧
      ((if tls then offered s.io d 3 else offered s.io d 1 || offered s.io d 2) = false → t = s)) ∧
    (∀ l, x.st = .link → x.fwStop = false → Ends (.sapRequest d l) s fun t => asked t ∧
      (∀ p, bestOffer s.io d (!x.ctx.isEmpty) l = some p → moved .setup t ∧ (sesOf t.sess d).proto = p ∧ Answered d 2 0 s t) ∧
      (bestOffer s.io d (!x.ctx.isEmpty) l = none →
        OnlySess d s t ∧ (sesOf t.sess d).st = .link ∧ (sesOf t.sess d).proto = x.proto ∧ Answered d 2 1 s t)) ∧
    (∀ l, x.st = .setup → x.fwStop = false → refused (.sapRequest d l) 2) ∧
    (∀ c, x.st = .link → s.io.flag Reg.XCR.CTRL 0 = true → leafKeys s = true → x.ctx = [] → c < 512 → c ∉ ctxUsed s.sess →
      (∀ j, j < c → j ∈ ctxUsed s.sess) → Ends (.clientHello d .hello) s fun t =>
        OnlySess d s t ∧ sesOf t.sess d = { x with ctx := [c] } ∧ t.io.reg Reg.XCR.HS_CNT = incSat (s.io.reg Reg.XCR.HS_CNT) ∧
        RegsBut [Reg.XCR.HS_CNT] s t) ∧
    (x.st = .link → s.io.flag Reg.XCR.CTRL 0 = true → leafKeys s = true → x.ctx = [] → (∀ j, j < 512 → j ∈ ctxUsed s.sess) →
      Ends (.clientHello d .hello) s fun t =>
        OnlySess d s t ∧ sesOf t.sess d = x ∧ t.io.reg Reg.XCR.CTX_FULL_CNT = incSat (s.io.reg Reg.XCR.CTX_FULL_CNT) ∧
        t.io.flag 0x40210080 1 = true) ∧
    -- slow path
    (∀ code ws u, x.st = .setup → x.fwStop = false → Ends (.slowPathRequest d code ws u none) s fun t =>
      let n := Tbl.get s.sess.txn 0 d
      OnlySess d s t ∧ asked t ∧ (sesOf t.sess d).st = .setup ∧ (sesOf t.sess d).ev = x.ev.take u ∧
      (sesOf t.sess d).slow = x.slow ++ [⟨n, code, ws, s.now + s.io.fld Reg.SESS.CFG 23 16 * 10 * ms⟩] ∧
      Tbl.get t.sess.txn 0 d = (n + 1) % 65536 ∧
      Wrote q6 (fun gap => qLenWord 8 (ws.length + 1) :: qWord false ws.isEmpty 8
        (0xB0 * 2 ^ 48 + d * 2 ^ 40 + x.proto * 2 ^ 36 + code % 65536 * 2 ^ 16 + n + b2n gap * 2 ^ 35) ::
        ws.mapIdx fun i p => qWord false (i + 1 == ws.length) 8 p) s t) ∧
    (∀ code ws u, x.st = .energy → x.fwStop = false → refused (.slowPathRequest d code ws u none) 11) ∧
    -- cable check and pre-charge
    (∀ u, x.st = .setup → x.fwStop = false → x.energyEn = true → headFresh s.sess s.io d = true →
      (gateEval 1 s.io d x h).2 = true → Ends (.cableCheckRequest d u) s fun t =>
        let y := sesOf t.sess d
        let c := Tbl.get s.sess.cmdId 0 d
        moved .cableCheck t ∧ asked t ∧ y.lock = 1 ∧ y.ctl = x.ctl ++ [(c, 1)] ∧ y.ev = x.ev.take u ∧
        y.tmr.cable = some (s.now + s.io.fld (Reg.SESS.TMO0 d) 7 0 * sec) ∧ fast 3 0 t) ∧
    (∀ u, x.st = .setup → x.fwStop = false → x.energyEn = false →
      Ends (.cableCheckRequest d u) s fun t => Faulted d 0x13 0 s t ∧ Answered d 3 1 s t) ∧
    (∀ u, x.st = .setup → x.fwStop = false → x.energyEn = true → headFresh s.sess s.io d = true →
      (gateEval 1 s.io d x h).2 = false → Ends (.cableCheckRequest d u) s fun t => Faulted d 0xC 0 s t ∧ Answered d 3 1 s t) ∧
    (∀ tgt, x.st = .cableCheck → x.isoOk = true → x.fwStop = false → headFresh s.sess s.io d = true →
      Ends (.prechargeRequest d tgt) s fun t =>
        let y := sesOf t.sess d
        let c := Tbl.get s.sess.cmdId 0 d
        moved .precharge t ∧ asked t ∧ y.ctl = x.ctl ++ [(c, 7), ((c + 1) % 65536, 3)] ∧ y.ev = { x.ev with preMv := tgt, tgtMv := tgt } ∧
        y.tmr.prechg = some (s.now + s.io.fld (Reg.SESS.TMO1 d) 31 16 * ms) ∧
        fast 4 (if (gateEval 2 s.io d { x with ev := { x.ev with preMv := tgt } } h).2 then 0 else 4) t) ∧
    (∀ tgt, x.st = .cableCheck → x.isoOk = false → x.fwStop = false → refused (.prechargeRequest d tgt) 4) ∧
    -- the charge loop, standby, stop, end
    (∀ u, x.st = .energy → x.fwStop = false → Ends (.fastPathRequest d .loop u) s fun t =>
      let y := sesOf t.sess d
      OnlySess d s t ∧ asked t ∧ y = { x with ev := x.ev.take u, tmr := y.tmr, tcp := y.tcp } ∧ t.io.queues = s.io.queues ∧
      y.tmr.loop = some (s.now + s.io.fld (Reg.SESS.TMO1 d) 15 0 * ms) ∧ fast 6 0 t) ∧
    (∀ u, x.st = .setup → x.fwStop = false → refused (.fastPathRequest d .loop u) 6) ∧
    (x.st = .energy → x.proto = 3 → x.fwStop = false → Ends (.chargeStandby d) s fun t =>
      moved .paused t ∧ asked t ∧ (sesOf t.sess d).tmr.loop = none ∧ fast 8 0 t) ∧
    (x.st = .energy → x.proto ≠ 3 → x.fwStop = false → refused (.chargeStandby d) 8) ∧
    (x.st = .energy ∨ x.st = .paused → x.fwStop = false → Ends (.stopRequest d) s fun t =>
      moved .stopping t ∧ asked t ∧ (sesOf t.sess d).cause = 1 ∧ Answered d 9 0 s t ∧
      (sesOf t.sess d).tmr.stop = some (s.now + s.io.fld (Reg.SESS.TMO2 d) 31 16 * ms)) ∧
    (x.st = .setup → x.fwStop = false → refused (.stopRequest d) 9) ∧
    (x.st = .discharge → x.fwStop = false → headFresh s.sess s.io d = true → (gateEval 3 s.io d x h).2 = true →
      Ends (.sessionEndRequest d) s fun t =>
        let y := sesOf t.sess d
        OnlySess d s t ∧ y.st = .ended ∧ y.since = s.now ∧ y.energyEn = false ∧ y.ctx = [] ∧ y.lock = 0 ∧ y.tmr = STimers.init ∧
        y.ctl = x.ctl ++ [(Tbl.get s.sess.cmdId 0 d, 5)] ∧ t.io.flag 0x40200080 2 = true ∧ StateRec d .discharge s t) ∧
    (x.st = .stopping → x.fwStop = false → Ends (.sessionEndRequest d) s fun t =>
      OnlySess d s t ∧ asked t ∧ (sesOf t.sess d).endRx = true ∧ (sesOf t.sess d).st = .stopping ∧ Answered d 10 0 s t)

/-- TX_MSG, CMD_ENERGY_EN, CMD_ENERGY_DIS, CMD_STOP, CMD_RESET_FAULT, FW_TIMEOUT, SESSION_TIMEOUT, HEAD_STATUS_STALE, FAST_REPORT,
CERT_DATA_WRITE, CERT_COMMIT, FRAGMENT_TIMEOUT: what firmware, the timers and the certificate registers do (R272, R283, R289 to R291, R293, R294, R296, R297,
R315, R317, R318). The model's choices in it are those of assumption log entries 66, 82, 84 and 89. -/
def Obligations.FirmwareAndTimersOfSessions : Prop :=
  (∀ (d : Nat) (s : State), Serves d s →
    let x := sesOf s.sess d
    let has := fun (t : State) (y : Sess) => OnlySess d s t ∧ sesOf t.sess d = y
    let discards := fun i : Instr => Ends i s fun t => OnlyRegs s t ∧ RegsBut [Reg.SESS.Q7_REJ_CNT] s t ∧
      t.io.reg Reg.SESS.Q7_REJ_CNT = incSat (s.io.reg Reg.SESS.Q7_REJ_CNT)
    -- Q7
    (d < 256 → ∀ txn code ws, txn < 65536 → code < 65536 →
      let first := 0xC0 * 2 ^ 48 + d * 2 ^ 40 + code * 2 ^ 16 + txn
      ((∃ r ∈ x.slow, r.txn = txn) → Ends (.txMsg first ws true) s fun t =>
        OnlySess d s t ∧ (sesOf t.sess d).slow = (x.slow.filter fun r => r.txn != txn) ∧
        t.io.evts = s.io.evts ++ [⟨"VEH_RESP", d, [x.proto, 11, 0, code] ++ ws⟩] ∧ t.io.queues = s.io.queues) ∧
      ((∃ r ∈ x.slow, r.txn = txn) → Ends (.txMsg first ws false) s fun t =>
        t = { s with io := t.io } ∧ t.io.evts = s.io.evts ∧ Wrote q6 (fun g => [qLenWord 0xC 1, qWord false true 0xC
          (0xB4 * 2 ^ 48 + d * 2 ^ 40 + x.st.code * 2 ^ 36 + 0x10 * 2 ^ 24 + b2n g * 2 ^ 35)]) s t) ∧
      ((∀ r ∈ x.slow, r.txn ≠ txn) → discards (.txMsg first ws true))) ∧
    (∀ low, low < 2 → Ends (.cmdEnergyEn d low) s fun t =>
      has t { x with energyEn := true, floor := decide (low = 1) } ∧ t.io = s.io) ∧
    (∀ low, 2 ≤ low → low < 2 ^ 32 → discards (.cmdEnergyEn d low)) ∧
    (Ends (.cmdEnergyDis d 0) s fun t => has t { x with energyEn := false, floor := false } ∧ t.io = s.io) ∧
    (∀ low, 1 ≤ low → low < 2 ^ 32 → discards (.cmdEnergyDis d low) ∧ discards (.cmdStop d low) ∧ discards (.cmdResetFault d low)) ∧
    (x.st = .energy ∨ x.st = .paused → Ends (.cmdStop d 0) s fun t =>
      let y := sesOf t.sess d
      OnlySess d s t ∧ y.st = .stopping ∧ y.cause = 2 ∧ StateRec d x.st s t ∧
      y.tmr = { x.tmr with stop := some (s.now + s.io.fld (Reg.SESS.TMO2 d) 31 16 * ms) }) ∧
    (x.st = .plugged ∨ x.st = .link ∨ x.st = .setup ∨ x.st = .cableCheck ∨ x.st = .precharge → Ends (.cmdStop d 0) s fun t =>
      has t { x with fwStop := true } ∧ t.io = s.io) ∧
    (x.st = .fault → x.lockRb = 0 → Ends (.cmdResetFault d 0) s fun t =>
      let y := sesOf t.sess d
      OnlySess d s t ∧ y.st = .idle ∧ y.ctx = [] ∧ StateRec d .fault s t) ∧
    (x.st = .fault → x.lockRb ≠ 0 → exec (.cmdResetFault d 0) s = .next s) ∧
    -- the firmware deadline and the timers
    (∀ r txn, x.slow.find? (fun q => q.txn == txn) = some r → x.st.runs = true →
      (r.due ≤ s.now → Ends (.fwTimeout d txn) s fun t => Faulted d 0x10 0 s t ∧ Answered d 11 1 s t) ∧
      (s.now < r.due → exec (.fwTimeout d txn) s = .next s)) ∧
    (∀ n due c, n < 8 → x.timer n = some (due, c) →
      (due ≤ s.now → Ends (.sessionTimeout d n) s fun t => Faulted d (4 + n) 0 s t ∧
        (n = 6 → (sesOf t.sess d).openSent = true ∧ (sesOf t.sess d).ctl = x.ctl ++ [(Tbl.get s.sess.cmdId 0 d, 2)])) ∧
      (s.now < due → exec (.sessionTimeout d n) s = .next s)) ∧
    ((x.st = .plugged → x.timer 0 = x.tmr.link.map fun v => (v, 4)) ∧ (x.st = .link → x.timer 1 = x.tmr.setup.map fun v => (v, 5)) ∧
      (x.st = .paused → x.timer 2 = x.tmr.seq.map fun v => (v, 6)) ∧ (x.st = .energy → x.timer 2 = none) ∧
      (x.st = .energy → x.timer 3 = x.tmr.loop.map fun v => (v, 7)) ∧ (x.st = .cableCheck → x.timer 4 = x.tmr.cable.map fun v => (v, 8)) ∧
      (x.st = .precharge → x.timer 5 = x.tmr.prechg.map fun v => (v, 9)) ∧
      (x.st = .stopping → x.openSent = false → x.timer 6 = x.tmr.stop.map fun v => (v, 0xA)) ∧
      (x.st = .discharge → x.timer 7 = x.tmr.disch.map fun v => (v, 0xB))) ∧
    (x.st.powered = true → headFresh s.sess s.io d = false → Ends (.headStatusStale d) s (Faulted d 0xD 0 s)) ∧
    (headFresh s.sess s.io d = true → exec (.headStatusStale d) s = .next s) ∧
    (∀ p, x.st = .energy → s.io.fld Reg.SESS.CFG 31 24 = p → 0 < p → x.fastWin ≤ s.now / (p * ms) → Ends (.fastReport d) s fun t =>
      has t { x with fastWin := s.now / (p * ms) + 1 } ∧ Wrote q6 (fun g => [qLenWord 4 2,
        qWord false false 4 (0xB3 * 2 ^ 48 + d * 2 ^ 40 + unS 32 x.ev.tgtMa + b2n g * 2 ^ 35),
        qWord false true 4 (x.ev.tgtMv % 2 ^ 32)]) s t) ∧
    (x.st ≠ .energy → exec (.fastReport d) s = .next s)) ∧
  (∀ (n : Nat) (v : Word) (s : State), s.live = true →
    let only := fun t : State => t = { s with sess := { s.sess with xcr := t.sess.xcr }, io := t.io }
    (Ends (.certDataWrite (.core n) v) s fun t =>
      only t ∧ t.io.reg Reg.XCR.CERT_DATA = v ∧ RegsBut [Reg.XCR.CERT_DATA] s t ∧ t.sess.xcr.addr = s.sess.xcr.addr + 4 ∧
      t.sess.xcr.stores = s.sess.xcr.stores ∧
      (∀ i, i < 4 → (Tbl.get t.sess.xcr.stage 0 (s.sess.xcr.addr + i)).toNat = v.toNat / 256 ^ i % 256) ∧
      (∀ a, a < s.sess.xcr.addr ∨ s.sess.xcr.addr + 4 ≤ a → Tbl.get t.sess.xcr.stage 0 a = Tbl.get s.sess.xcr.stage 0 a)) ∧
    (∀ parses, bit v 0 = true → let len := bits v 31 16
      let k := certStore s.io
      (parses = true → len ≤ (if k < 2 then 8192 else 2048) → Ends (.certCommit (.core n) v parses) s fun t =>
        only t ∧ t.sess.xcr.stage = s.sess.xcr.stage ∧
        Tbl.get t.sess.xcr.stores [] k = (List.range len).map (fun i => Tbl.get s.sess.xcr.stage 0 i) ∧
        (∀ j, j ≠ k → Tbl.get t.sess.xcr.stores [] j = Tbl.get s.sess.xcr.stores [] j) ∧
        t.io.flag Reg.XCR.CERT_CTL 1 = false ∧ RegsBut [Reg.XCR.CERT_CTL] s t) ∧
      (parses = false → Ends (.certCommit (.core n) v parses) s fun t =>
        t = { s with io := t.io } ∧ t.io.flag Reg.XCR.CERT_CTL 1 = true ∧ t.io.flag 0x40210080 2 = true)) ∧
    (∀ d ch fid f, fid < 65536 → Tbl.get s.sess.frags none ((d * 8 + ch) * 65536 + fid) = some f →
      (f.since + 2 * ms ≤ s.now → Ends (.fragmentTimeout d ch fid) s fun t =>
        t = { s with sess := { s.sess with frags := t.sess.frags }, io := t.io } ∧ RegsBut [Reg.SESS.FRAG_DROP_CNT] s t ∧
        Tbl.get t.sess.frags none ((d * 8 + ch) * 65536 + fid) = none ∧
        t.io.reg Reg.SESS.FRAG_DROP_CNT = incSat (s.io.reg Reg.SESS.FRAG_DROP_CNT)) ∧
      (s.now < f.since + 2 * ms → exec (.fragmentTimeout d ch fid) s = .next s)))

/-- PILOT_REPORT, CTL_RESPONSE, HEAD_STATUS, VEHICLE_FRAME: what a head's message does to its session (R272, R275, R276, R277, R280, R293, R298,
R303, R308). A report in the layout of R280 from the dispenser's own head becomes its input; the session acts on a fresh one: the insulation
result, three reports over E_Y_LIM (R303), two at residual current (R293), two that contradict the last CTL command (R298). The model's choices in
it are those of assumption log entries 68, 74, 75, 77, 78, 88 and 199. -/
def Obligations.HeadMessagesMoveTheSession : Prop :=
  (∀ (m : AtkMsg) (s : State), Passes m s →
    let p := m.payload
    let d := u8 p 2
    let r := p.drop 16
    let x := sesOf s.sess d
    let whole := fun (ch len : Nat) => m.ty = 5 ∧ vtunOk s.alloc.model m.src p = true ∧ u8 p 0 = ch ∧ u8 p 1 % 4 = 0 ∧ u16 p 4 = len
    let u := received m s
    Serves d s →
    -- PILOT
    (whole 4 8 → x.st = .idle → u8 r 0 ≠ 0 → s.io.fld (Reg.SESS.DCTL d) 23 22 = 0 → Ends (.pilotReport m) s fun t =>
      let y := sesOf t.sess d
      OnlySess d u t ∧ y.st = .plugged ∧ y.start = s.now ∧ y.pilot = u8 r 0 ∧ y.lockRb = u8 r 4 ∧ y.duty = 50 ∧ y.lock = x.lock ∧
      y.tmr = { STimers.init with link := some (s.now + s.io.fld (Reg.SESS.TMO0 d) 31 24 * sec) } ∧ y.energyEn = x.energyEn ∧
      y.slow = [] ∧ y.ev = EvVals.init ∧ t.io.flag 0x40200080 0 = true ∧ StateRec d .idle u t) ∧
    (whole 4 8 → x.st.powered = true → x.st ≠ .discharge → u8 r 0 = 0 ∨ u8 r 0 = 4 ∨ u8 r 0 = 5 → Ends (.pilotReport m) s fun t =>
      Faulted d 3 0 u t ∧ (sesOf t.sess d).ctl = x.ctl ++ [(Tbl.get s.sess.cmdId 0 d, 2)]) ∧
    (whole 4 8 → x.st = .energy → u8 r 0 = 2 → Ends (.pilotReport m) s fun t =>
      OnlySess d u t ∧ t.io = u.io ∧ sesOf t.sess d = { x with pilot := 2, lockRb := u8 r 4, linkRb := u8 r 6 % 2 == 1 }) ∧
    (whole 4 8 → x.st = .ended → u8 r 0 = 0 → Ends (.pilotReport m) s fun t =>
      OnlySess d u t ∧ (sesOf t.sess d).st = .idle ∧ (sesOf t.sess d).ctx = [] ∧ StateRec d .ended u t) ∧
    -- CTL
    (whole 6 16 → x.st = .cableCheck → x.ctl = [(u16 r 2, 1)] → u8 r 0 = 1 → u32 r 4 % 4 = 3 → Ends (.ctlResponse m) s fun t =>
      let y := sesOf t.sess d
      let c := Tbl.get s.sess.cmdId 0 d
      OnlySess d u t ∧ y = { x with closed := some true, ctl := [(c, 3), ((c + 1) % 65536, 6)], run := { x.run with contra := 0, id := u16 r 2 } }) ∧
    (whole 6 16 → x.st = .stopping → x.ctl = [(u16 r 2, 2)] → u8 r 0 = 2 → u32 r 4 % 4 = 0 → Ends (.ctlResponse m) s fun t =>
      let y := sesOf t.sess d
      OnlySess d u t ∧ y.st = .discharge ∧ y.closed = some false ∧ y.dischSent = true ∧
      y.ctl = [(Tbl.get s.sess.cmdId 0 d, 4)] ∧ y.tmr.stop = none ∧
      y.tmr.disch = some (s.now + s.io.fld (Reg.SESS.TMO2 d) 15 0 * ms) ∧ StateRec d .stopping u t) ∧
    (whole 6 16 → x.ctl = [] → Ends (.ctlResponse m) s fun t => t = u) ∧
    -- vehicle frames: whole, first and last fragment, CAN record
    (∀ tcp, whole 1 (u16 p 4) → x.st = .energy → Ends (.vehicleFrame tcp m) s fun t =>
      OnlySess d u t ∧ t.io = u.io ∧ sesOf t.sess d = { x with tcp := { x.tcp with rx := x.tcp.rx + tcp } }) ∧
    (whole 3 16 → Ends (.vehicleFrame 0 m) s fun t => t = { u with io := t.io } ∧ Wrote q6 (fun g => [qLenWord 4 3,
      qWord false false 4 (0xB2 * 2 ^ 48 + d * 2 ^ 40 + x.proto * 2 ^ 36 + u32 r 0 + b2n g * 2 ^ 35),
      qWord false false 4 (leN r 8 7), qWord false true 4 (u8 r 4 * 2 ^ 48 + u8 r 15)]) u t) ∧
    (∀ tcp, m.ty = 5 → vtunOk s.alloc.model m.src p = true → u8 p 0 ≤ 3 →
      let key := (d * 8 + u8 p 0) * 65536 + u16 p 6
      (u8 p 1 % 4 = 1 → Ends (.vehicleFrame tcp m) s fun t =>
        t = { u with sess := { s.sess with frags := t.sess.frags } } ∧ Tbl.get t.sess.frags none key = some ⟨r, s.now⟩ ∧
        (∀ k, k ≠ key → Tbl.get t.sess.frags none k = Tbl.get s.sess.frags none k)) ∧
      (∀ f, u8 p 1 % 4 = 2 → u8 p 0 ≤ 2 → Tbl.get s.sess.frags none key = some f → Ends (.vehicleFrame tcp m) s fun t =>
        Tbl.get t.sess.frags none key = none ∧
        (s.now ≤ f.since + 2 * ms → t.io = u.io ∧ (x.st = .energy → (sesOf t.sess d).tcp.rx = x.tcp.rx + tcp)) ∧
        (f.since + 2 * ms < s.now → t.sess.disp = s.sess.disp ∧
          t.io.reg Reg.SESS.FRAG_DROP_CNT = incSat (s.io.reg Reg.SESS.FRAG_DROP_CNT))))) ∧
  (∀ (m : AtkMsg) (s : State), Passes m s → m.ty = 8 → m.sub = 1 → headLayout m.payload = true →
    u8 m.payload 0 < nDisp s.alloc.model → dispHead s.alloc.model (u8 m.payload 0) = m.src →
    let d := u8 m.payload 0
    let h := parseHead s.now m.payload
    let x := sesOf s.sess d
    (Ends (.headStatus m) s fun t =>
      headIn t.sess d = h ∧ (∀ j, j ≠ d → headIn t.sess j = headIn s.sess j ∧ sesOf t.sess j = sesOf s.sess j) ∧
      t = { s with sess := t.sess, gnt := t.gnt, lease := t.lease, io := t.io }) ∧
    (Serves d s → h.timeHeld = true → s.now ≤ h.meas + 4 * s.io.fld (Reg.SESS.DCTL d) 19 16 * ms →
      (x.st = .cableCheck → x.closed = none → h.imd = true → s.io.fld (Reg.SESS.E_HOLD d) 15 0 ≤ h.iso →
        Ends (.headStatus m) s fun t => (sesOf t.sess d).isoOk = true ∧ (sesOf t.sess d).st = .cableCheck) ∧
      (x.st = .energy → x.closed = none → 2 ≤ x.run.y → s.io.fld (Reg.SESS.E_LIM d) 15 0 < yEnergy s.io d h →
        Ends (.headStatus m) s fun t => (sesOf t.sess d).st = .stopping ∧ (sesOf t.sess d).cause = 0x12) ∧
      (x.st = .stopping → x.closed = none → x.openSent = false → 1 ≤ x.run.resid →
        h.iOut.natAbs ≤ (s.io.reg Reg.LEASE.RESID).toNat → Ends (.headStatus m) s fun t =>
          (sesOf t.sess d).openSent = true ∧ (sesOf t.sess d).ctl = x.ctl ++ [(Tbl.get s.sess.cmdId 0 d, 2)] ∧
          (sesOf t.sess d).st = .stopping) ∧
      (x.st = .energy → x.closed = some true → 1 ≤ x.run.contra → (h.pos && h.neg) = false →
        Ends (.headStatus m) s fun t => (sesOf t.sess d).st = .fault ∧ (sesOf t.sess d).cause = 0x11)) ∧
    (Serves d s → x.st.powered = true → h.timeHeld = false →
      Ends (.headStatus m) s fun t => (sesOf t.sess d).st = .fault ∧ (sesOf t.sess d).cause = 0xD))

/-- PILOT_COMMAND, CTL_CLOSE, CTL_OPEN, CTL_VOLT, CTL_DISCH_ON, CTL_DISCH_OFF, CTL_ISO_START, CTL_ISO_STOP, HEAD_TX_AT, VTUN_TO_HEAD,
HEAD_CONTROL_LOSS: what a head does, and which of its state stays (R265, R272, R273, R276 to R279). The contactors close only with the
coil supplied. The model's choices in it are those of assumption log entries 34, 80 and 85. -/
def Obligations.HeadsObeyTheirCommands : Prop :=
  ∀ (d hnow : Nat) (s : State),
    let h := headOf s.sess d
    let heard : HeadSt := { h with lastVtun := hnow, lost := false, lowSince := none }
    let becomes := fun (y : HeadSt) (t : State) => t = { s with sess := { s.sess with head := t.sess.head }, io := t.io } ∧
      t.io.regs = s.io.regs ∧ headOf t.sess d = y ∧ ∀ j, j ≠ d → headOf t.sess j = headOf s.sess j
    let rb := fun y : HeadSt => 3 * b2n y.closed + 4 * b2n y.disch + 8 * b2n y.iso
    let answers := fun (op id : Nat) (y : HeadSt) (t : State) =>
      becomes y t ∧ t.io.evts = s.io.evts ++ [⟨"HEAD_CTL", d, [op, 0, id % 65536, rb y]⟩]
    (∀ duty lock lines, Ends (.pilotCommand d hnow duty lock lines) s fun t =>
      becomes { heard with duty := duty, lock := lock, lines := lines } t ∧
      t.io.evts = s.io.evts ++ [⟨"HEAD_PILOT", d, [duty, lock, lines]⟩]) ∧
    (∀ id,
      (s.coilOf d = true → Ends (.ctlClose d hnow id) s (answers 1 id { heard with closed := true })) ∧
      (s.coilOf d = false → Ends (.ctlClose d hnow id) s fun t =>
        becomes heard t ∧ ∃ res, (res = 1 ∨ res = 2) ∧ t.io.evts = s.io.evts ++ [⟨"HEAD_CTL", d, [1, res, id % 65536, rb heard]⟩]) ∧
      Ends (.ctlOpen d hnow id) s (answers 2 id { heard with closed := false }) ∧
      (∀ mv ma, Ends (.ctlVolt d hnow id mv ma) s (answers 3 id { heard with volt := some (mv, ma) })) ∧
      Ends (.ctlDischOn d hnow id) s (answers 4 id { heard with disch := true }) ∧
      Ends (.ctlDischOff d hnow id) s (answers 5 id { heard with disch := false }) ∧
      Ends (.ctlIsoStart d hnow id) s (answers 6 id { heard with iso := true }) ∧
      Ends (.ctlIsoStop d hnow id) s (answers 7 id { heard with iso := false })) ∧
    (∀ (l : Holder), (l.st ≠ .inForce → headLimit h l = 0) ∧
      (∀ mv ma g, l.st = .inForce → h.volt = some (mv, ma) → l.cur = some g → headLimit h l ≤ ma ∧ headLimit h l ≤ g.i.natAbs)) ∧
    (∀ f : HeadTx, h.tx = [f] →
      (f.txAt ≤ hnow → Ends (.headTxAt d hnow) s fun t => becomes { h with tx := [] } t ∧
        t.io.evts = s.io.evts ++ [⟨"VEHICLE", d, f.ch :: f.bytes.map fun b => b.toNat⟩]) ∧
      (∀ g : HeadTx, g.ch = f.ch → hnow < f.txAt → ∀ u : State, headOf u.sess d = { h with tx := [f, g] } →
        Ends (.headTxAt d hnow) u fun t => headOf t.sess d = headOf u.sess d ∧ t.io = u.io)) ∧
    (∀ p : List Byte, u8 p 2 = d → p.length = 16 + u16 p 4 → u16 p 4 ≤ 1388 → 1 ≤ u8 p 0 → u8 p 0 ≤ 3 → h.tx = [] →
      (u8 p 1 = 0 → u64 p 8 ≤ hnow → Ends (.vtunToHead hnow p) s fun t => becomes heard t ∧
        t.io.evts = s.io.evts ++ [⟨"VEHICLE", d, u8 p 0 :: (p.drop 16).map fun b => b.toNat⟩]) ∧
      (u8 p 1 = 0 → hnow < u64 p 8 → Ends (.vtunToHead hnow p) s fun t =>
        becomes { heard with tx := [⟨u8 p 0, u64 p 8, p.drop 16⟩] } t ∧ t.io = s.io) ∧
      (u8 p 1 = 1 → Ends (.vtunToHead hnow p) s fun t => t.io = s.io ∧ (headOf t.sess d).tx = [] ∧
        Tbl.get (headOf t.sess d).frag none (u8 p 0 * 65536 + u16 p 6) = some ⟨p.drop 16, hnow⟩) ∧
      (∀ f, u8 p 1 = 2 → Tbl.get h.frag none (u8 p 0 * 65536 + u16 p 6) = some f → hnow ≤ f.since + 2 * ms → u64 p 8 ≤ hnow →
        Ends (.vtunToHead hnow p) s fun t =>
          t.io.evts = s.io.evts ++ [⟨"VEHICLE", d, u8 p 0 :: (f.bytes ++ p.drop 16).map fun b => b.toNat⟩])) ∧
    (let l := Tbl.get s.lease.holders Holder.init (holderKey (dispHead s.alloc.model d) d)
     (h.lost = false → l.st ≠ .inForce → l.noneAt + 2 * sec ≤ hnow → h.lastVtun + 2 * sec ≤ hnow →
       ∀ low, Ends (.headControlLoss d hnow low) s fun t => becomes { h with
         closed := false, disch := true, duty := 1000, lost := true, lowSince := if low then some hnow else none } t ∧ t.io = s.io) ∧
     (∀ t0, h.lost = true → h.lowSince = some t0 →
       (t0 + 100 * ms ≤ hnow → Ends (.headControlLoss d hnow true) s (becomes { h with lock := 0 })) ∧
       (hnow < t0 + 100 * ms → exec (.headControlLoss d hnow true) s = .next s)) ∧
     (h.lost = false → hnow < h.lastVtun + 2 * sec → ∀ low, exec (.headControlLoss d hnow low) s = .next s))

/-! Networks: Atkai, Ethernet, time, CAN, host (chapter 08). -/

/-- ATKAI_DISCARD. A message that fails a check of R324 changes the counter of the first check that fails, with its event bit, and
nothing else: no stream, no learned address (R325). -/
def Obligations.FailedChecksChangeOnlyTheirCounter : Prop :=
  (∀ (m : AtkMsg) (s : State) (c : Nat) (ev : Option Nat), s.live = true → s.io.flag Reg.FAB.CTRL 0 = true →
    atkReject s.io s.io.active m = some (c, ev) →
      Ends (.atkaiDiscard m) s fun t =>
        OnlyRegs s t ∧ RegsBut [c, 0x40300080] s t ∧ t.io.reg c = incSat (s.io.reg c) ∧
        (∀ b, b < 32 → (t.io.flag 0x40300080 b = true ↔ s.io.flag 0x40300080 b = true ∨ ev = some b))) ∧
  (∀ (m : AtkMsg) (io : Io) (act : Bool),
    let f := m.version = 1 ∧ m.rsvZero = true ∧ m.flags ≤ 1 ∧ m.recvLen = 48 + m.len ∧ m.len ≤ 1404 ∧ m.payload.length = m.len ∧
      issuedType m.ty m.sub = true ∧ m.ty ∉ [1, 6, 7, 0xB] ∧ ¬ (m.ty = 8 ∧ m.sub = 4)
    let d := m.dst = io.ownId ∨ m.dst = 4 ∨ m.dst = 0xFFFF ∨ (m.dst = 3 ∧ act = true)
    let k := (Tbl.get io.keys KeyGen.init (keySlot m.ty m.src)).holds m.keyGen io.now = true
    let w := m.time ≤ io.now + 1000000 ∧ io.now ≤ m.time + io.fld Reg.FAB.ATK_CFG 9 0 * 1000000
    let q := (Tbl.get io.streams Stream.init (streamKey m.ty m.src)).takes m.seq m.time io.now = true
    (¬ f → atkReject io act m = some (Reg.FAB.FORMAT_CNT, none)) ∧
    (f → ¬ d → atkReject io act m = some (Reg.FAB.DST_DROP_CNT, none)) ∧
    (f → d → ¬ k → atkReject io act m = some (Reg.FAB.NOKEY_CNT, some 3)) ∧
    (f → d → k → m.tagOk = false → atkReject io act m = some (Reg.FAB.TAG_FAIL_CNT, some 0)) ∧
    (f → d → k → m.tagOk = true → ¬ w → atkReject io act m = some (Reg.FAB.TIME_REJ_CNT, some 2)) ∧
    (f → d → k → m.tagOk = true → w → ¬ q → atkReject io act m = some (Reg.FAB.SEQ_REJ_CNT, some 1)) ∧
    (f → d → k → m.tagOk = true → w → q → atkReject io act m = none))

/-- APP_MESSAGE, STREAM_FORGET, KEY_GEN_EXPIRY, ATK_TX, ETH_TX, ETH_FRAME_RECEIVE, FAB_NODE_SEL, HOST_OUT_WRITE (R28, R323, R326, R329,
R330, R332, R363, R364, R366, R705, R706). What Q11 may not send is discarded, logged and counted; a message without a path is dropped
and counted; one that is sent carries the stream's next number. The model's choices in it are those of assumption log entries 10, 90, 101, 106 and
107. -/
def Obligations.MessagesFramesAndRing : Prop :=
  (∀ (m : AtkMsg) (s : State), Passes m s → s.live = true → appType m.ty m.sub = true →
    Ends (.appMessage m) s fun t =>
      let body := [0xD1 * 2 ^ 48 + m.ty * 2 ^ 40 + m.sub * 2 ^ 32 + m.src * 2 ^ 16 + m.len, m.seq] ++ dataWords m.payload
      t = { received m s with io := t.io } ∧ t.io.out = s.io.out ∧
      Tbl.get t.io.streams Stream.init (streamKey m.ty m.src) = ⟨true, m.seq, m.time, s.now⟩ ∧
      Wrote q10 (fun g => qLenWord 4 body.length ::
        body.mapIdx fun i p => qWord false (i + 1 == body.length) 4 (p + if i = 1 then b2n g * 2 ^ 32 else 0)) (received m s) t) ∧
  (∀ (ty src : Nat) (s : State), s.live = true →
    let k := streamKey ty src
    let st := Tbl.get s.io.streams Stream.init k
    (st.seen = true → st.acceptedAt + 2000000000 ≤ s.now → Ends (.streamForget ty src none) s fun t =>
      t = { s with io := { s.io with streams := t.io.streams } } ∧ Tbl.get t.io.streams Stream.init k = Stream.init ∧
      (∀ j, j ≠ k → Tbl.get t.io.streams Stream.init j = Tbl.get s.io.streams Stream.init j)) ∧
    (s.now < st.acceptedAt + 2000000000 → exec (.streamForget ty src none) s = .next s) ∧
    (∀ node hnow, let y := Tbl.get s.net.nodeStreams Stream.init (nodeStream node ty src)
      y.seen = true → y.acceptedAt + 2000000000 ≤ hnow → Ends (.streamForget ty src (some (node, hnow))) s fun t =>
        t = { s with net := { s.net with nodeStreams := t.net.nodeStreams } } ∧
        Tbl.get t.net.nodeStreams Stream.init (nodeStream node ty src) = Stream.init)) ∧
  (∀ (slot g : Nat) (s : State), s.live = true →
    let k := Tbl.get s.io.keys KeyGen.init slot
    k.prev = some g →
    (k.replacedAt + 1000000000 ≤ s.now → Ends (.keyGenExpiry slot) s fun t =>
      t = { s with io := { s.io with keys := t.io.keys } } ∧ Tbl.get t.io.keys KeyGen.init slot = { k with prev := none } ∧
      (∀ j, j ≠ slot → Tbl.get t.io.keys KeyGen.init j = Tbl.get s.io.keys KeyGen.init j)) ∧
    (s.now < k.replacedAt + 1000000000 → exec (.keyGenExpiry slot) s = .next s)) ∧
  (∀ (ty sub dst : Nat) (p : List Byte) (s : State), s.live = true →
    let ok := ((0x80 ≤ ty ∧ ty ≤ 0xFF) ∨ (ty = 8 ∧ 0x80 ≤ sub ∧ sub ≤ 0xFF)) ∧ p.length ≤ 1404
    (¬ ok → Ends (.atkTx ty sub dst p) s fun t =>
      t = { s with io := t.io } ∧ t.io.out = s.io.out ∧ t.io.reg Reg.FAB.Q11_REJ_CNT = incSat (s.io.reg Reg.FAB.Q11_REJ_CNT) ∧
      RegsBut [Reg.FAB.Q11_REJ_CNT, 0x40300080] s t ∧ t.io.flag 0x40300080 9 = true ∧
      Tbl.get t.io.logs ErrLog.init 12 = ((Tbl.get s.io.logs ErrLog.init 12).record ⟨7, 0, 0, ty % 256, 0, sub, s.now⟩).1) ∧
    (ok → (s.io.flag Reg.FAB.CTRL 0 = false ∨ s.io.node dst = none ∨ ∃ e, s.io.node dst = some e ∧ s.io.linkUp e.path e.num = false) →
      Ends (.atkTx ty sub dst p) s fun t =>
        OnlyRegs s t ∧ RegsBut [Reg.FAB.TX_NOPATH_CNT, 0x40300080] s t ∧
        t.io.reg Reg.FAB.TX_NOPATH_CNT = incSat (s.io.reg Reg.FAB.TX_NOPATH_CNT)) ∧
    (∀ e, ok → s.io.flag Reg.FAB.CTRL 0 = true → s.io.node dst = some e → s.io.linkUp e.path e.num = true →
      (Tbl.get s.io.keys KeyGen.init (Io.txKey dst)).held = true → Ends (.atkTx ty sub dst p) s fun t =>
        ∃ o : OutMsg, t.io.out = s.io.out ++ [o] ∧ o.ty = ty ∧ o.sub = (if ty = 8 then sub else 0) ∧ o.src = s.io.ownId ∧ o.dst = dst ∧
          o.payload = p ∧ o.time = s.now ∧ o.seq = Tbl.get s.io.txSeq 0 ty ∧ o.path = e.path ∧ o.num = e.num ∧ o.bus = e.bus ∧
          o.keyGen = (Tbl.get s.io.keys KeyGen.init (Io.txKey dst)).gen ∧
          Tbl.get t.io.txSeq 0 ty = (Tbl.get s.io.txSeq 0 ty + 1) % 2 ^ 32 ∧
          (∀ j, j ≠ ty → Tbl.get t.io.txSeq 0 j = Tbl.get s.io.txSeq 0 j) ∧ t = { s with io := t.io })) ∧
  (∀ (p : Nat) (bs : List Byte) (s : State), s.live = true →
    let raw := bs.map fun b => b.toNat
    (portUp s.net s.io p = true → Ends (.ethTx p bs) s fun t =>
      t = { s with io := { s.io with evts := s.io.evts ++ [⟨"ETH", p, raw⟩] } }) ∧
    (portUp s.net s.io p = false → exec (.ethTx p bs) s = .next s ∧ ∀ k, exec (.ethFrameReceive p k bs) s = .next s) ∧
    (portUp s.net s.io p = true → p < 12 → Ends (.ethFrameReceive p .other bs) s fun t =>
      let body := [0xD0 * 2 ^ 48 + p % 16 * 2 ^ 44 + bs.length % 65536] ++ dataWords bs
      t = { s with io := t.io } ∧ Wrote q10 (fun g => qLenWord 4 body.length ::
        body.mapIdx fun i w => qWord false (i + 1 == body.length) 4 (w + if i = 0 then b2n g * 2 ^ 43 else 0)) s t) ∧
    (portUp s.net s.io p = true → p < 12 →
      (Ends (.ethFrameReceive p .fragment bs) s fun t => OnlyRegs s t ∧ RegsBut [Reg.FAB.FORMAT_CNT] s t ∧
        t.io.reg Reg.FAB.FORMAT_CNT = incSat (s.io.reg Reg.FAB.FORMAT_CNT)) ∧
      exec (.ethFrameReceive p .pause bs) s = .next s)) ∧
  (∀ (n : Nat) (v : Word) (s : State), s.live = true →
    let e := Tbl.get s.io.nodes NodeEnt.init (bits v 12 0)
    Ends (.fabNodeSel (.core n) v) s fun t =>
      OnlyRegs s t ∧ t.io.fld Reg.FAB.NODE_SEL 12 0 = bits v 12 0 ∧ t.io.reg (Reg.FAB.NODE_WIN 0) = w32 e.id ∧
      t.io.reg (Reg.FAB.NODE_WIN 2) = w32 e.ip ∧ (e.ipv6 = false → t.io.reg (Reg.FAB.NODE_WIN 5) = w32 e.port) ∧
      RegsBut (Reg.FAB.NODE_SEL :: (List.range 6).map Reg.FAB.NODE_WIN) s t) ∧
  (∀ (n : Nat) (hi lo : Word) (s : State), s.live = true →
    let size := s.io.fld Reg.HOST.RING_SIZE 16 0
    (ringFull s.io = true → Ends (.hostOutWrite (.core n) hi) s fun t =>
      OnlyIo s t ∧ t.io.flag Reg.HOST.OUT_STAT 0 = true ∧ t.io.reg Reg.HOST.RING_WR = s.io.reg Reg.HOST.RING_WR ∧
      Logged .host 0 4 (.core n) Reg.HOST.OUT_HI s t) ∧
    (ringFull s.io = false → Tbl.get s.io.stage none Reg.HOST.OUT_LO = some lo → Ends (.hostOutWrite (.core n) hi) s fun t =>
      let w := lo.toNat + hi.toNat * 2 ^ 32
      t = { s with net := t.net, io := t.io } ∧ t.net.ring = s.net.ring ++ [BitVec.ofNat 64 w] ∧
      t.io.fld Reg.HOST.RING_WR 15 0 = (s.io.fld Reg.HOST.RING_WR 15 0 + 1) % size % 2 ^ 16 ∧
      (s.net.ringLeft = 0 → t.net.ringLeft = w % 2 ^ 11) ∧ (0 < s.net.ringLeft → t.net.ringLeft = s.net.ringLeft - 1) ∧
      (s.net.ringLeft = 1 → t.net.msix = s.net.msix + 1) ∧ (1 < s.net.ringLeft → t.net.msix = s.net.msix)))

/-- PTP_MESSAGE, GRANDMASTER_LOSS, TIME_SYNC_SEND, TIME_SYNC, TIME_HOLD_LOSS, PLCA_BEACON_CONFLICT, PLCA_CHG, FABRIC_LINK_CHANGE,
FABRIC_LOST, PCIE_LINK_CHANGE, MGMT_LINK_CHANGE (R26, R334, R336, R337, R339 to R343, R361, R365, R547). A running follower steers its
time by rate alone. The model's choices in it are those of assumption log entries 19, 93, 94, 95, 96, 102, 107 and 200. -/
def Obligations.SiteTimeAndLinks : Prop :=
  (∀ (ofs : Int) (port : Nat) (s : State), s.live = true → s.io.flag Reg.FAB.CTRL 3 = true → s.io.fld Reg.FAB.CTRL 2 1 = 0 →
    port < 16 →
    (s.running = true → s.mtr.hmi = [] → Ends (.ptpMessage ofs port none) s fun t =>
      t.io.clk = { s.io.clk with rate := t.io.clk.rate } ∧ t.io.clk.rate.natAbs ≤ 200000 ∧
      (0 < ofs → t.io.clk.rate ≤ 0) ∧ (ofs < 0 → 0 ≤ t.io.clk.rate) ∧ t.io.reg Reg.FAB.PTP_RATE = wS t.io.clk.rate ∧
      (t.io.flag Reg.FAB.PTP_STAT 31 = true ↔ ofs.natAbs ≤ 1000) ∧ t.io.fld Reg.FAB.PTP_STAT 23 0 = min ofs.natAbs (2 ^ 24 - 1) ∧
      t.io.fld Reg.FAB.PTP_STAT 27 24 = port ∧ t.io.fld Reg.FAB.PTP_STAT 30 28 = 2 ∧
      (200000 < ofs.natAbs → t.io.flag 0x40300080 7 = true)) ∧
    (s.running = false → s.mtr.hmi = [] → 0 ≤ (s.now : Int) - ofs → (s.now : Int) - ofs < 2 ^ 64 →
      Ends (.ptpMessage ofs port none) s fun t => (t.now : Int) = s.now - ofs ∧ t.io.flag Reg.FAB.PTP_STAT 31 = true) ∧
    (Ends (.grandmasterLoss false) s fun t => OnlyRegs s t ∧ t.io.flag Reg.FAB.PTP_STAT 31 = false ∧
      RegsBut [Reg.FAB.PTP_STAT, 0x40300080] s t ∧ (s.io.flag Reg.FAB.PTP_STAT 31 = true → t.io.flag 0x40300080 6 = true)) ∧
    (Ends (.grandmasterLoss true) s fun t => OnlyRegs s t ∧ t.io.fld Reg.FAB.PTP_STAT 30 28 = 3 ∧ RegsBut [Reg.FAB.PTP_STAT] s t)) ∧
  (∀ (med lag : Nat) (org sq : Nat) (s : State), s.live = true → med < 8 →
    let ts := Tbl.get s.net.ts TsMedium.init med
    let per := s.io.fld (Reg.CAN.TS_MS med) 9 0
    (0 < per → ts.nextAt ≤ s.now → ts.origin = some (org, sq) → s.io.flag Reg.FAB.CTRL 0 = true → s.io.linkUp 3 med = true →
      Ends (.timeSyncSend med lag) s fun t =>
        t = { s with net := { s.net with ts := t.net.ts }, io := t.io } ∧
        Tbl.get t.net.ts TsMedium.init med = ⟨some (s.now + lag, Tbl.get s.io.txSeq 0 0xB), s.now + per * 1000000⟩ ∧
        (∀ j, j ≠ med → Tbl.get t.net.ts TsMedium.init j = Tbl.get s.net.ts TsMedium.init j) ∧
        ((Tbl.get s.io.keys KeyGen.init (Io.txKey 0xFFFF)).held = true → ∃ o : OutMsg, t.io.out = s.io.out ++ [o] ∧ o.ty = 0xB ∧
          o.dst = 0xFFFF ∧ o.payload = le 8 org ++ le 4 sq ++ le 2 per ++ le 2 (b2n (s.io.flag Reg.FAB.PTP_STAT 31)))) ∧
    (per = 0 → exec (.timeSyncSend med lag) s = .next s) ∧ (s.now < ts.nextAt → exec (.timeSyncSend med lag) s = .next s)) ∧
  (∀ (node hnow e : Nat) (m : AtkMsg) (s : State),
    let y := Tbl.get s.net.nodeTime NodeTime.init node
    (m.ty = 0xB → y.ofs.isSome = true → nodeTakes s.net node hnow m = true → Ends (.timeSync node hnow (some e) m) s fun t =>
      let z := Tbl.get t.net.nodeTime NodeTime.init node
      let now' := u64 m.payload 0 + e
      t = { s with net := { (nodeTook node hnow m s.net) with nodeTime := t.net.nodeTime } } ∧ z.now s.now = now' ∧
      z.periodMs = u16 m.payload 12 ∧
      (u16 m.payload 14 % 2 = 1 → z.held = true ∧ z.lockedAt = some now') ∧
      (u16 m.payload 14 % 2 = 0 → z.held = y.held ∧ z.lockedAt = y.lockedAt)) ∧
    (∀ a, y.held = true → y.lockedAt = some a →
      (a + 3 * y.periodMs * 1000000 ≤ y.now s.now → Ends (.timeHoldLoss node) s fun t =>
        t = { s with net := { s.net with nodeTime := t.net.nodeTime } } ∧
        Tbl.get t.net.nodeTime NodeTime.init node = { y with held := false }) ∧
      (y.now s.now < a + 3 * y.periodMs * 1000000 → exec (.timeHoldLoss node) s = .next s))) ∧
  (∀ (g : Nat) (ok ed : Bool) (s : State), s.live = true → g < 8 →
    (s.io.flag (Reg.T1S.SEG_CFG g) 31 = true → s.io.fld (Reg.T1S.SEG_CFG g) 20 16 = 0 → Ends (.plcaBeaconConflict g) s fun t =>
      t = { s with net := { s.net with t1sQuiet := t.net.t1sQuiet }, io := t.io } ∧ g ∈ t.net.t1sQuiet ∧
      t.io.flag 0x40320080 (8 + g) = true ∧ RegsBut [0x40320080] s t) ∧
    (s.io.fld (Reg.T1S.SEG_CFG g) 20 16 ≠ 0 → exec (.plcaBeaconConflict g) s = .next s) ∧
    (Ends (.plcaChg g ok ed) s fun t => OnlyRegs s t ∧ t.io.flag (Reg.T1S.SEG_STAT g) 0 = ok ∧ t.io.flag (Reg.T1S.SEG_STAT g) 1 = ed ∧
      (s.io.flag (Reg.T1S.SEG_STAT g) 0 ≠ ok → t.io.flag 0x40320080 g = true) ∧ RegsBut [Reg.T1S.SEG_STAT g, 0x40320080] s t)) ∧
  (∀ (p w sp d : Nat) (up lock : Bool) (s : State), s.live = true →
    (p < 4 → Ends (.fabricLinkChange p up lock) s fun t =>
      t = { s with net := { s.net with fabDownAt := t.net.fabDownAt }, io := t.io } ∧ t.io.flag (Reg.FAB.PORT_STAT p) 0 = up ∧
      t.io.flag (Reg.FAB.PORT_STAT p) 1 = lock ∧ RegsBut [Reg.FAB.PORT_STAT p, 0x40300080] s t ∧
      (s.io.flag (Reg.FAB.PORT_STAT p) 0 ≠ up → t.io.flag 0x40300080 5 = true) ∧
      (s.io.flag (Reg.FAB.CTRL) (4 + p) = true → up = true → t.net.fabDownAt = none) ∧
      (s.io.fld Reg.FAB.CTRL 7 4 = 2 ^ p → up = false → t.net.fabDownAt = some (s.net.fabDownAt.getD s.now))) ∧
    (∀ t0, s.io.active = true → s.net.fabDownAt = some t0 → t0 + 2000000 ≤ s.now →
      Ends .fabricLost s fun t => t = { s with mir := t.mir, io := t.io, pow := t.pow }) ∧
    (∀ t0, s.net.fabDownAt = some t0 → s.now < t0 + 2000000 → exec .fabricLost s = .next s) ∧
    (w < 8 → sp < 16 → Ends (.pcieLinkChange true w sp d) s fun t =>
      t = { s with net := { s.net with dState := d }, io := t.io } ∧ t.io.flag Reg.HOST.PCIE_STAT 0 = true ∧
      t.io.fld Reg.HOST.PCIE_STAT 3 1 = w ∧ t.io.fld Reg.HOST.PCIE_STAT 7 4 = sp ∧
      (s.net.dState ≠ d → t.io.flag 0x40340080 1 = true) ∧
      (s.io.flag Reg.HOST.PCIE_STAT 0 = false → t.io.flag 0x40340080 0 = true) ∧ RegsBut [Reg.HOST.PCIE_STAT, 0x40340080] s t) ∧
    (Ends (.mgmtLinkChange up) s fun t => t = { s with net := { s.net with mgmtUp := up }, io := t.io } ∧
      (s.net.mgmtUp ≠ up → t.io.flag 0x40340080 2 = true) ∧ RegsBut [0x40340080] s t))

/-- The CAN commands: filters and receive entries (R349 to R353), segments (R347), arbitration, retries, cancel and results (R354 to
R357), restricted operation, error counters, bus-off and recovery (R358 to R360). The model's choices in it are those of assumption log entries
97, 98, 99, 100 and 104. -/
def Obligations.CanControllers : Prop :=
  ∀ (c : Nat) (s : State), s.live = true → c < 8 →
    let x := canOf s.net c
    let b := canBase c
    let tec := s.io.fld (Reg.CAN.STAT c) 24 16
    let rec_ := s.io.fld (Reg.CAN.STAT c) 15 8
    let rom := s.io.flag (Reg.CAN.CTRL c) 4
    let state := s.io.fld (Reg.CAN.STAT c) 31 29
    let becomes := fun (y : CanSt) (t : State) => t = { s with net := { s.net with can := t.net.can }, io := t.io } ∧
      canOf t.net c = y ∧ ∀ j, j ≠ c → canOf t.net j = canOf s.net j
    let record := fun (p : Nat) (t : State) => Wrote (q12 c) (fun g => [qLenWord 4 1, qWord false true 4 (p + b2n g * 2 ^ 35)]) s t
    let counted := fun (r : Nat) (t : State) => t.io.reg r = incSat (s.io.reg r)
    -- receive
    (∀ (f : CanFrame) (tagOk : Bool), canTakes s.io c f = true → rec_ = 0 → state = canStateOf rom tec 0 → tec ≤ 256 →
      (∀ e, fltAction s.io c f = some 0 → rxFree x = some e → Ends (.canFrameReceive c f tagOk) s fun t =>
        becomes { x with rx := Tbl.set x.rx none e (some f) } t ∧ counted (Reg.CAN.RX_CNT c) t ∧ t.io.flag (b + 0x80) 0 = true ∧
        record (0xE0 * 2 ^ 48 + c * 2 ^ 45 + e * 2 ^ 39 + f.fmt * 2 ^ 37 + b2n f.xtd * 2 ^ 36 + f.id % 2 ^ 29) t) ∧
      (fltAction s.io c f = some 0 → rxFree x = none → Ends (.canFrameReceive c f tagOk) s fun t =>
        becomes { x with ovrRun := x.ovrRun + 1 } t ∧ counted (Reg.CAN.RX_OVR_CNT c) t ∧ t.io.queues = s.io.queues) ∧
      (fltAction s.io c f = some 1 → f.fmt ≠ 2 → Ends (.canFrameReceive c f tagOk) s fun t =>
        becomes { x with hp := some f } t ∧ t.io.flag (Reg.CAN.HP_CTL c) 31 = true ∧
        (s.io.flag (Reg.CAN.HP_CTL c) 31 = true → counted (Reg.CAN.HP_LOST_CNT c) t)) ∧
      (fltAction s.io c f = none → Ends (.canFrameReceive c f tagOk) s fun t =>
        becomes x t ∧ counted (Reg.CAN.FLT_MISS_CNT c) t ∧ t.io.queues = s.io.queues) ∧
      (fltAction s.io c f = some 3 → Ends (.canFrameReceive c f tagOk) s fun t =>
        becomes x t ∧ counted (Reg.CAN.RX_CNT c) t ∧ RegsBut [Reg.CAN.RX_CNT c, Reg.CAN.STAT c] s t) ∧
      (fltAction s.io c f = some 2 → f.fmt = 1 → Tbl.get x.seg none f.id = none → u8 f.data 0 = 0x80 →
        Ends (.canFrameReceive c f tagOk) s (becomes { x with
          seg := Tbl.set x.seg none f.id (some ⟨1, u8 f.data 1, f.data.drop 2, s.now⟩) })) ∧
      (∀ q, fltAction s.io c f = some 2 → f.fmt = 1 → Tbl.get x.seg none f.id = some q → u8 f.data 0 < 64 →
        q.next ≠ u8 f.data 0 ∨ q.ctr ≠ u8 f.data 1 → Ends (.canFrameReceive c f tagOk) s fun t =>
          becomes { x with seg := Tbl.set x.seg none f.id none } t ∧ counted (Reg.CAN.ATK_SEG_DROP_CNT c) t)) ∧
    (∀ f, fltAction s.io c f = none ↔ ∀ k, k < 64 → fltMatch s.io c k f = false) ∧
    (∀ id q, Tbl.get x.seg none id = some q →
      (q.since + s.io.fld (Reg.CAN.ATK_CFG c) 7 0 * 1000000 ≤ s.now → Ends (.canSegmentTimeout c id) s fun t =>
        becomes { x with seg := Tbl.set x.seg none id none } t ∧ counted (Reg.CAN.ATK_SEG_DROP_CNT c) t) ∧
      (s.now < q.since + s.io.fld (Reg.CAN.ATK_CFG c) 7 0 * 1000000 → exec (.canSegmentTimeout c id) s = .next s)) ∧
    (∀ (n : Nat) (v : Word),
      (∀ f, Tbl.get x.rx none (bits v 5 0) = some f → x.ovrRun = 0 → Ends (.canRxAck (.core n) c v) s fun t =>
        becomes { x with rx := Tbl.set x.rx none (bits v 5 0) none } t ∧ t.io = s.io) ∧
      (Tbl.get x.rx none (bits v 5 0) = none → Ends (.canRxAck (.core n) c v) s fun t =>
        OnlyIo s t ∧ t.io.regs = s.io.regs ∧ Logged .can c 4 (.core n) (Reg.CAN.RX_ACK c) s t)) ∧
    -- transmit
    (∀ k, canNext c s.net s.io = some k →
      (canTx x k).ready = true ∧ ∀ j, j < 32 → (canTx x j).ready = true →
        let key := fun e => arbKey (s.io.reg (Reg.CAN.TX_ID c e))
        key k < key j ∨ (key k = key j ∧ k ≤ j)) ∧
    (∀ n e, e < 32 → Ends (.canTxReady (.core n) c e) s fun t =>
      becomes { x with tx := Tbl.set x.tx CanTx.init e { canTx x e with ready := true } } t ∧ t.io.queues = s.io.queues ∧
      t.io.fld (Reg.CAN.TXQ_CTL c) 12 8 = e ∧ RegsBut [Reg.CAN.TXQ_CTL c] s t) ∧
    (∀ n e, e < 32 → (canTx x e).ready = true →
      let at_ := (canTx x e).attempts
      let freed : CanSt := { x with tx := Tbl.set x.tx CanTx.init e CanTx.init }
      let result := fun (r a : Nat) => record (0xE1 * 2 ^ 48 + c * 2 ^ 45 + e * 2 ^ 40 + r * 2 ^ 38 + min a 255)
      (Ends (.canTxCancel (.core n) c e none .waiting) s fun t => becomes freed t ∧ result 1 at_ t) ∧
      (∀ ph, ph = .arbitrating ∨ ph = .won → Ends (.canTxCancel (.core n) c e (some e) ph) s fun t =>
        becomes { x with tx := Tbl.set x.tx CanTx.init e { canTx x e with cancel := true } } t ∧ t.io.queues = s.io.queues) ∧
      (tec = 0 → state = canStateOf rom 0 rec_ → Ends (.canTxCancel (.core n) c e (some e) .completed) s fun t =>
        canOf t.net c = freed ∧ result 0 (at_ + 1) t) ∧
      (canSends s.io c = true → tec = 0 → state = canStateOf rom 0 rec_ → Ends (.canTxComplete c (some e) .sent) s fun t =>
        becomes freed t ∧ counted (Reg.CAN.TX_CNT c) t ∧ t.io.flag (b + 0x80) 2 = true ∧ result 0 (at_ + 1) t) ∧
      (canSends s.io c = true → (canTx x e).cancel = true → Ends (.canTxComplete c (some e) .lost) s fun t =>
        becomes freed t ∧ result 1 at_ t) ∧
      (canSends s.io c = true → (canTx x e).cancel = false → exec (.canTxComplete c (some e) .lost) s = .next s) ∧
      (s.io.flag (Reg.CAN.CTRL c) 0 = true → rom = false → state ≠ 3 → tec + 8 < 256 → state = canStateOf rom (tec + 8) rec_ →
        let retry := s.io.fld (Reg.CAN.TX_CTL c e) 31 28
        ((canTx x e).cancel = false → retry < 15 → retry ≤ at_ → Ends (.canBusError c (some e) false) s fun t =>
          becomes freed t ∧ t.io.fld (Reg.CAN.STAT c) 24 16 = tec + 8 ∧ result 2 (at_ + 1) t) ∧
        ((canTx x e).cancel = false → retry = 15 ∨ at_ < retry → Ends (.canBusError c (some e) false) s fun t =>
          becomes { x with tx := Tbl.set x.tx CanTx.init e { canTx x e with attempts := at_ + 1 } } t ∧
          t.io.fld (Reg.CAN.STAT c) 24 16 = tec + 8 ∧ t.io.queues = s.io.queues) ∧
        ((canTx x e).cancel = true → Ends (.canBusError c (some e) false) s fun t => becomes freed t ∧ result 1 (at_ + 1) t))) ∧
    (∀ n, Ends (.canTxFlush (.core n) c none .waiting) s fun t => ∀ e, e < 32 → (canTx (canOf t.net c) e).ready = false) ∧
    -- error states
    (rom = true → s.io.flag (Reg.CAN.CTRL c) 0 = true → state ≠ 3 → ∀ e r, Ends (.canBusError c e r) s fun t =>
      OnlyRegs s t ∧ counted (Reg.CAN.ERR_FRAME_CNT c) t ∧ RegsBut [Reg.CAN.ERR_FRAME_CNT c] s t) ∧
    (rom = false → s.io.flag (Reg.CAN.CTRL c) 0 = true → state ≠ 3 → 248 ≤ tec → tec ≤ 255 → canNext c s.net s.io = none →
      Ends (.canBusError c none false) s fun t => t.net = s.net ∧ t.io.fld (Reg.CAN.STAT c) 31 29 = 3 ∧
        t.io.fld (Reg.CAN.STAT c) 7 0 = 0 ∧ t.io.flag (b + 0x80) 4 = true ∧
        Wrote (q12 c) (fun g => [qLenWord 0xC 1, qWord false true 0xC
          (0xE2 * 2 ^ 48 + c * 2 ^ 45 + 3 * 2 ^ 42 + 256 * 2 ^ 16 + rec_ + b2n g * 2 ^ 35)]) s t) ∧
    (state = 3 → rom = false → ∀ k,
      (k < 128 → Ends (.canBusOffRecovery c k) s fun t => OnlyRegs s t ∧ t.io.fld (Reg.CAN.STAT c) 7 0 = k ∧
        t.io.fld (Reg.CAN.STAT c) 31 29 = 3 ∧ RegsBut [Reg.CAN.STAT c] s t) ∧
      (128 ≤ k → Ends (.canBusOffRecovery c k) s fun t => t = { s with io := t.io } ∧ t.io.fld (Reg.CAN.STAT c) 31 29 = 0 ∧
        t.io.fld (Reg.CAN.STAT c) 24 16 = 0 ∧ record (0xE2 * 2 ^ 48 + c * 2 ^ 45) t)) ∧
    (state ≠ 3 → ∀ k, exec (.canBusOffRecovery c k) s = .next s)

/-! The power-line mesh (chapter 09). -/

/-- MESH_DATA_FRAME, MESH_SACK, MESH_SACK_TIMEOUT, MESH_LD_OVC, TM_UPDATE, TM_ACK, OLD_TMI_EXPIRY, TM_UPDATE_DUE, NBR_LOST, FORCE_ROBUST,
TM_REFRESH, MESH_SYNC_LOST: discards, SACKs, repeats and drops, tone maps and neighbour states (R375, R377, R380 to R386, R392). A derived
tone map gives each carrier the most bits its SNR allows, at the rate of largest capacity, the lower at a tie; a map no better than ROBUST
is not made (R382). The model's choices in it are those of assumption log entries 110, 112 and 114. -/
def Obligations.MeshLinks : Prop :=
  ((∀ (snr : Int) (need b : Nat), 1 ≤ b → b ≤ 10 → (b ≤ carBits snr need ↔ (((thrQ[b - 1]?).getD 0 + need : Nat) : Int) ≤ snr)) ∧
  (∀ (io : Io) (tmi spread : Nat) (snr : List Int),
    let cap := fun r => (mapAtRate snr (io.fld Reg.SPN.MAC_CFG 19 16) r).2
    (deriveMap io tmi snr spread = none ↔ ∀ r, r < 3 → cap r < nOn io / 4) ∧
    (∀ t, deriveMap io tmi snr spread = some t →
      t.tmi = tmi ∧ t.bits = cap t.rate ∧ t.rate < 3 ∧ (t.long = true ↔ 4000 < spread) ∧
      (∀ r, r < 3 → cap r < cap t.rate ∨ (cap r = cap t.rate ∧ t.rate ≤ r)) ∧ t.car.length = snr.length ∧ ∀ b ∈ t.car, b ≤ 10))) ∧
  ((∀ (a : Nat) (s : State), s.live = true → s.io.flag Reg.SPN.CTRL 0 = true → s.spn.taken = s.io.out.length →
    let n := nbrOf s.spn a
    let hd : Nbr := { n with heard := n.heard + 1, heardAt := s.now, eighth := if n.heard + 1 = 8 then some s.now else n.eighth }
    let near := n.st = 1 ∨ n.st = 2
    let only := fun t : State => t = { s with spn := t.spn, io := t.io } ∧ ∀ j, j ≠ a → nbrOf t.spn j = nbrOf s.spn j
    let rec1 := fun (ty prio low : Nat) (t : State) =>
      Wrote q13 (fun g => [qWord true true prio (ty * 2 ^ 48 + a % 1024 * 2 ^ 38 + low + b2n g * 2 ^ 35)]) s t
    let tmNew := fun (dir : Nat) (m : ToneMap) => rec1 0xEA 4 (dir * 2 ^ 37 + b2n m.long * 2 ^ 36 + m.tmi * 2 ^ 31 + m.rate * 2 ^ 29 + m.bits % 2 ^ 14)
    -- data frames
    (∀ fc pbs drop tagOk, fc.crcOk = false → Ends (.meshDataFrame fc pbs drop tagOk) s fun t =>
      OnlyRegs s t ∧ t.io.reg Reg.SPN.FC_ERR_CNT = incSat (s.io.reg Reg.SPN.FC_ERR_CNT) ∧ RegsBut [Reg.SPN.FC_ERR_CNT] s t) ∧
    (∀ fc pbs drop tagOk, fc.crcOk = true → fc.netId ≠ s.io.fld Reg.SPN.CFG 23 10 ∨ (fc.bcast = false ∧ fc.dst ≠ ownMesh s.io) →
      exec (.meshDataFrame fc pbs drop tagOk) s = .next s) ∧
    (∀ fc p drop tagOk, fc.crcOk = true → fc.netId = s.io.fld Reg.SPN.CFG 23 10 → fc.bcast = false → fc.dst = ownMesh s.io →
      fc.src = a → near → fc.mpdu < 256 → Tbl.get s.spn.rx none (a * 256 + fc.mpdu) = none → p.idx = 0 →
      (p.crcOk = true → p.last = true → p.final = ownMesh s.io → p.bcast = false → p.kind = 0 →
        Ends (.meshDataFrame fc [p] drop tagOk) s fun t => ∃ u : State, t = State.arrived tagOk p.data ⟨4, 0, p.origin, false, 0, 0⟩ u ∧
          only u ∧ u.io.evts = s.io.evts ++ [⟨"MESH_SACK", a, [fc.mpdu, 1, 0]⟩] ∧
          u.io.reg Reg.SPN.RX_FRAME_CNT = incSat (s.io.reg Reg.SPN.RX_FRAME_CNT)) ∧
      (p.crcOk = false → Ends (.meshDataFrame fc [p] drop tagOk) s fun t =>
        only t ∧ t.io.evts = s.io.evts ++ [⟨"MESH_SACK", a, [fc.mpdu, 0, b2n (decide (s.io.fld Reg.SPN.MAC_CFG 23 20 < drop))]⟩] ∧
        (nbrOf t.spn a).bad = n.bad + 1 ∧ (nbrOf t.spn a).pbs = n.pbs + 1)) ∧
    -- SACKs, repeats, drops
    (∀ mpdu got, n.st = 0 ∨ n.st = 3 → findTx s.spn a mpdu = none → Ends (.meshSack a mpdu got false) s fun t =>
      only t ∧ nbrOf t.spn a = { hd with st := 1, noSack := 0 } ∧ rec1 0xE8 4 (linkM s.io { hd with st := 1 }) t) ∧
    (∀ mpdu got, n.st = 2 → findTx s.spn a mpdu = none → Ends (.meshSack a mpdu got true) s fun t =>
      only t ∧ nbrOf t.spn a = { hd with st := 1, noSack := 0 } ∧ rec1 0xEB 8 0 t ∧
      t.io.reg Reg.SPN.ROBUST_CNT = incSat (s.io.reg Reg.SPN.ROBUST_CNT)) ∧
    (∀ mpdu got x, near → findTx s.spn a mpdu = some x →
      let left := x.left.filter fun i => bitsN got i i == 0
      (left = [] → Ends (.meshSack a mpdu got false) s fun t => only t ∧
        t.spn.tx = (s.spn.tx.filter fun y => !(y.nbr == a && y.mpdu == mpdu)) ∧ t.io = s.io) ∧
      (left ≠ [] → x.attempts + 1 < s.io.fld Reg.SPN.MAC_CFG 31 28 → Ends (.meshSack a mpdu got false) s fun t => only t ∧
        findTx t.spn a mpdu = some { x with left := left, attempts := x.attempts + 1, retx := true } ∧
        t.io.evts = s.io.evts ++ [⟨"MESH_RETX", a, mpdu :: left⟩]) ∧
      (left ≠ [] → s.io.fld Reg.SPN.MAC_CFG 31 28 ≤ x.attempts + 1 → Ends (.meshSack a mpdu got false) s fun t => only t ∧
        findTx t.spn a mpdu = none ∧ t.io.reg Reg.SPN.DROP_CNT = incSat (s.io.reg Reg.SPN.DROP_CNT) ∧
        Wrote q13 (fun g => [qWord true true (if x.msg.ca = 3 then 0xC else 8)
          (0xED * 2 ^ 48 + x.msg.final % 1024 * 2 ^ 38 + (x.msg.ca * 2 ^ 36 + x.msg.ty % 256) + b2n g * 2 ^ 35)]) s t) ∧
      (n.st = 2 → n.noSack + 1 < s.io.fld Reg.SPN.MAC_CFG 27 24 → x.attempts + 1 < s.io.fld Reg.SPN.MAC_CFG 31 28 →
        Ends (.meshSackTimeout a mpdu) s fun t => only t ∧ nbrOf t.spn a = { n with noSack := n.noSack + 1 } ∧
          t.io.evts = s.io.evts ++ [⟨"MESH_RETX", a, mpdu :: List.range (max 1 ((x.msg.bytes.length + 523) / 524))⟩]) ∧
      (n.st = 2 → s.io.fld Reg.SPN.MAC_CFG 27 24 ≤ n.noSack + 1 → x.attempts + 1 < s.io.fld Reg.SPN.MAC_CFG 31 28 →
        Ends (.meshSackTimeout a mpdu) s fun t => only t ∧ nbrOf t.spn a = { n with noSack := n.noSack + 1, st := 1 } ∧
          rec1 0xEB 8 (2 ^ 36) t)) ∧
    -- tone maps
    (∀ m, near → Ends (.tmUpdate a m true) s fun t => only t ∧ t.io.evts = s.io.evts ++ [⟨"TM_ACK", a, [m.tmi]⟩] ∧
      (s.io.flag Reg.SPN.CTRL 4 = false → nbrOf t.spn a = { hd with tx := some m, st := 2, noSack := 0 } ∧ tmNew 0 m t) ∧
      (s.io.flag Reg.SPN.CTRL 4 = true → nbrOf t.spn a = { hd with tx := some m } ∧ t.io.queues = s.io.queues)) ∧
    (∀ m, near → n.rxNew = some m → Ends (.tmAck a m.tmi true) s fun t => only t ∧ tmNew 1 m t ∧
      nbrOf t.spn a = { hd with rx := some m, rxNew := none, rxOld := n.rx.map fun o => (o.tmi, s.now + 1000000000) }) ∧
    (∀ m x, exec (.tmUpdate a m false) s = .next s ∧ exec (.tmAck a x false) s = .next s) ∧
    (∀ o t0, n.rxOld = some (o, t0) →
      (t0 ≤ s.now → Ends (.oldTmiExpiry a) s fun t => only t ∧ t.io = s.io ∧ nbrOf t.spn a = { n with rxOld := none }) ∧
      (s.now < t0 → exec (.oldTmiExpiry a) s = .next s)) ∧
    (∀ snr spread m, near → deriveMap s.io (nextTmi n) snr spread = some m →
      (n.badAt.isSome = true ∨ (n.eighth.isSome = true ∧ n.updAt = none) → Ends (.tmUpdateDue a snr spread) s fun t => only t ∧
        nbrOf t.spn a = { n with rxNew := some m, updAt := some s.now, badAt := none, pbs := 0, bad := 0 } ∧
        t.io.evts = s.io.evts ++ [⟨"TM_UPDATE", a, [m.tmi, m.rate, b2n m.long, m.bits]⟩]) ∧
      (∀ u, n.badAt = none → n.updAt = some u → s.now < u + 30000000000 → exec (.tmUpdateDue a snr spread) s = .next s)) ∧
    (near → n.heardAt + 6000000000 ≤ s.now → Ends (.nbrLost a) s fun t => only t ∧ nbrOf t.spn a = { n with st := 3 } ∧ rec1 0xE9 0xC 0 t) ∧
    (s.now < n.heardAt + 6000000000 → exec (.nbrLost a) s = .next s) ∧
    (∀ k, s.spn.nbr = [(a, n)] → n.st = 2 → s.io.flag Reg.SPN.CTRL 4 = false → Ends (.forceRobust (.core k)) s fun t =>
      only t ∧ nbrOf t.spn a = { n with st := 1 } ∧ t.io.flag Reg.SPN.CTRL 4 = true ∧ rec1 0xEB 8 (2 * 2 ^ 36) t) ∧
    (∀ k snr spread m, near → deriveMap s.io (nextTmi n) snr spread = some m → (n.rx.map fun r => r.car) ≠ some m.car →
      Ends (.tmRefresh (.core k) [(a, snr, spread)]) s fun t => only t ∧
        nbrOf t.spn a = { n with rxNew := some m, updAt := some s.now, badAt := none, pbs := 0, bad := 0 } ∧
        t.io.evts = s.io.evts ++ [⟨"TM_UPDATE", a, [m.tmi, m.rate, b2n m.long, m.bits]⟩])) ∧
  (∀ s : State, s.live = true →
    (Ends .meshLdOvc s fun t => OnlyRegs s t ∧ t.io.reg Reg.SPN.LD_OVC_CNT = incSat (s.io.reg Reg.SPN.LD_OVC_CNT) ∧
      t.io.flag 0x40330080 6 = true ∧ RegsBut [Reg.SPN.LD_OVC_CNT, 0x40330080] s t) ∧
    (s.io.flag Reg.SPN.STAT 1 = false → s.io.flag Reg.SPN.STAT 2 = true → Ends .meshSyncLost s fun t =>
      OnlyRegs s t ∧ t.io.flag Reg.SPN.STAT 2 = false ∧ t.io.flag 0x40330080 7 = true ∧ RegsBut [Reg.SPN.STAT, 0x40330080] s t) ∧
    (s.io.flag Reg.SPN.STAT 1 = true → exec .meshSyncLost s = .next s)))

/-- NBR_REPORT, NBR_REPORT_SEND, MESH_ROUTE_PASS, ROUTE_SET, JOIN_REQ, BEACON_SEND, BEACON: a new path has at most 4 hops and the sum
of its links' metrics, and replaces one without a LOST link only where it is cheaper by HYST_PCT (R387, R388, R390, R392, R393). The model's
choices in it are those of assumption log entries 109, 110 and 112. -/
def Obligations.MeshRouting : Prop :=
  ∀ s : State, s.live = true → s.io.flag Reg.SPN.CTRL 0 = true →
    let only := fun t : State => t = { s with spn := t.spn, io := t.io }
    (∀ a b m, b < 1024 → Ends (.nbrReport a [(b, m)] true) s fun t =>
      t = { s with spn := { s.spn with metric := t.spn.metric } } ∧ Tbl.get t.spn.metric 0 (a * 1024 + b) = min m 0xFFFF ∧
      (∀ k, k ≠ a * 1024 + b → Tbl.get t.spn.metric 0 k = Tbl.get s.spn.metric 0 k)) ∧
    (∀ a l, exec (.nbrReport a l false) s = .next s) ∧
    (∀ meas, s.spn.repWin ≤ s.now / 2000000000 → s.io.flag Reg.SPN.CTRL 1 = false → Ends (.nbrReportSend meas) s fun t =>
      only t ∧ t.spn.repWin = s.now / 2000000000 + 1 ∧ t.io.regs = s.io.regs ∧
      ∃ l, t.io.evts = s.io.evts ++ [⟨"NBR_REPORT", s.spn.actAddr, l⟩]) ∧
    (∀ meas, s.now / 2000000000 < s.spn.repWin → exec (.nbrReportSend meas) s = .next s) ∧
    (isCoord s.spn s.io = true → s.spn.passWin ≤ s.now / 2000000000 → (∀ e ∈ s.spn.joined, e.1 < 1024) →
      Ends .meshRoutePass s fun t =>
        only t ∧ t.spn.passWin = s.now / 2000000000 + 1 ∧ t.io.flag Reg.SPN.STAT 3 = true ∧ t.spn.nbr = s.spn.nbr ∧
        t.spn.joined = s.spn.joined ∧ t.spn.tx = s.spn.tx ∧
        ∀ node dir, node < 1024 → dir < 2 →
          let key := (b2n s.io.unitB * 2 + dir) * 1024 + node
          let old := Tbl.get s.spn.paths [] key
          let new := Tbl.get t.spn.paths [] key
          let ends := if dir = 0 then (ownMesh s.io, node) else (node, ownMesh s.io)
          new ≠ old → new.length ≤ 4 ∧ new.getLast? = some ends.2 ∧ ∃ m, pathSum t.spn ends.1 new = some m ∧
            (∀ o, old ≠ [] → pathSum t.spn ends.1 old = some o → m * 100 < o * (100 - s.io.fld Reg.SPN.MAC_CFG 15 8))) ∧
    (isCoord s.spn s.io = false ∨ s.now / 2000000000 < s.spn.passWin → exec .meshRoutePass s = .next s) ∧
    (∀ node final hop relay, final < 1024 → Ends (.routeSet node [(final, hop)] relay true) s fun t =>
      t = { s with spn := { s.spn with hops := t.spn.hops, relays := t.spn.relays } } ∧ hopOf t.spn node final = some hop ∧
      (node ∈ t.spn.relays ↔ relay = true) ∧ (∀ r, r ≠ node → (r ∈ t.spn.relays ↔ r ∈ s.spn.relays))) ∧
    (∀ node l relay, exec (.routeSet node l relay false) s = .next s) ∧
    (∀ addr id e, isCoord s.spn s.io = true → addr < 1024 → s.io.node id = some e →
      let ok := decide (e.path = 4) && decide (e.ip % 1024 = addr)
      Ends (.joinReq addr id true) s fun t => only t ∧ t.io.flag 0x40330080 5 = true ∧
        t.io.evts = s.io.evts ++ [⟨"JOIN_ACK", addr, [b2n ok]⟩] ∧
        (ok = true → Tbl.get t.spn.joined 0 addr = id) ∧ (ok = false → t.spn = s.spn) ∧
        Wrote q13 (fun g => [qWord true true 4 (0xEE * 2 ^ 48 + addr * 2 ^ 38 + (b2n ok * 2 ^ 37 + id % 65536) + b2n g * 2 ^ 35)]) s t) ∧
    (∀ addr id, s.io.node id = none → Ends (.joinReq addr id true) s fun t => t.spn = s.spn) ∧
    (let p := max 1 (s.io.fld Reg.SPN.CFG 31 24) * 1000000
     (isCoord s.spn s.io = true → s.spn.bcnWin ≤ s.now / p → Ends .beaconSend s fun t =>
       t = { s with spn := { s.spn with bcnWin := s.now / p + 1, beacons := s.spn.beacons + 1, actAddr := ownMesh s.io }, io := t.io } ∧
       t.io.flag Reg.SPN.STAT 1 = true ∧ t.io.flag Reg.SPN.STAT 2 = true ∧ RegsBut [Reg.SPN.STAT] s t ∧
       t.io.evts = s.io.evts ++ [⟨"BEACON", s.io.fld Reg.SPN.CFG 23 10, [ownMesh s.io, s.spn.partner.getD 0, s.io.ownId, s.spn.beacons]⟩]) ∧
     (isCoord s.spn s.io = false ∨ s.now / p < s.spn.bcnWin → exec .beaconSend s = .next s)) ∧
    (∀ act other, Ends (.beacon (s.io.fld Reg.SPN.CFG 23 10) act other true) s fun t =>
      t = { s with spn := { s.spn with actAddr := act, partner := t.spn.partner, conflict := t.spn.conflict }, io := t.io } ∧
      t.io.flag Reg.SPN.STAT 2 = true ∧
      (s.io.flag Reg.SPN.STAT 1 = true → t.spn.conflict = true ∧ t.io.flag Reg.SPN.STAT 1 = false ∧ t.io.flag 0x40330080 8 = true) ∧
      (s.io.flag Reg.SPN.STAT 1 = false → t.spn.conflict = s.spn.conflict)) ∧
    (∀ net act other, net ≠ s.io.fld Reg.SPN.CFG 23 10 → exec (.beacon net act other true) s = .next s)

/-! Legal metering (chapter 10). -/

/-- METER_BLOCK, CHANNEL_ABSENT, LEDGER_DELTA. A block that fails R403 is counted, with one record per run; the first block gives the
baseline; a delta within R404 enters the totals, the tariff register of its interval or of the open one, and the credit (R430, R449); one
outside leaves every register; a new CTR_ID gives a new baseline (R405). A channel without blocks for ABSENT_MS is ABSENT (R406). The
STANDBY unit keeps the newest block and applies ledger deltas in their order (R455, R456). The model's choices in it are those of assumption log
entries 117 and 118. -/
def Obligations.BlocksEnterOnce : Prop :=
  (∀ (m : AtkMsg) (s : State), s.live = true → s.mtr.running = true → Passes m s → m.ty = 4 →
    let c := u8 m.payload 0
    let b := parseBlock m
    let x := chOf s.mtr c
    let rcv := (received m s).io
    let opened := s.mtr.iv.iv
    let committed := fun (y : MtrSt) => y = { s.mtr with
      ch := y.ch, arch := y.arch, unsigned := y.unsigned, roll := y.roll, ledger := s.mtr.ledger + 1,
      clk := { s.mtr.clk with saved := legalNow s.mtr s.io } } ∧ OnlyChan c s.mtr y
    let same := fun (z : MtrCh) (y : MtrSt) =>
      chOf y c = { z with txn := (chOf y c).txn } ∧ (x.txn = none → (chOf y c).txn = none ∧ y.arch.txns = s.mtr.arch.txns)
    let taken := fun (z : MtrCh) => { z with
      st := 1, ref := some b, acceptedAt := s.io.now, bad := false, flags := Nat.lor z.flags (32 * b2n b.headErr) }
    let regs := fun (io : Io) => ∀ a, a ≠ Reg.MTR.Q8_DROP → a ≠ 0x40400080 → io.reg a = rcv.reg a
    (s.io.active = true → blockOk s.mtr m = false ∨ x.ref.elim false (fun r => decide (b.meas ≤ r.meas)) = true →
      Metered (.meterBlock m) s fun y io =>
        y = { s.mtr with ch := y.ch } ∧ OnlyChan c s.mtr y ∧ same { x with bad := true, refused := x.refused + 1 } y ∧ regs io ∧
        (x.bad = false → Wrote8 8 (0x5D * 2 ^ 48 + c * 2 ^ 38 + 6 * 2 ^ 34 + m.seq % 2 ^ 32) rcv io) ∧
        (x.bad = true → io = rcv)) ∧
    (s.io.active = true → blockOk s.mtr m = true → x.ref = none →
      Metered (.meterBlock m) s fun y io => committed y ∧ y.roll = s.mtr.roll ∧ same (taken x) y ∧ io.flag 0x40400080 0 = true) ∧
    (∀ r, s.io.active = true → blockOk s.mtr m = true → x.ref = some r → r.meas < b.meas →
      let dI := b.imp - r.imp
      let dE := b.exp - r.exp
      let bound := fun (d : Nat) => ((d : Int) - 1) * 360000000000 ≤ (lpPMax s.mtr c * (b.meas - r.meas) * 101 : Nat)
      let back := b.imp < r.imp ∨ b.exp < r.exp
      (b.ctrId = r.ctrId → ¬ back → bound dI → bound dE →
        Metered (.meterBlock m) s fun y io => committed y ∧ y.roll = s.mtr.roll ∧ regs io ∧ io.flag 0x40400080 0 = true ∧
          let iv := ivOf s.mtr (legalAt s.mtr s.io b.meas)
          let credit := if x.prepay then x.e.credit - dI else x.e.credit
          let t := s.mtr.iv.tariff
          let carry := iv < opened ∨ ivOf s.mtr (legalAt s.mtr s.io r.meas) < opened
          same (taken { x with
            flags := Nat.lor x.flags (2 * b2n (decide carry)),
            e := if iv ≤ opened then
              { x.e with imp := x.e.imp + dI, exp := x.e.exp + dE, credit := credit,
                         tarImp := Tbl.upd x.e.tarImp 0 t (· + dI), tarExp := Tbl.upd x.e.tarExp 0 t (· + dE) }
            else { x.e with nextImp := x.e.nextImp + dI, nextExp := x.e.nextExp + dE, credit := credit } }) y) ∧
      (b.ctrId = r.ctrId → back ∨ ¬ (bound dI ∧ bound dE) →
        Metered (.meterBlock m) s fun y io =>
          y = { s.mtr with ch := y.ch } ∧ OnlyChan c s.mtr y ∧ same { x with st := 3 } y ∧ regs io ∧
          Wrote8 0xC (0x5D * 2 ^ 48 + c * 2 ^ 38 + (if back then 2 else 3) * 2 ^ 34 + m.seq % 2 ^ 32) rcv io) ∧
      (b.ctrId ≠ r.ctrId →
        Metered (.meterBlock m) s fun y io => committed y ∧ y.roll.length = s.mtr.roll.length + 1 ∧
          same (taken { x with flags := Nat.lor x.flags 64 }) y ∧ io.flag 0x40400080 0 = true ∧ io.flag 0x40400080 4 = true)) ∧
    (s.io.active = false →
      let newer := blockOk s.mtr m && (Tbl.get s.mtr.kept none c).elim true fun k => decide (k.meas < b.meas)
      Metered (.meterBlock m) s fun y io => io = rcv ∧ y = { s.mtr with ch := y.ch, kept := y.kept } ∧ OnlyChan c s.mtr y ∧
        same x y ∧ (∀ k, Tbl.get y.kept none k = if newer ∧ k = c then some b else Tbl.get s.mtr.kept none k))) ∧
  (∀ (c : Nat) (s : State), s.sepia = true → s.mtr.running = true →
    let x := chOf s.mtr c
    let due := (c < 256 ∧ chCfg s.mtr c = true ∧ s.io.active = true) ∧ (x.st = 1 ∨ x.st = 3) ∧
      x.acceptedAt + lpAbsent s.mtr * ms ≤ s.io.now
    x.txn = none →
    (due → Metered (.channelAbsent c) s fun y io =>
      y = { s.mtr with ch := y.ch, ledger := s.mtr.ledger + 1, clk := { s.mtr.clk with saved := legalNow s.mtr s.io } } ∧
      OnlyChan c s.mtr y ∧ chOf y c = { x with st := 2, flags := Nat.lor x.flags 1 } ∧
      Wrote8 8 (0x5D * 2 ^ 48 + c * 2 ^ 38) s.io io) ∧
    (¬ due → Metered (.channelAbsent c) s fun y io => y = s.mtr ∧ io = s.io)) ∧
  (∀ (h : MirHdr) (x : LedgerDelta) (s : State), s.live = true → s.io.active = false → s.mtr.running = true → s.mtr.sync = true →
    let r := mirFrame h (s.mir, s.io)
    r.2 = true →
    Ends (.ledgerDelta h x) s fun t => t = { s with mir := t.mir, mtr := t.mtr, io := t.io } ∧
      (x.seq = s.mtr.ledger + 1 → t.mtr = { s.mtr with
        ledger := x.seq, tids := x.tids.getD s.mtr.tids,
        ch := if x.ch < 256 then Tbl.set s.mtr.ch MtrCh.init x.ch x.st else s.mtr.ch }) ∧
      (x.seq ≠ s.mtr.ledger + 1 → t.mtr = { s.mtr with sync := false } ∧ Wrote8 4 (0x5F * 2 ^ 48 + 8 * 2 ^ 43) r.1.2 t.io))

/-- LEGAL_TIME_SAVE, LEGAL_TIME_HELD, LEGAL_SLEW_END, INTERVAL_CLOSE, SUPPLY_EARLY_WARNING; CIVIL_ADJ, CAL_LOAD, CAL_CANCEL. L goes to
MRAM (R416). When site time is first held, L steps forward to it, or D is lowered at 200 ppm, or the clock is at fault (R417). An interval
closes forward only, with one entry per channel; the next opens with its tariff fixed, a due calendar active (R420, R425, R428, R432,
R433). An adjustment within R419 moves M; one outside changes no clock. A calendar is refused by R426 or takes the PENDING slot (R427). The
model's choices in it are those of assumption log entries 119, 120, 121 and 124. -/
def Obligations.LegalClockAndCalendars : Prop :=
  ∀ (s : State), s.sepia = true → s.mtr.running = true →
    let k := s.mtr.clk
    let l := legalNow s.mtr s.io
    let iv := s.mtr.iv
    let energies := fun (y : MtrSt) => ∀ c, chOf y c =
      { chOf s.mtr c with txn := (chOf y c).txn, flags := (chOf y c).flags }
    Metered .legalTimeSave s (fun y io => io = s.io ∧ y = { s.mtr with
      clk := { k with saved := l }, iv := { iv with acc := iv.acc + (l - iv.since), since := l } }) ∧
    -- R417
    (k.held = false → s.io.flag Reg.FAB.PTP_STAT 31 = true →
      let held := { k with held := true }
      (k.d = 0 → Metered .legalTimeHeld s fun y io => io = s.io ∧ y = { s.mtr with clk := held }) ∧
      (0 < k.d → k.d ≤ 3600000000000 → Metered .legalTimeHeld s fun y io =>
        y = { s.mtr with clk := { held with slew := some s.io.now } } ∧
        Wrote8 8 (0x5C * 2 ^ 48 + 3 * 2 ^ 44 + unS 32 (k.d / 1000000)) s.io io) ∧
      (3600000000000 < k.d → Metered .legalTimeHeld s fun y io =>
        y = { s.mtr with clk := { held with fault := true } } ∧
        Wrote8 0xC (0x5C * 2 ^ 48 + 4 * 2 ^ 44 + unS 32 (sat32 (k.d / 1000000))) s.io io) ∧
      (k.d < 0 → Metered .legalTimeHeld s fun y io =>
        y.clk.d = 0 ∧ y.clk.held = true ∧ legalNow y io = s.io.now ∧ io.flag 0x40400080 5 = true ∧
        (meterMs { s.mtr with clk := { held with d := 0 } } s.io.now < (iv.iv + 1) * 900000 →
          y = { s.mtr with ch := y.ch, clk := { held with d := 0 } } ∧ energies y ∧
          Wrote8 8 (0x5C * 2 ^ 48 + 2 * 2 ^ 44 + unS 32 (sat32 (-k.d / 1000000))) s.io io))) ∧
    (∀ t0, k.slew = some t0 →
      (k.d ≤ ((s.io.now - t0) / 5000 : Nat) → Metered .legalSlewEnd s fun y io =>
        io = s.io ∧ y = { s.mtr with clk := { k with d := 0, slew := none } }) ∧
      (((s.io.now - t0) / 5000 : Nat) < k.d → Metered .legalSlewEnd s fun y io => io = s.io ∧ y = s.mtr)) ∧
    -- R420
    (iv.on = true →
      let m := meterMs s.mtr l
      ((iv.iv + 1) * 900000 + lpGrace s.mtr ≤ m → Metered .intervalClose s fun y io =>
        let n := max (iv.iv + 1) (m / 900000)
        y.iv = ⟨true, n, tariffAt y.active (n * 900000), l, l, 0⟩ ∧ io.flag 0x40400080 1 = true ∧
        (∀ c, chCfg s.mtr c = true →
          let x := chOf s.mtr c
          let z := chOf y c
          z.e = { x.e with
            imp := x.e.imp + x.e.nextImp, exp := x.e.exp + x.e.nextExp, imp0 := x.e.imp, exp0 := x.e.exp, nextImp := 0, nextExp := 0,
            tarImp := Tbl.upd x.e.tarImp 0 y.iv.tariff (· + x.e.nextImp), tarExp := Tbl.upd x.e.tarExp 0 y.iv.tariff (· + x.e.nextExp) } ∧
          (n = iv.iv + 1 → x.unarch < 192 →
            let adj := Nat.land x.flags 8 ≠ 0
            let dI := (x.e.imp - x.e.imp0) * 4 / 1000
            let dE := (x.e.exp - x.e.exp0) * 4 / 1000
            z.unarch = x.unarch + 1 ∧ z.ring.getLast? = some ⟨x.e.imp, x.e.exp, iv.iv % 2 ^ 32, iv.tariff,
              Nat.lor x.flags (if 900000000000 < l - iv.openL ∧ adj then 128 else 0),
              satU 16 ((iv.acc + (l - iv.since)) / 1000000000).toNat, dI, dE⟩ ∧
            (Nat.land x.flags 24 = 0 → billingAt y.active (n * 900000) = false → z.maxImp = max x.maxImp dI ∧ z.maxExp = max x.maxExp dE) ∧
            (billingAt y.active (n * 900000) = true → z.maxImp = 0 ∧ z.maxExp = 0))) ∧
        (n = iv.iv + 1 →
          let due := s.mtr.pending ≠ [] ∧ (calActM s.mtr.pending = 0 ∨ calActM s.mtr.pending ≤ n * 900000)
          (due → y.active = s.mtr.pending ∧ y.pending = []) ∧ (¬ due → y.active = s.mtr.active ∧ y.pending = s.mtr.pending))) ∧
      (m < (iv.iv + 1) * 900000 + lpGrace s.mtr → Metered .intervalClose s fun y io => y = s.mtr ∧ io = s.io)) ∧
    -- R435
    (∀ vhv low, (vhv < 38500 ∨ 2000 ≤ low) → Metered (.supplyEarlyWarning vhv low) s fun y io =>
      io = s.io ∧ y = { s.mtr with nv := y.nv, ledger := y.ledger, clk := { k with saved := l }, iv := { iv with acc := iv.acc + (l - iv.since), since := l } } ∧
      ∀ p, p < 8 → chCfg s.mtr (256 + p) = true → Tbl.get y.nv MtrCh.init (256 + p) = chOf s.mtr (256 + p)) ∧
    (∀ vhv low, 38500 ≤ vhv → low < 2000 → exec (.supplyEarlyWarning vhv low) s = .next s) ∧
    -- the mailbox
    (s.live = true → ∀ (n : Nat),
      let done := fun (io : Io) (cmd result : Nat) =>
        io.reg Reg.MTR.MBX_STAT = w32 (2 ^ 30 + result * 2 ^ 16 + cmd * 2 ^ 8) ∧ io.flag 0x40400080 8 = true
      (let d := sxt 32 (mbxArg s.io 0)
       let day := k.recent.filter fun e => decide (l - e.1 < 86400000000000)
       let sum := (day.map Prod.snd).foldl (· + ·) 0
       let within := d.natAbs ≤ lpAdjMax s.mtr ∧ sum + d.natAbs ≤ lpAdjDay s.mtr
       let clk := { k with adj := k.adj + d, recent := day ++ [(l, d.natAbs)] }
       (within → Metered (.civilAdj (.core n)) s fun y io =>
         y.clk.adj = k.adj + d ∧ y.clk.recent = clk.recent ∧ y.clk.d = k.d ∧ done io 5 0 ∧
         io.reg Reg.MTR.MBX_RET = w32 (unS 32 (sat32 (k.adj + d))) ∧ y.roll.length = s.mtr.roll.length + 1 ∧
         (d ≤ 0 ∨ meterMs { s.mtr with clk := clk } l < (iv.iv + 1) * 900000 →
           y.iv = iv ∧ energies y ∧ Wrote8 8 (0x5C * 2 ^ 48 + unS 32 (sat32 d)) s.io io) ∧
         (0 < d → iv.on = true → (iv.iv + 1) * 900000 ≤ meterMs { s.mtr with clk := clk } l →
           y.iv.iv = meterMs { s.mtr with clk := clk } l / 900000)) ∧
       (¬ within → Metered (.civilAdj (.core n)) s fun y io => done io 5 6 ∧
         y = { s.mtr with roll := y.roll, arch := y.arch } ∧ y.roll.length = s.mtr.roll.length + 1 ∧
         io.reg Reg.MTR.MBX_RET = s.io.reg Reg.MTR.MBX_RET ∧ io.queues = s.io.queues)) ∧
      (∀ sigOk,
        let c := mbxBytes s.io (min (mbxArg s.io 0) 4096)
        let r := if sigOk = false then 3 else if calActM c ≠ 0 ∧ calActM c ≤ meterMs s.mtr l + 1000 then 4
          else if 4096 < mbxArg s.io 0 ∨ calFormatOk c = false then 5
          else if s.mtr.active ≠ [] ∧ calId c = calId s.mtr.active then 10 else 0
        Metered (.calLoad (.core n) sigOk) s fun y io => done io 3 r ∧
          y = (if r = 0 then { s.mtr with pending := c } else s.mtr) ∧
          io.reg Reg.MTR.MBX_RET = (if r = 0 then w32 (calId c) else s.io.reg Reg.MTR.MBX_RET) ∧
          Wrote8 (if r = 0 then 4 else 8) (0x5E * 2 ^ 48 + (if r = 0 then 0 else 2) * 2 ^ 44 + r * 2 ^ 32 + calId c % 2 ^ 32) s.io io) ∧
      Metered (.calCancel (.core n)) s fun y io => done io 4 0 ∧ y = { s.mtr with pending := [] } ∧
        io.reg Reg.MTR.MBX_RET = w32 (if s.mtr.pending = [] then 0 else calId s.mtr.pending))

/-- METROLOGY_SAMPLE, METER_POINT_FAULT, SEAL_OPEN, SEAL_CLOSE, CAL_WRITE, CAL_REF_ANNOUNCE, CAL_REF_RESULT. A sample adds each point's
power to its import or export, whole mWh to the registers and the rest kept as a fraction; a failed residue check takes the power of the
sample before (R408, R409). The seal is opened and closed with a permanent entry (R411); a calibration word is written only with the seal
open, in PROVISIONED or MAINTENANCE, while entries are left (R410, R412); a reference run changes no calibration (R413, R414). The model's choices
in it are those of assumption log entries 116 and 119. -/
def Obligations.LocalElementsAndSeal : Prop :=
  (∀ (raw : List (Int × Int)) (bad : List Nat) (s : State), s.sepia = true → s.mtr.running = true →
    Metered (.metrologySample raw bad) s fun y io =>
      y = { s.mtr with ch := y.ch, nv := y.nv, ledger := y.ledger, clk := y.clk, elemE := y.elemE, calRun := y.calRun, sampleAt := s.io.now } ∧
      (∀ a, a ≠ 0x40400080 → a ≠ Reg.MTR.Q8_DROP → io.reg a = s.io.reg a) ∧ (bad = [] → io = s.io) ∧
      (∀ e, e < 8 → Tbl.get y.elemE 0 e = Tbl.get s.mtr.elemE 0 e + elemPower s.io e ((raw[e]?).getD (0, 0))) ∧
      (∀ c, c < 256 ∨ 264 ≤ c → chOf y c = chOf s.mtr c) ∧
      ∀ p, p < 8 →
        let x := chOf s.mtr (256 + p)
        let z := chOf y (256 + p)
        (chCfg s.mtr (256 + p) = false ∨ x.st = 4 → z = x) ∧
        (chCfg s.mtr (256 + p) = true → x.st ≠ 4 →
          let pw := if p ∈ bad then x.pw
            else (pointElems s.mtr p).foldl (fun (a : Int) e => a + elemPower s.io e ((raw[e]?).getD (0, 0))) 0
          let open_ := ivOf s.mtr (legalNow s.mtr s.io) ≤ s.mtr.iv.iv
          z.pw = pw ∧ z.badPw = (if p ∈ bad then x.badPw + 1 else 0) ∧ z.st = (if p ∈ bad ∧ 7 ≤ x.badPw then 4 else x.st) ∧
          z.e.accImp < mWhUnits ∧ z.e.accExp < mWhUnits ∧
          mWhUnits * (z.e.imp + z.e.nextImp) + z.e.accImp = mWhUnits * (x.e.imp + x.e.nextImp) + x.e.accImp + pw.toNat ∧
          mWhUnits * (z.e.exp + z.e.nextExp) + z.e.accExp = mWhUnits * (x.e.exp + x.e.nextExp) + x.e.accExp + (-pw).toNat ∧
          (open_ → z.e.nextImp = x.e.nextImp ∧ z.e.nextExp = x.e.nextExp) ∧ (¬ open_ → z.e.imp = x.e.imp ∧ z.e.exp = x.e.exp))) ∧
  (∀ (p : Nat) (s : State), s.sepia = true →
    let x := chOf s.mtr (256 + p)
    (p < 8 → 8 ≤ x.badPw → x.st ≠ 4 → Metered (.meterPointFault p) s fun y io =>
      y = { s.mtr with
        ch := y.ch, nv := y.nv, ledger := s.mtr.ledger + 1, clk := { s.mtr.clk with saved := legalNow s.mtr s.io } } ∧
      OnlyChan (256 + p) s.mtr y ∧ chOf y (256 + p) = { x with st := 4 } ∧
      Wrote8 0xC (0x5D * 2 ^ 48 + (256 + p) * 2 ^ 38 + 7 * 2 ^ 34) s.io io) ∧
    (x.badPw < 8 ∨ x.st = 4 → Metered (.meterPointFault p) s fun y io => y = s.mtr ∧ io = s.io)) ∧
  (∀ (s : State), s.sepia = true →
    (s.io.flag Reg.MTR.SEAL 31 = false → Metered .sealOpen s fun y io =>
      y = { s.mtr with sealCnt := min 32 (s.mtr.sealCnt + 1), perm := y.perm } ∧ io.flag Reg.MTR.SEAL 31 = true ∧
      (s.mtr.perm.length < 256 → y.perm.length = s.mtr.perm.length + 1) ∧ io.flag 0x40400080 7 = true ∧
      Wrote8 0xC (0x5F * 2 ^ 48) s.io io) ∧
    (s.io.flag Reg.MTR.SEAL 31 = true → Metered .sealClose s fun y io =>
      y = { s.mtr with perm := y.perm } ∧ io.flag Reg.MTR.SEAL 31 = false ∧
      (s.mtr.perm.length < 256 → y.perm.length = s.mtr.perm.length + 1) ∧ io.flag 0x40400080 7 = true ∧
      Wrote8 4 (0x5F * 2 ^ 48 + 2 ^ 43) s.io io) ∧
    (s.io.flag Reg.MTR.SEAL 31 = true → Metered .sealOpen s fun y io => y = s.mtr ∧ io = s.io) ∧
    (s.io.flag Reg.MTR.SEAL 31 = false → Metered .sealClose s fun y io => y = s.mtr ∧ io = s.io)) ∧
  (∀ (e w : Nat) (v : Word) (s : State), s.sepia = true → e < 8 → w < 5 →
    let a := 0x40400600 + 0x20 * e + 4 * w
    let may := s.io.flag Reg.MTR.SEAL 31 = true ∧ (s.hlm.state = 1 ∨ s.hlm.state = 3)
    (may → s.mtr.sealCnt < 32 → s.mtr.perm.length < 256 → Ends (.calWrite .sepia e w v) s fun t =>
      t = { s with mtr := { s.mtr with perm := t.mtr.perm }, io := t.io } ∧ t.mtr.perm.length = s.mtr.perm.length + 1 ∧
      t.io.reg a = v ∧ t.io.reg (Reg.MTR.CAL_STAMP e) = w32 s.mtr.perm.length ∧
      RegsBut [a, Reg.MTR.CAL_STAMP e, Reg.MTR.Q8_DROP] s t ∧ Wrote8 4 (0x5F * 2 ^ 48 + 2 * 2 ^ 43 + e) s.io t.io) ∧
    (may → 32 ≤ s.mtr.sealCnt ∨ 256 ≤ s.mtr.perm.length → Ends (.calWrite .sepia e w v) s fun t =>
      t = { s with mtr := { s.mtr with roll := t.mtr.roll, arch := t.mtr.arch }, io := t.io } ∧ t.io.regs = s.io.regs ∧
      t.mtr.roll.length = s.mtr.roll.length + 1) ∧
    (¬ may → Ends (.calWrite .sepia e w v) s fun t => OnlyIo s t ∧ t.io.regs = s.io.regs ∧ Logged .mtr 0 3 .sepia a s t) ∧
    (∀ n, s.live = true → Ends (.calWrite (.core n) e w v) s fun t =>
      OnlyIo s t ∧ t.io.regs = s.io.regs ∧ Logged .mtr 0 1 (.core n) a s t)) ∧
  (∀ (m : AtkMsg) (s : State), s.live = true → Passes m s → m.ty = 0xA → m.payload.length = 32 → u8 m.payload 0 < 8 →
    let p := m.payload
    let e := u8 p 0
    let runs := fun (t : State) (r : Option CalRun) => Tbl.get t.mtr.calRun none e = r ∧
      (∀ k, k ≠ e → Tbl.get t.mtr.calRun none k = Tbl.get s.mtr.calRun none k) ∧
      t = { received m s with mtr := { s.mtr with calRun := t.mtr.calRun }, io := t.io }
    (u8 p 1 = 1 → u16 p 2 = 0 → u64 p 24 = 0 → u64 p 8 + 1000000000 ≤ u64 p 16 → u64 p 16 ≤ u64 p 8 + 3600000000000 →
      (s.io.now + 10000000 ≤ u64 p 8 → Ends (.calRefAnnounce m) s fun t =>
        runs t (some ⟨u32 p 4, u64 p 8, u64 p 16, none, none⟩) ∧ t.io = (received m s).io) ∧
      (u64 p 8 < s.io.now + 10000000 → exec (.calRefAnnounce m) s = .next (received m s))) ∧
    (∀ r a b, u8 p 1 = 2 → u16 p 2 = 0 → Tbl.get s.mtr.calRun none e = some r → r.e0 = some a → r.e1 = some b → r.run = u32 p 4 →
      0 < u64 p 24 → Ends (.calRefResult m) s fun t => runs t none ∧
        (let ref : Nat := u64 p 24 * (288 * 2 ^ 32)
         Wrote8 4 (0x5F * 2 ^ 48 + 7 * 2 ^ 43 + unS 32 (sat32 (odiv (((b - a) * 10 - (ref : Int)) * 1000000) ref)))
           (received m s).io t.io)))

/-- TXN_OPEN, TXN_CLOSE, TXN_AUTO_CLOSE, with the METER_BLOCK that gives a reading; PREPAY, DISPLAY, ARCH_READ; ARCHIVE_PAGE_DUE,
ARCHIVE_WRITE_DONE; TOKEN_ENTRY, TOKEN_UNLOCK, CHECK_REQUEST, CHECK_CLEAR. A transaction opens under the next TXN_SEQ, takes its readings
from blocks at or after the two instants, and is signed (R438 to R440). Pages are written in order and reused after 400 days (R442 to
R446). A token is judged in R447's order and enters CREDIT once; refusals lock (R448). The check value is shown for 30 s (R454). The model's
choices in it are those of assumption log entries 122, 124, 125, 128, 129, 131 and 201. -/
def Obligations.TransactionsArchiveTokens : Prop :=
  ∀ (s : State), s.live = true → s.mtr.running = true →
    let l := legalNow s.mtr s.io
    let done := fun (io : Io) (cmd result : Nat) =>
      io.reg Reg.MTR.MBX_STAT = w32 (2 ^ 30 + result * 2 ^ 16 + cmd * 2 ^ 8) ∧ io.flag 0x40400080 8 = true
    let fails := fun (i : Instr) (cmd result : Nat) => Metered i s fun y io =>
      y = s.mtr ∧ done io cmd result ∧ io.queues = s.io.queues ∧
      ∀ a, a ≠ Reg.MTR.MBX_STAT → a ≠ 0x40400080 → io.reg a = s.io.reg a
    let commits := fun (y : MtrSt) => y = { s.mtr with
      ch := y.ch, txnSeq := y.txnSeq, arch := y.arch, unsigned := y.unsigned, tids := y.tids,
      ledger := s.mtr.ledger + 1, clk := { s.mtr.clk with saved := l } }
    let signed := fun (c : Nat) (k : Txn) (st en : Reading) (flags : Nat) (ti te : Tbl Nat) (y : MtrSt) =>
      ∃ sig, sig.length = 114 ∧ y.arch.txns = s.mtr.arch.txns ++
        [(k.seq, txnHead s.mtr c k st en flags ++ signer s.mtr ++ (tarBytes ti ++ tarBytes te) ++ sig ++ zeros 14)]
    let closing := fun (x : MtrCh) (flags : Nat) => Nat.lor (Nat.lor flags (32 * b2n x.prepay)) (2 * b2n s.mtr.halt)
    (∀ n,
      let c := mbxArg s.io 0 % 256
      let x := chOf s.mtr c
      (chCfg s.mtr c = false → fails (.txnOpen (.core n)) 1 2 ∧ fails (.txnClose (.core n)) 2 2 ∧ fails (.prepay (.core n)) 7 2) ∧
      (∀ k, chCfg s.mtr c = true → x.txn = some k → fails (.txnOpen (.core n)) 1 7) ∧
      (chCfg s.mtr c = true → x.txn = none → fails (.txnClose (.core n)) 2 7) ∧
      (chCfg s.mtr c = true → x.txn = none → Metered (.txnOpen (.core n)) s fun y io =>
        let seq := (s.mtr.txnSeq + 1) % 2 ^ 32
        commits y ∧ OnlyChan c s.mtr y ∧ y.txnSeq = seq ∧ done io 1 0 ∧ io.reg Reg.MTR.MBX_RET = w32 seq ∧ y.arch = s.mtr.arch ∧
        chOf y c = { x with txn := some ⟨seq, s.io.now, none, mbxBytes s.io 24, 0, [], [], none, none, none⟩ }) ∧
      (∀ k, chCfg s.mtr c = true → x.txn = some k → Metered (.txnClose (.core n)) s fun y io =>
        commits y ∧ OnlyChan c s.mtr y ∧ y.txnSeq = s.mtr.txnSeq ∧ done io 2 0 ∧ io.reg Reg.MTR.MBX_RET = w32 k.seq ∧
        chOf y c = { x with txn := some (if k.closeAt.isSome then k else
          { k with closeAt := some s.io.now, ending := some (s.io.now + lpAbsent s.mtr * 1000000) }) }) ∧
      (chCfg s.mtr c = true → mbxArg s.io 1 ≤ 1 → Metered (.prepay (.core n)) s fun y io =>
        commits y ∧ OnlyChan c s.mtr y ∧ done io 7 0 ∧ chOf y c = { x with prepay := mbxArg s.io 1 == 1 }) ∧
      (let field := bitsN (mbxArg s.io 0) 15 8
       let len := bitsN (mbxArg s.io 0) 23 16
       let text := mbxBytes s.io len
       (field < 0x10 → fails (.display (.core n)) 6 9) ∧ (0x10 ≤ field → 64 < len → fails (.display (.core n)) 6 2) ∧
       (0x10 ≤ field → len ≤ 64 → Metered (.display (.core n)) s fun y io => done io 6 0 ∧ y = { s.mtr with
         hmi := s.mtr.hmi ++ [(c, [if len = 0 then 0x11 else 0x10, BitVec.ofNat 8 text.length, BitVec.ofNat 8 field, 0] ++ text)] })) ∧
      (let at_ := mbxArg s.io 0 + mbxArg s.io 1 * 2 ^ 32
       ((∀ p ∈ s.mtr.arch.pages, p.seq ≠ at_) → fails (.archRead (.core n)) 8 8) ∧
       (∀ p, s.mtr.arch.pages.find? (fun q => q.seq == at_) = some p → Metered (.archRead (.core n)) s fun y io =>
         y = s.mtr ∧ done io 8 0 ∧ ∀ i, i < 1024 → io.reg (Reg.MTR.MBX_DATA i) = w32 (u32 p.bytes (4 * i))))) ∧
    (∀ m r k, s.io.active = true → Passes m s → m.ty = 4 → blockOk s.mtr m = true →
      let c := u8 m.payload 0
      let b := parseBlock m
      let x := chOf s.mtr c
      let dI := b.imp - r.imp
      let dE := b.exp - r.exp
      x.ref = some r → x.txn = some k → b.ctrId = r.ctrId → r.meas < b.meas → r.imp ≤ b.imp → r.exp ≤ b.exp →
      plausible (lpPMax s.mtr c) (b.meas - r.meas) dI = true → plausible (lpPMax s.mtr c) (b.meas - r.meas) dE = true →
      ivOf s.mtr (legalAt s.mtr s.io b.meas) ≤ s.mtr.iv.iv →
      (k.start = none → k.closeAt = none → k.at_ ≤ b.meas → Metered (.meterBlock m) s fun y _ =>
        ∃ k', (chOf y c).txn = some k' ∧ k'.start = some (readingOf s.mtr s.io b) ∧ k'.seq = k.seq ∧ k'.tarImp = k.tarImp ∧ k'.tarExp = k.tarExp) ∧
      (∀ st a, k.start = some st → k.closeAt = some a → a ≤ b.meas → s.mtr.key.isSome = true → Metered (.meterBlock m) s fun y io =>
        (chOf y c).txn = none ∧ io.flag 0x40400080 2 = true ∧
        signed c k st (readingOf s.mtr s.io b) (closing x (Nat.lor k.flags (128 * b2n b.headErr)))
          (Tbl.upd k.tarImp 0 s.mtr.iv.tariff (· + dI)) (Tbl.upd k.tarExp 0 s.mtr.iv.tariff (· + dE)) y)) ∧
    (∀ c k, c < 256 → (chOf s.mtr c).txn = some k → k.closeAt = none →
      let x := sesOf s.sess c
      let parked := (x.st == .idle || x.st == .ended) = true
      (∀ b ti te, parked → x.since + 2000000000 ≤ s.io.now → k.mark = some (b, ti, te) → x.since ≤ b.meas → s.mtr.key.isSome = true →
        Metered (.txnAutoClose c) s fun y io => commits y ∧ OnlyChan c s.mtr y ∧ chOf y c = { chOf s.mtr c with txn := none } ∧
          io.flag 0x40400080 2 = true ∧
          signed c k (k.start.getD (readingOf s.mtr s.io b)) (readingOf s.mtr s.io b)
            (closing (chOf s.mtr c) (Nat.lor k.flags 64)) ti te y) ∧
      (¬ parked ∨ s.io.now < x.since + 2000000000 → Metered (.txnAutoClose c) s fun y io => y = s.mtr ∧ io = s.io)) ∧
    -- the archive
    (∀ kind ch, s.mtr.arch.fault = false → s.mtr.arch.busy = none → s.mtr.key.isSome = true →
      let place := Tbl.get s.mtr.arch.next 0 kind
      let chn := if kind = 1 then ch else 0xFFFF
      let holder := s.mtr.arch.pages.find? fun p => p.kind == kind && p.place == place
      let fullBit := bitsN s.mtr.arch.full (kind - 1) (kind - 1)
      (archDue kind ch (s.mtr, s.io) = none → ∀ ok, Metered (.archivePageDue kind ch ok) s fun y io => y = s.mtr ∧ io = s.io) ∧
      (∀ count first body, archDue kind ch (s.mtr, s.io) = some (count, first, body) →
        (Metered (.archivePageDue kind ch false) s fun y io => y.arch.fault = true ∧ y.arch.pages = s.mtr.arch.pages ∧
          y.roll.length = s.mtr.roll.length + 1 ∧ y = { s.mtr with arch := y.arch, roll := y.roll } ∧ io.flag 0x40400080 6 = true) ∧
        (holder.elim (place < lpPages s.mtr kind) (fun p => p.writeL + 34560000000000000 < l) →
          Metered (.archivePageDue kind ch true) s fun y _ => y = { s.mtr with arch := y.arch } ∧
            ∃ p prev sig, y.arch.busy = some p ∧ p = ⟨kind, chn, s.mtr.arch.seq, count, l, place,
              pageBytes s.mtr kind chn count s.mtr.arch.seq first l prev sig body⟩) ∧
        (¬ holder.elim (place < lpPages s.mtr kind) (fun p => p.writeL + 34560000000000000 < l) → 1 ≤ kind → fullBit = 0 →
          Metered (.archivePageDue kind ch true) s fun y io =>
            y = { s.mtr with arch := { s.mtr.arch with full := s.mtr.arch.full + 2 ^ (kind - 1) } } ∧
            io.flag 0x40400080 6 = true ∧ Wrote8 0xC (0x5F * 2 ^ 48 + 3 * 2 ^ 43) s.io io))) ∧
    (s.mtr.arch.busy = none → ∀ ok, Metered (.archiveWriteDone ok) s fun y io => y = s.mtr ∧ io = s.io) ∧
    (∀ p, s.mtr.arch.busy = some p →
      (Metered (.archiveWriteDone false) s fun y io => y.arch.fault = true ∧ y.arch.busy = none ∧ y.arch.pages = s.mtr.arch.pages ∧
        y.roll.length = s.mtr.roll.length + 1 ∧ io.flag 0x40400080 6 = true) ∧
      (Metered (.archiveWriteDone true) s fun y io => io = s.io ∧ y.arch.busy = none ∧ y.arch.seq = s.mtr.arch.seq + 1 ∧ p ∈ y.arch.pages ∧
        (∀ q ∈ s.mtr.arch.pages, q.kind ≠ p.kind ∨ q.place ≠ p.place → q ∈ y.arch.pages) ∧
        Tbl.get y.arch.next 0 p.kind = (if p.place + 1 < lpPages s.mtr p.kind then p.place + 1 else 0) ∧
        (p.kind = 1 → (chOf y p.ch).unarch = (chOf s.mtr p.ch).unarch - p.count ∧ (chOf y p.ch).ring = (chOf s.mtr p.ch).ring) ∧
        (p.kind = 2 → y.arch.txns = s.mtr.arch.txns.drop p.count))) ∧
    -- tokens and the check value
    (∀ m tagOk c digits, Passes m s → m.ty = 5 → State.hmiEntry 1 m (received m s) = some (c, digits) → chCfg s.mtr c = true →
      let x := chOf s.mtr c
      let v := (tokenValue digits).getD 0
      let tid := bitsN v 61 38
      let r := if s.io.now < x.lock.until_ then 5 else if tokenValue digits = none ∨ 2 ^ 66 ≤ v then 1
        else if 1 < bitsN v 65 62 then 6 else if tagOk = false then 2
        else if s.mtr.tids.length = 65536 ∧ tid ≤ (s.mtr.tids.head?).getD 0 then 4 else if tid ∈ s.mtr.tids then 3 else 0
      let rec_ := 0x5A * 2 ^ 48 + c * 2 ^ 38 + r * 2 ^ 34 + (if r = 1 ∨ r = 5 then 0 else tid)
      let bad := (x.lock.bad.filter fun a => decide (s.io.now < a + 600000000000)) ++ [s.io.now]
      let len := if x.lock.len = 0 ∨ x.lock.setAt + 3600000000000 ≤ s.io.now then 60 else min 3600 (2 * x.lock.len)
      (r = 0 → Metered (.tokenEntry m tagOk) s fun y io => commits y ∧ OnlyChan c s.mtr y ∧ io.flag 0x40400080 3 = true ∧
        chOf y c = { x with lock := { x.lock with bad := [], len := 0 }, e := { x.e with
          credit := x.e.credit + (bitsN v 37 22 * (if bitsN v 65 62 = 0 then 10000 else 100000) : Nat) } } ∧
        (s.mtr.tids.length ≤ 65536 → tid ∈ y.tids) ∧ (s.mtr.tids.length < 65536 → ∀ j, j ∈ y.tids ↔ j = tid ∨ j ∈ s.mtr.tids) ∧
        (0 < x.e.credit → Wrote8 4 rec_ (received m s).io io)) ∧
      (r ≠ 0 → Metered (.tokenEntry m tagOk) s fun y io => y = { s.mtr with ch := y.ch } ∧ OnlyChan c s.mtr y ∧
        io.flag 0x40400080 3 = true ∧ Wrote8 8 rec_ (received m s).io io ∧
        chOf y c = { x with lock := if bad.length < 3 then { x.lock with bad := bad }
          else ⟨[], s.io.now + len * 1000000000, len, s.io.now⟩ })) ∧
    (∀ c,
      let k := (chOf s.mtr c).lock
      (k.until_ ≠ 0 → k.until_ ≤ s.io.now → Metered (.tokenUnlock c) s fun y io => io = s.io ∧ y = { s.mtr with ch := y.ch } ∧
        OnlyChan c s.mtr y ∧ chOf y c = { chOf s.mtr c with lock := { k with until_ := 0 } }) ∧
      (k.until_ = 0 ∨ s.io.now < k.until_ → Metered (.tokenUnlock c) s fun y io => y = s.mtr ∧ io = s.io)) ∧
    (∀ m d digits, Passes m s → m.ty = 5 → State.hmiEntry 2 m (received m s) = some (d, digits) →
      Metered (.checkRequest m) s fun y io => io = (received m s).io ∧ y = { s.mtr with
        clear := Tbl.set s.mtr.clear 0 d (s.io.now + 30000000000),
        hmi := s.mtr.hmi ++ [(d, [0x10, BitVec.ofNat 8 (checkText s.mtr.check).length, 0, 0] ++ checkText s.mtr.check)] }) ∧
    (∀ d,
      let due := Tbl.get s.mtr.clear 0 d
      (due ≠ 0 → due ≤ s.io.now → Metered (.checkClear d) s fun y io => io = s.io ∧ y = { s.mtr with
        clear := Tbl.set s.mtr.clear 0 d 0, hmi := s.mtr.hmi ++ [(d, [0x11, 0, 0, 0])] }) ∧
      (due = 0 ∨ s.io.now < due → Metered (.checkClear d) s fun y io => y = s.mtr ∧ io = s.io))

/-! Helmet (chapter 11). -/

/-- GET_ID, ATTEST, RANDOM, HLM_STATUS, PROVISION, OWNER_FUSE, RETURN. Each command ends in its step with its result and output (R498).
A statement follows R474, with NON_EXPORTABLE and, only for keys made inside, GENERATED_INSIDE (R475). The SRAM port grants the engine
before Sepia, and the one that waited before any new request (R488, R489). OWNER_FUSE burns one hash, in PROVISIONED, once (R471).
PROVISION and RETURN are transitions out of RAW that wipe and reset (R468, R469). The model's choices in it are those of assumption log entries
132, 136, 137, 138, 139 and 141. -/
def Obligations.HelmetServesItsMailbox : Prop :=
  (∀ (n : Nat) (s : State), s.live = true →
    let h := s.hlm
    let done := fun (cmd result : Nat) (out : List Byte) (t : State) =>
      t.io.reg Reg.HLM.MBX_STAT = w32 (2 ^ 30 + result * 2 ^ 16 + cmd * 2 ^ 8) ∧ t.io.reg Reg.HLM.MBX_RET = w32 (min 4096 out.length) ∧
      t.io.flag 0x40500080 7 = true ∧ (∀ i, i < 1024 → 4 * i < out.length → t.io.reg (Reg.HLM.MBX_DATA i) = w32 (u32 out (4 * i))) ∧
      t.io.queues = s.io.queues ∧
      ∀ a, a < 0x40501000 ∨ 0x40502000 ≤ a → a ∉ [Reg.HLM.MBX_STAT, Reg.HLM.MBX_RET, 0x40500080, Reg.HLM.SRAM_STALL_CNT] → t.io.reg a = s.io.reg a
    let answers := fun (i : Instr) (cmd result : Nat) (out : List Byte) => Ends i s fun t => OnlyIo s t ∧ done cmd result out t
    let nonce := hlmBytes s.io 32
    -- GET_ID, STATUS
    (∀ i, h.ident = some i → answers (.getId (.core n)) 1 0 (edPub i.ed ++ (List.range 56).map (Config.pubKey i.x) ++ hash32 (edPub i.ed) ++ i.cert)) ∧
    (h.ident = none → answers (.getId (.core n)) 1 0xC [] ∧ ∀ c, answers (.attest (.core n) c) 2 0xC []) ∧
    answers (.hlmStatus (.core n)) 5 0 (le 4 (hlmStat h s.io) ++ le 4 (s.io.reg Reg.HLM.TMP_STAT).toNat ++
      le 4 (h.svnC * 2 ^ 16 + h.svnU * 2 ^ 8 + h.svnT) ++ le 4 (h.revoked % 16 * 16 + h.prog % 16) ++ le 8 h.kuCtr ++
      le 4 (linkCnt s.io) ++ zeros 4 ++ h.devHash) ∧
    -- RANDOM
    (∀ c, hlmArg s.io 0 = 0 ∨ 4096 < hlmArg s.io 0 → answers (.random (.core n) c) 3 0xA []) ∧
    (∀ c, 1 ≤ hlmArg s.io 0 → hlmArg s.io 0 ≤ 4096 → (h.rngBad.isSome = true → answers (.random (.core n) c) 3 9 []) ∧
      (h.rngBad = none → Ends (.random (.core n) c) s fun t => t = { s with hlm := { h with sram := t.hlm.sram }, io := t.io } ∧
        ∃ out, out.length = hlmArg s.io 0 ∧ done 3 0 out t)) ∧
    -- ATTEST: the head of the statement, its key, its signature
    (∀ i, h.ident = some i →
      let states := fun (kind alg slot flags : Nat) (pub : List Byte) (t : State) =>
        t = { s with hlm := { h with sram := t.hlm.sram }, io := t.io } ∧ ∃ sig, sig.length = 114 ∧ done 2 0 (
          le 2 1 ++ le 1 kind ++ le 1 alg ++ le 2 slot ++ le 2 flags ++ le 1 h.state ++ le 1 h.lc ++ zeros 6 ++ (nonce ++ zeros 32).take 32
            ++ h.devHash ++ (pub ++ zeros 133).take 133 ++ zeros 3 ++ ((List.range 24).flatMap fun i => le 4 (s.io.reg (Reg.HLM.MEAS i)).toNat)
            ++ le 2 h.svnT ++ le 2 h.svnU ++ le 2 h.svnC ++ zeros 2 ++ le 8 s.io.now ++ sig) t
      let kind := hlmArg s.io 0
      let at_ := hlmArg s.io 1
      (∀ c, 2 < kind → answers (.attest (.core n) c) 2 0xA []) ∧
      (∀ c, kind = 0 ∨ kind = 2 → Ends (.attest (.core n) c) s (states kind 0 0 7 (edPub i.ed))) ∧
      (∀ c, kind = 1 → at_ < 64 → hSlot h at_ = none → answers (.attest (.core n) c) 2 0xC []) ∧
      (∀ c k, kind = 1 → at_ < 64 → hSlot h at_ = some k → Ends (.attest (.core n) c) s
        (states 1 (algOf k.cls) at_ (b2n k.gen + 2 + (if k.cls = 4 ∨ k.cls = 6 then 4 else 0) + (if k.cls = 6 then 8 else 0)
          + (if algOf k.cls = 3 then 16 else 0)) (slotPub k))) ∧
      (let held := at_ < 0xFFFF ∧ ((Tbl.get s.io.keys KeyGen.init at_).held = true ∨ (Tbl.get s.io.keys KeyGen.init (0x10000 + at_)).held = true)
       ∀ c, kind = 1 → 64 ≤ at_ →
        (held → Ends (.attest (.core n) c) s (states 1 3 at_ 18 [])) ∧ (¬ held → answers (.attest (.core n) c) 2 0xC [])) ∧
      -- the port of the secure SRAM
      (∀ (e q x : SramReq), kind = 0 →
        let go := fun m r => (sramGrant m r).1
        let stalls := (s.io.reg Reg.HLM.SRAM_STALL_CNT).toNat
        (Ends (.attest (.core n) [⟨some e, some q⟩]) s fun t => t.hlm.sram = go (go h.sram e) q ∧
          t.io.reg Reg.HLM.SRAM_STALL_CNT = w32 (satU 32 (stalls + 1))) ∧
        (Ends (.attest (.core n) [⟨some e, some q⟩, ⟨some x, none⟩]) s fun t => t.hlm.sram = go (go (go h.sram e) q) x ∧
          t.io.reg Reg.HLM.SRAM_STALL_CNT = w32 (satU 32 (stalls + 2))))) ∧
    -- OWNER_FUSE
    (let k := hlmArg s.io 0
     (3 < k → answers (.ownerFuse (.core n)) 0x11 0xA []) ∧ (k ≤ 3 → h.state ≠ 1 → answers (.ownerFuse (.core n)) 0x11 6 []) ∧
     (k ≤ 3 → h.state = 1 → bitsN h.prog k k = 1 → answers (.ownerFuse (.core n)) 0x11 8 []) ∧
     (k ≤ 3 → h.state = 1 → bitsN h.prog k k ≠ 1 → Ends (.ownerFuse (.core n)) s fun t =>
       t = { s with hlm := { h with prog := h.prog + 2 ^ k, owners := t.hlm.owners }, io := t.io } ∧ done 0x11 0 [] t ∧
       Tbl.get t.hlm.owners [] k = hash32 (hlmBytes s.io 57) ∧ ∀ j, j ≠ k → Tbl.get t.hlm.owners [] j = Tbl.get h.owners [] j)) ∧
    -- PROVISION, RETURN
    (let wiped := fun (t : State) => t.hlm.slots = [] ∧ t.hlm.mask = false ∧ t.hlm.sram = [] ∧ t.hlm.wipeDone = true ∧
       (∀ k, (Tbl.get t.io.keys KeyGen.init k).held = false) ∧ t.mem.spm = [] ∧ t.mem.dram = [] ∧
       t.io.flag Reg.SYS.RST_CAUSE RstCause.warmLc.bit = true ∧ t.mtr.sealCnt = s.mtr.sealCnt
     (h.state ≠ 0 → ∀ ok, answers (.provision (.core n) ok) 0x10 6 [] ∧ answers (.returnPart (.core n) ok) 0x12 6 []) ∧
     (h.state = 0 → answers (.provision (.core n) false) 0x10 4 [] ∧ answers (.returnPart (.core n) false) 0x12 4 []) ∧
     (h.state = 0 → h.rngBad.isSome = true → answers (.provision (.core n) true) 0x10 9 []) ∧
     (h.state = 0 → h.rngBad = none → Ends (.provision (.core n) true) s fun t => wiped t ∧ t.hlm.state = 1 ∧
       (∃ e x, t.hlm.ident = some ⟨e, x, Config.certOf (hlmBytes s.io 4096)⟩) ∧ t.hlm.kuCtr = h.kuCtr ∧ ∀ c, c < 256 → chOf t.mtr c = chOf s.mtr c) ∧
     (h.state = 0 → Ends (.returnPart (.core n) true) s fun t => wiped t ∧ t.hlm.state = 4 ∧ t.hlm.ident = none ∧ t.hlm.idKill = true ∧
       ∀ c, chOf t.mtr c = MtrCh.init)))

/-- KU_INSTALL, KU_DELETE, KU_GENERATE, KU_LIFECYCLE, KU_OWNER_REVOKE, KU_TAMPER_ACK. A key update gets the result of the first check of
R482 that fails; it then changes nothing but KU_LAST and KU_REJ_CNT. An accepted one takes its counter, so that it is refused as a replay
ever after (R483), and has the effect of its OP: R484, R485, R468, R472, R493. The model's choices in it are those of assumption log entries 134,
135 and 142. -/
def Obligations.KeyUpdatesFollowR482 : Prop :=
  (∀ (n : Nat) (sigOk wrapOk : Bool) (s : State), s.live = true →
    let h := s.hlm
    let p := hlmBytes s.io (min 4096 (hlmArg s.io 0))
    let op := kuOp p
    let cls := kuClass p
    let tgt := kuTarget p
    let r := if kuFormat p = false then 1 else if h.ident = none ∨ (p.drop 16).take 32 ≠ h.devHash then 2
      else if h.valid (u8 p 3) = false ∨ hash32 ((p.drop 48).take 57) ≠ Tbl.get h.owners [] (u8 p 3) then 3
      else if sigOk = false then 4 else if u64 p 8 ≤ h.kuCtr then 5 else if kuState h p = false then 6
      else if op = 1 ∧ wrapOk = false then 7 else if kuTargetOk s.io p = false then 8
      else if op = 3 ∧ h.rngBad.isSome = true then 9 else 0
    let row := fun (P : State → Prop) =>
      (op = 1 → Ends (.kuInstall (.mbx (.core n)) sigOk wrapOk) s P) ∧ (op = 2 → Ends (.kuDelete (.mbx (.core n)) sigOk wrapOk) s P) ∧
      (op = 3 → Ends (.kuGenerate (.mbx (.core n)) sigOk wrapOk) s P) ∧ (op = 4 → Ends (.kuLifecycle (.mbx (.core n)) sigOk wrapOk) s P) ∧
      (op = 5 → Ends (.kuOwnerRevoke (.mbx (.core n)) sigOk wrapOk) s P) ∧ (op = 6 → Ends (.kuTamperAck (.mbx (.core n)) sigOk wrapOk) s P)
    let last := fun (t : State) => t.io.reg Reg.HLM.KU_LAST = w32 (r * 2 ^ 24 + op * 2 ^ 16 + cls * 2 ^ 8)
    let synced := (hSlot h (lpMeterKey s.mtr)).bind (fun x => if x.cls = 4 then some x.pub else none) = s.mtr.key
    (r ≠ 0 → row fun t => last t ∧ t = { s with mtr := t.mtr, io := t.io } ∧ (synced → t.mtr = s.mtr) ∧ t.io.keys = s.io.keys ∧
      t.io.reg Reg.HLM.KU_REJ_CNT = incSat (s.io.reg Reg.HLM.KU_REJ_CNT) ∧ t.io.flag 0x40500080 1 = true ∧
      t.io.reg Reg.HLM.MBX_STAT = w32 (2 ^ 30 + r * 2 ^ 16 + 4 * 2 ^ 8) ∧ t.io.reg Reg.HLM.TMP_STAT = s.io.reg Reg.HLM.TMP_STAT) ∧
    (r = 0 → op ≠ 4 → row fun t => last t ∧ t = { s with hlm := t.hlm, mtr := t.mtr, io := t.io } ∧ t.hlm.kuCtr = u64 p 8 ∧
      t.io.flag 0x40500080 0 = true ∧ t.io.reg Reg.HLM.MBX_STAT = w32 (2 ^ 30 + 4 * 2 ^ 8) ∧
      t.io.reg Reg.HLM.KU_REJ_CNT = s.io.reg Reg.HLM.KU_REJ_CNT ∧
      (t.hlm.lc = h.lc ∧ t.hlm.returned = h.returned ∧ t.hlm.ident = h.ident ∧ t.hlm.prog = h.prog ∧ t.hlm.owners = h.owners) ∧
      -- the key store
      (∀ j, hSlot t.hlm j = if (op = 1 ∨ op = 2 ∨ op = 3) ∧ 3 ≤ cls ∧ cls ≤ 6 ∧ j = tgt then
        (if op = 2 then none else (hSlot t.hlm j).map fun k => { k with cls := cls, gen := op == 3 }) else hSlot h j) ∧
      (op = 1 ∨ op = 3 → 3 ≤ cls → cls ≤ 6 → (hSlot t.hlm tgt).isSome = true) ∧
      (∀ k, Tbl.get t.io.keys KeyGen.init k =
        if op = 1 ∧ k ∈ kuPlaces cls tgt then
          let old := Tbl.get s.io.keys KeyGen.init k
          ⟨true, u16 p 6, if old.held = true ∧ (cls = 1 ∨ cls = 2) then some old.gen else none, s.io.now⟩
        else if op = 2 ∧ k ∈ kuPlaces cls tgt then KeyGen.init else Tbl.get s.io.keys KeyGen.init k) ∧
      (op = 1 → t.hlm.keysLost = false) ∧
      (t.hlm.revoked = if op = 5 then Nat.lor h.revoked (2 ^ tgt) else h.revoked) ∧
      (t.io.reg Reg.HLM.TMP_STAT = if op = 6 then setBits (s.io.reg Reg.HLM.TMP_STAT) 8 0 0 else s.io.reg Reg.HLM.TMP_STAT) ∧
      (op = 3 → 0 < (t.io.reg Reg.HLM.MBX_RET).toNat)) ∧
    (r = 0 → op = 4 → row fun t => t.hlm.kuCtr = (if u16 p 182 = 4 then 0 else u64 p 8) ∧
      t.hlm.state = u16 p 182 ∧ t.hlm.lc = (if u16 p 182 = 4 then h.lc else h.lc + 1) ∧ t.hlm.slots = [] ∧ t.hlm.mask = false ∧
      t.hlm.sram = [] ∧ t.mem.spm = [] ∧ t.mem.dram = [] ∧ (∀ k, (Tbl.get t.io.keys KeyGen.init k).held = false) ∧
      (t.hlm.ident = if u16 p 182 = 4 then none else h.ident) ∧ t.io.flag Reg.SYS.RST_CAUSE RstCause.warmLc.bit = true)) ∧
  -- check 6
  (∀ (h : HlmSt) (p : List Byte),
    (kuOp p = 4 → (kuState h p = true ↔ (u16 p 182 = 2 ∧ (h.state = 1 ∨ h.state = 3)) ∨ (u16 p 182 = 3 ∧ h.state = 2 ∧ h.lc ≤ 28) ∨
      (u16 p 182 = 4 ∧ 1 ≤ h.state ∧ h.state ≤ 3))) ∧
    (kuOp p = 5 → (kuState h p = true ↔ (h.state = 2 ∨ h.state = 3) ∧
      (h.valid (kuTarget p) = true → ∃ j, j < 4 ∧ j ≠ kuTarget p ∧ h.valid j = true))) ∧
    (kuOp p ≠ 4 → kuOp p ≠ 5 → (kuState h p = true ↔ 1 ≤ h.state ∧ h.state ≤ 3))) ∧
  -- an update that came as a message has the same effect
  (∀ (m : AtkMsg) (sigOk wrapOk : Bool) (s : State), s.live = true → Passes m s → m.ty = 9 →
    let t := State.keyUpdateIn m.payload false sigOk wrapOk (received m s)
    (kuOp m.payload = 1 → exec (.kuInstall (.atk m) sigOk wrapOk) s = .next t) ∧ (kuOp m.payload = 2 → exec (.kuDelete (.atk m) sigOk wrapOk) s = .next t) ∧
    (kuOp m.payload = 3 → exec (.kuGenerate (.atk m) sigOk wrapOk) s = .next t) ∧ (kuOp m.payload = 4 → exec (.kuLifecycle (.atk m) sigOk wrapOk) s = .next t) ∧
    (kuOp m.payload = 5 → exec (.kuOwnerRevoke (.atk m) sigOk wrapOk) s = .next t) ∧ (kuOp m.payload = 6 → exec (.kuTamperAck (.atk m) sigOk wrapOk) s = .next t))

/-- TAMPER_SENSED, VBAT_LOSS, VBAT_SWITCHOVER, RNG_HEALTH_FAIL, RNG_RECOVER. A sensed source is latched and counted once and reacts by its
level (R490, R491): LOG does nothing more; ERASE_OP destroys every operational key; ERASE_ALL the identity as well. Safety outputs and legal
registers stay (R494). With the supply off the erasure waits for the next start (R495). Loss of VBAT destroys the operational keys (R467). The
model's choices in it are those of assumption log entries 140 and 197. -/
def Obligations.TamperDestroysTheKeys : Prop :=
  (∀ (src : Nat) (s : State),
    let lv := tamperLevel s.io src
    let latched := s.io.flag Reg.HLM.TMP_STAT src
    let noted := fun (t : State) => t.io.flag Reg.HLM.TMP_STAT src = true ∧
      t.io.fld Reg.HLM.TMP_STAT 31 24 = satU 8 (s.io.fld Reg.HLM.TMP_STAT 31 24 + 1)
    (lv = none ∨ latched = true → exec (.tamperSensed src) s = .next s) ∧
    (lv = some 0 → latched = false → Ends (.tamperSensed src) s fun t =>
      OnlyRegs s t ∧ noted t ∧ RegsBut [Reg.HLM.TMP_STAT, 0x40500080] s t ∧ (s.live = true → t.io.flag 0x40500080 2 = true)) ∧
    (∀ v, lv = some v → v = 1 ∨ v = 2 → latched = false → s.live = true → s.boot.chosen = false → Ends (.tamperSensed src) s fun t =>
      noted t ∧ t.io.flag 0x40500080 2 = true ∧ t.io.flag 0x40500080 3 = true ∧ t.io.keys = [] ∧ t.gnt = s.gnt ∧ t.mem = s.mem ∧
      t.mtr = { s.mtr with key := none } ∧ t.hlm = { s.hlm with
        mask := false, slots := [], sram := [], keysLost := true, idKill := s.hlm.idKill || v == 2,
        ident := if v = 2 then none else s.hlm.ident, kuCtr := if v = 2 then 0 else s.hlm.kuCtr }) ∧
    (∀ v, lv = some v → v = 1 ∨ v = 2 → latched = false → s.live = false → Ends (.tamperSensed src) s fun t =>
      t = { s with hlm := t.hlm, io := t.io } ∧ noted t ∧ t.io.keys = [] ∧ t.hlm = { s.hlm with
        mask := false, pend := true, idKill := s.hlm.idKill || v == 2,
        ident := if v = 2 then none else s.hlm.ident, kuCtr := if v = 2 then 0 else s.hlm.kuCtr }) ∧
    (∀ v, lv = some v → v = 1 ∨ v = 2 → latched = false → s.live = true → s.boot.chosen = true → Ends (.tamperSensed src) s fun t =>
      noted t ∧ t.hlm.mask = false ∧ t.hlm.pend = true ∧ t.io.flag Reg.SYS.RST_CAUSE RstCause.warmTamper.bit = true)) ∧
  (∀ (io : Io) (src : Nat),
    (src < 5 → tamperLevel io src =
      if bit (io.reg Reg.HLM.TMP_CFG) (16 + src) then some (bits (io.reg Reg.HLM.TMP_CFG) (2 * src + 1) (2 * src)) else none) ∧
    (src = 5 ∨ src = 6 ∨ src = 7 → tamperLevel io src = some 1) ∧ tamperLevel io 8 = some 2 ∧ (8 < src → tamperLevel io src = none)) ∧
  (∀ (s : State), Ends .vbatLoss s fun t =>
    t.hlm = { s.hlm with mask := false, slots := [], keysLost := s.hlm.keysLost || s.live } ∧ t.io.keys = [] ∧ t.gnt = s.gnt ∧
    t.io.reg Reg.HLM.TMP_STAT = s.io.reg Reg.HLM.TMP_STAT ∧ (∀ c, chOf t.mtr c = chOf s.mtr c) ∧
    (s.boot.vbat = true → t.io.reg Reg.HLM.TMP_CFG = 0 ∧ t.boot.rtc = 0)) ∧
  (∀ (v : Nat) (s : State), Ends (.vbatSwitchover v) s fun t => t = { s with boot := { s.boot with vbat := t.boot.vbat } } ∧
    (v < 30000 → t.boot.vbat = true) ∧ (32000 < v → t.boot.vbat = false) ∧ (30000 ≤ v → v ≤ 32000 → t.boot.vbat = s.boot.vbat)) ∧
  (∀ (s : State), s.sepia = true →
    (Ends .rngHealthFail s fun t => t = { s with hlm := { s.hlm with rngBad := some s.io.now }, io := t.io } ∧
      t.io.flag 0x40500080 5 = true ∧ RegsBut [0x40500080] s t) ∧
    (∀ a, s.hlm.rngBad = some a →
      (a + 1000000000 ≤ s.io.now → exec .rngRecover s = .next { s with hlm := { s.hlm with rngBad := none } }) ∧
      (s.io.now < a + 1000000000 → exec .rngRecover s = .next s)) ∧
    (s.hlm.rngBad = none → exec .rngRecover s = .next s))

/-- Invariant. What fuses record only grows, whatever the command: LC_COUNT, RETURNED and ID_KILL, programmed and revoked owner slots
with their hashes, and the rollback counters (R468, R471, R472, R479). -/
def Obligations.FusesOnlyBlow : Prop :=
  ∀ (i : Instr) (s t : State), exec i s = .next t →
    s.hlm.lc ≤ t.hlm.lc ∧ (s.hlm.returned = true → t.hlm.returned = true) ∧ (s.hlm.idKill = true → t.hlm.idKill = true) ∧
    (∀ k, bitsN s.hlm.prog k k = 1 → bitsN t.hlm.prog k k = 1) ∧ (∀ k, bitsN s.hlm.revoked k k = 1 → bitsN t.hlm.revoked k k = 1) ∧
    (∀ k, bitsN s.hlm.prog k k = 1 → Tbl.get t.hlm.owners [] k = Tbl.get s.hlm.owners [] k) ∧
    s.hlm.svnT ≤ t.hlm.svnT ∧ s.hlm.svnU ≤ t.hlm.svnU ∧ s.hlm.svnC ≤ t.hlm.svnC

/-! Gauntlet (chapter 12). -/

/-- INPUT_DEMAND, SAFETY_INPUT_CLOSED, INPUT_GLITCH, TEST_PULSE, DISC_TIMEOUT; DARK_TEST, LIGHT_TEST, PAIR_TESTS_PASS, COIL_OVERCURRENT,
WELD_CHECK. A demand and every input fault act on the pairs of the input's mask (R504 to R508, R518), an SF2 input's at the die itself
(R510). An output whose switch fails a test is FAULTED (R511 to R513); over-current opens (R514); CLOSING ends in ON (R516). The model's choices
in it are those of assumption log entries 144, 146, 149, 150 and 151. -/
def Obligations.SafetyInputsAndOutputs : Prop :=
  (∀ (n : Nat) (s : State), s.live = true → s.gnt.halted = false → n < 32 → inEn s.io n = true →
    let x := inpOf s.gnt n
    let use := inUseOf s.io n
    let sf1 := inSf1 s.io n
    let acts := fun (k p : Nat) => inActs s.io k p && pairEn s.io p
    let pairs := fun (m : Nat → Bool) (sf1 : Bool) (cause : Nat) (g : GntSt) =>
      ∀ p, p < 32 → pairOf g p = if m p then tripped sf1 cause p s else pairOf s.gnt p
    let rest := fun (g : GntSt) => g = { s.gnt with pair := g.pair, inp := g.inp, disp := g.disp, die := g.die, dieSf2 := g.dieSf2 }
    let faulted := fun (k cause : Nat) (g : GntSt) (io : Io) => (inpOf g k).fault = cause ∧ io.flag 0x40600080 2 = true
    let dieOff := fun (k : Nat) (g : GntSt) => inUseOf s.io k = 0 → inSf1 s.io k = false → ∀ p, p < 32 → inActs s.io k p = true → bitsN g.die p p = 0
    (x.low = false → use = 1 → Guarded (.inputDemand n) s fun g io => io = s.io ∧ g = s.gnt.putInp n { x with low := true }) ∧
    (x.low = false → use ≠ 1 → Guarded (.inputDemand n) s fun g io => rest g ∧
      (inpOf g n).low = true ∧ (inpOf g n).dem = true ∧ (inpOf g n).fault = x.fault ∧
      pairs (acts n) sf1 (if use = 2 then 6 else 1) g ∧ dieOff n g ∧
      (∀ p, maskPairs s.io (Reg.GNT.IN_MASK n) = [p] → (pairOf s.gnt p).st = .on →
        let fn := if use = 2 then 3 else if sf1 then 1 else 2
        let trip := rec9 0xC (8 * 2 ^ 48 + p * 2 ^ 43 + fn * 2 ^ 40 + (if use = 2 then 6 else 1) * 2 ^ 24 + n * 2 ^ 16)
        (sf1 = true → WroteSeq q9Dst [trip, rec9 4 (9 * 2 ^ 48 + p * 2 ^ 43 + 3 * 2 ^ 40 + 2 * 2 ^ 37),
          rec9 4 (0xC * 2 ^ 48 + p * 2 ^ 43 + (stopOf p (s.gnt, s.io)).tStop)] s { s with io := io }) ∧
        (sf1 = false → WroteSeq q9Dst ([trip] ++ stopEnded p 2 s ++ [rec9 4 (9 * 2 ^ 48 + p * 2 ^ 43 + 2 * 2 ^ 37)]) s { s with io := io }))) ∧
    (x.low = true → Guarded (.inputDemand n) s fun g io => g = s.gnt ∧ io = s.io) ∧
    (x.low = true → Guarded (.safetyInputClosed n) s fun g io => rest g ∧ g.pair = s.gnt.pair ∧ g.die = s.gnt.die ∧
      (inpOf g n).low = false ∧ (inpOf g n).dem = false ∧ (x.acked = false → (inpOf g n).fault = x.fault ∧ io = s.io)) ∧
    (x.low = false → Guarded (.safetyInputClosed n) s fun g io => g = s.gnt ∧ io = s.io) ∧
    -- R507
    (x.low = false → use ≠ 1 →
      let g3 := (x.glitch.filter fun a => decide (s.io.now < a + s.io.fld (Reg.GNT.IN_CFG n) 7 0 * 1000000)) ++ [s.io.now]
      (g3.length < 3 → Guarded (.inputGlitch n) s fun g io => io = s.io ∧ g = s.gnt.putInp n { x with glitch := g3 }) ∧
      (3 ≤ g3.length → x.fault = 0 → Guarded (.inputGlitch n) s fun g io =>
        rest g ∧ faulted n 5 g io ∧ (inpOf g n).glitch = [] ∧ pairs (acts n) false 5 g ∧ dieOff n g)) ∧
    -- R505
    (inTp s.io n = true → x.low = false → x.fault = 0 →
      (Guarded (.testPulse n true []) s fun g io => rest g ∧ faulted n 2 g io ∧ pairs (acts n) false 2 g ∧ dieOff n g ∧
        io.reg Reg.GNT.TP_FAIL_CNT = incSat (s.io.reg Reg.GNT.TP_FAIL_CNT)) ∧
      (Guarded (.testPulse n false []) s fun g io => io = s.io ∧ g = s.gnt.putInp n { x with passes := x.passes + 1 }) ∧
      (∀ k, k < 32 → k ≠ n → inEn s.io k = true → (inpOf s.gnt k).low = false → (inpOf s.gnt k).fault = 0 →
        Guarded (.testPulse n false [k]) s fun g io => rest g ∧ faulted n 3 g io ∧ faulted k 3 g io ∧
          pairs (fun p => acts n p || acts k p) false 3 g ∧ dieOff n g ∧ dieOff k g)) ∧
    -- R506
    (∀ e at_, inPair s.io n = some e → (inpOf s.gnt e).alone = some at_ → (inpOf s.gnt e).fault = 0 → (inpOf s.gnt (e + 1)).fault = 0 →
      let lone := if (inpOf s.gnt e).dem then e else e + 1
      let due := at_ + s.io.fld (Reg.GNT.IN_CFG lone) 23 16 * 1000000
      (due ≤ s.io.now → Guarded (.discTimeout n) s fun g io => rest g ∧ faulted e 4 g io ∧ faulted (e + 1) 4 g io ∧
        pairs (fun p => acts e p || acts (e + 1) p) false 4 g ∧ dieOff e g ∧ dieOff (e + 1) g) ∧
      (s.io.now < due → Guarded (.discTimeout n) s fun g io => g = s.gnt ∧ io = s.io))) ∧
  (∀ (p : Nat) (s : State), s.live = true → s.gnt.halted = false → p < 32 → pairEn s.io p = true →
    let x := pairOf s.gnt p
    let only := fun (z : Pair) (g : GntSt) => g = { s.gnt with pair := g.pair, disp := g.disp } ∧ pairOf g p = z ∧
      ∀ k, k ≠ p → pairOf g k = pairOf s.gnt k
    let broken := { x with st := .faulted, cause := 0x10, stop := none, mA := 0, testAt := s.io.now }
    let due := x.testAt = 0 ∨ x.testAt + 10000000000 ≤ s.io.now
    (x.st = .on → due → ∀ mA,
      (Guarded (.darkTest p true mA) s fun g io => io = s.io ∧ only { x with testAt := s.io.now, mA := mA } g) ∧
      (Guarded (.darkTest p false mA) s fun g io => only { broken with openAt := s.io.now } g ∧ io.flag 0x40600080 3 = true ∧
        WroteSeq q9Dst ([rec9 0xC (8 * 2 ^ 48 + p * 2 ^ 43 + 6 * 2 ^ 40 + 0x10 * 2 ^ 24)] ++ stopEnded p 2 s ++
          [rec9 0xC (9 * 2 ^ 48 + p * 2 ^ 43 + 4 * 2 ^ 40 + 2 * 2 ^ 37)]) s { s with io := io })) ∧
    (x.st = .closing ∨ (x.st = .locked ∧ due) →
      (∀ mA, mA < 20 → Guarded (.lightTest p true mA) s fun g io => io = s.io ∧ only { x with testAt := s.io.now } g) ∧
      (∀ ok mA, ok = false ∨ 20 ≤ mA → Guarded (.lightTest p ok mA) s fun g io => only broken g ∧ io.flag 0x40600080 3 = true ∧
        WroteSeq q9Dst (stopEnded p 2 s ++ [rec9 0xC (9 * 2 ^ 48 + p * 2 ^ 43 + 4 * 2 ^ 40 + x.st.code * 2 ^ 37)]) s { s with io := io })) ∧
    (x.st = .closing → Guarded (.pairTestsPass p) s fun g io => only { x with st := .on, stop := none } g ∧
      WroteSeq q9Dst [rec9 4 (9 * 2 ^ 48 + p * 2 ^ 43 + 2 * 2 ^ 40 + 2 ^ 37)] s { s with io := io }) ∧
    (x.st ≠ .closing → Guarded (.pairTestsPass p) s fun g io => g = s.gnt ∧ io = s.io) ∧
    (x.st = .on ∨ x.st = .stopping → ∀ mA, Guarded (.coilOvercurrent p mA) s fun g io =>
      only { x with st := .locked, cause := 0x11, stop := none, mA := 0, openAt := s.io.now } g ∧ io.flag 0x40600080 0 = true) ∧
    (x.st = .locked → s.io.flag (Reg.GNT.OUT_CFG p) 29 = true → s.fb p = true → feedback s.gnt s.io p = false →
      let due := x.openAt + s.io.fld (Reg.GNT.OUT_CFG p) 23 16 * 1000000
      (due ≤ s.io.now → Guarded (.weldCheck p) s fun g io => io = s.io ∧ only { x with cause := 0xE } g) ∧
      (s.io.now < due → Guarded (.weldCheck p) s fun g io => g = s.gnt ∧ io = s.io)))

/-- GNT_HEAD_STALE, SAFE_STOP_TIMEOUT, ESCALATION, LOCKSTEP_FAIL, SAFE_ACK_PRESS, SAFE_ACK_RELEASE, ACK_STUCK, ACK_WINDOW_EXPIRY, ACK_CMD.
SAFETY_LANE_FRAME, SAFETY_LANE_TIMEOUT. A frame of the safety lane closes the pairs that are on, none that the die holds open; 100 µs without one open every pair (R16, R17).
A stale head opens its pair (R39, R518); a safe stop ends at T_STOP (R516); an escalation reacts by ESC_REACT, one of Gauntlet's own halts
it (R527, R528). An acknowledgement needs a press of 100 ms to 5 s, a write within the window, and every condition of R531. The model's choices in
it are those of assumption log entries 145, 147, 149 and 152. -/
def Obligations.StopsEscalationsAcknowledgements : Prop :=
  ∀ (s : State), s.live = true →
    let idle := fun (i : Instr) => Guarded i s fun g io => g = s.gnt ∧ io = s.io
    let q9 := fun (l : List (Bool → List Word64)) (io : Io) => WroteSeq q9Dst l s { s with io := io }
    let pairs := fun (m : Nat → Bool) (sf1 : Bool) (cause : Nat) (g : GntSt) =>
      ∀ p, p < 32 → pairOf g p = if m p then tripped sf1 cause p s else pairOf s.gnt p
    (s.gnt.halted = false →
      (∀ d l, (gDispOf s.gnt d).last = some l → d < 256 →
        let p := dispPair s.io d
        let x := pairOf s.gnt p
        let due := dispEn s.io d = true ∧ (gDispOf s.gnt d).armed = true ∧ (x.st = .on ∨ x.st = .stopping) ∧ l.1 + 4 * dispPeriod s.io d < s.io.now
        (due → Guarded (.gntHeadStale d) s fun g io => pairs (fun k => k == p) false 0xC g ∧ g = { s.gnt with pair := g.pair, disp := g.disp } ∧
          q9 ([rec9 0xC (8 * 2 ^ 48 + p * 2 ^ 43 + 6 * 2 ^ 40 + 0xC * 2 ^ 24 + d * 2 ^ 16)] ++ stopEnded p 2 s ++
            [rec9 4 (9 * 2 ^ 48 + p * 2 ^ 43 + x.st.code * 2 ^ 37)]) io) ∧
        (¬ due → idle (.gntHeadStale d))) ∧
      (∀ p st, p < 32 → (pairOf s.gnt p).st = .stopping → (pairOf s.gnt p).stop = some st →
        (st.t0 + st.tStop * 1000000 ≤ s.io.now → Guarded (.safeStopTimeout p) s fun g io =>
          g = { s.gnt with pair := g.pair, disp := g.disp } ∧ (∀ k, k ≠ p → pairOf g k = pairOf s.gnt k) ∧
          pairOf g p = { pairOf s.gnt p with st := .locked, openAt := s.io.now, stop := none, mA := 0 } ∧
          q9 (stopEnded p 1 s ++ [rec9 4 (9 * 2 ^ 48 + p * 2 ^ 43 + 3 * 2 ^ 37)]) io) ∧
        (s.io.now < st.t0 + st.tStop * 1000000 → idle (.safeStopTimeout p))) ∧
      (∀ k r, s.io.esc = k :: r → k ≠ 22 →
        let react := s.io.fld Reg.GNT.SF_CFG3 1 0
        Guarded .escalation s fun g io => io.esc = r ∧ io.flag 0x40600080 5 = true ∧ g = { s.gnt with pair := g.pair, disp := g.disp } ∧
          (react = 0 ∨ react = 3 → g = s.gnt ∧ q9 [rec9 8 (0xD * 2 ^ 48 + logWin k * 2 ^ 40 + react * 2 ^ 38)] io) ∧
          (react = 1 → pairs (fun p => (pairOf s.gnt p).st == .on) true 0x13 g) ∧ (react = 2 → pairs (fun _ => true) false 0x13 g)) ∧
      (∀ r, s.io.esc = 22 :: r → paired s.io = false → Ends .escalation s fun t => t.gnt = { s.gnt with halted := true, laneOk := false } ∧
        t.io.esc = r ∧ t.io.flag Reg.GNT.STAT 31 = false) ∧
      (s.io.esc = [] → s.io.escOver = 0 → idle .escalation) ∧
      (Ends .lockstepFail s fun t => t.gnt = { s.gnt with halted := true, laneOk := false } ∧ t.io.flag Reg.GNT.STAT 31 = false ∧
        (paired s.io = true → mirState s.io = 3 → mirState t.io = 4 ∧ t.io.fld Reg.MIR.STAT 15 8 = 3 ∧ t.mir.own = false)) ∧
      (s.gnt.press = none → Guarded .safeAckPress s fun g io => io = s.io ∧ g = { s.gnt with press := some s.io.now })) ∧
    -- R529
    (s.gnt.press.isSome = true → idle .safeAckPress) ∧
    (∀ a, s.gnt.press = some a →
      (a + 5000000000 < s.io.now → Guarded .ackStuck s fun g io => io = s.io ∧ g = { s.gnt with stuck := true }) ∧
      (s.io.now ≤ a + 5000000000 → idle .ackStuck) ∧
      (Guarded .safeAckRelease s fun g io => io = s.io ∧ g = { s.gnt with press := none, stuck := false, winEnd :=
        if a + 100000000 ≤ s.io.now ∧ s.io.now ≤ a + 5000000000 then s.io.now + s.io.fld Reg.GNT.SF_CFG3 15 8 * 1000000000 else s.gnt.winEnd })) ∧
    (s.gnt.winEnd ≠ 0 → s.gnt.winEnd ≤ s.io.now → Guarded .ackWindowExpiry s fun g io => io = s.io ∧ g = { s.gnt with winEnd := 0 }) ∧
    (s.io.now < s.gnt.winEnd → idle .ackWindowExpiry) ∧
    -- R530, R531
    (s.gnt.halted = false → ∀ (n : Nat) (v : Word),
      let ok := fun (p : Nat) => s.io.flag Reg.GNT.ACK_MASK p && ackRefuse s.fb s.gnt s.io p == 0
      (v ≠ 0x5AFE0001 → Guarded (.ackCmd (.core n) v) s fun g io => g = s.gnt ∧ q9 [rec9 4 (0xB * 2 ^ 48 + 2 * 2 ^ 32)] io ∧
        ∀ a, a ≠ Reg.GNT.Q9_DROP → a ≠ 0x40600080 → io.reg a = s.io.reg a) ∧
      (s.gnt.winEnd ≤ s.io.now → Guarded (.ackCmd (.core n) 0x5AFE0001) s fun g io => g = s.gnt ∧ q9 [rec9 4 (0xB * 2 ^ 48 + 2 ^ 32)] io) ∧
      (s.io.now < s.gnt.winEnd → Guarded (.ackCmd (.core n) 0x5AFE0001) s fun g io =>
        g = { s.gnt with pair := g.pair, inp := g.inp, winEnd := 0 } ∧ io.reg Reg.GNT.ACK_CNT = incSat (s.io.reg Reg.GNT.ACK_CNT) ∧
        io.flag 0x40600080 4 = true ∧
        (∀ p, p < 32 → pairOf g p = (if ok p then { pairOf s.gnt p with st := .closing, stop := none, mA := 0 } else pairOf s.gnt p) ∧
          io.fld (Reg.GNT.ACK_REFUSE (p / 8)) (4 * (p % 8) + 3) (4 * (p % 8)) =
            if s.io.flag Reg.GNT.ACK_MASK p then ackRefuse s.fb s.gnt s.io p else 0)) ∧
      (∀ p, ackRefuse s.fb s.gnt s.io p = 0 ↔ ((pairOf s.gnt p).st = .locked ∧ pairEn s.io p = true ∧
        (∀ k, k < 32 → inEn s.io k = true → inUseOf s.io k ≠ 1 → inActs s.io k p = true → (inpOf s.gnt k).dem = false ∧
          ((inpOf s.gnt k).fault = 0 ∨ faultDone s.gnt s.io k = true)) ∧
        feedbackOk s.fb s.gnt s.io p = true ∧
        ∀ d, d < 256 → dispEn s.io d = true → dispPair s.io d = p → ∃ l, (gDispOf s.gnt d).last = some l ∧ s.io.now ≤ l.1 + 4 * dispPeriod s.io d))) ∧
    -- R16, R17
    (s.gnt.halted = false → Guarded .safetyLaneFrame s fun g io =>
      g = { s.gnt with die := g.die, dieSf2 := dieHolds s.gnt s.io, laneAt := s.io.now, lane := s.gnt.lane + 1, laneOk := true } ∧
      io = { s.io with evts := s.io.evts ++ [⟨"SAFETY_LANE", s.gnt.lane, [laneMask s.gnt]⟩] } ∧
      (∀ p, p < 32 → (bitsN (laneMask s.gnt) p p = 1 ↔ ((pairOf s.gnt p).st = .on ∨ (pairOf s.gnt p).st = .stopping)) ∧
        (bitsN g.die p p = 1 ↔ bitsN (laneMask s.gnt) p p = 1 ∧ bitsN (dieHolds s.gnt s.io) p p = 0)) ∧
      ∀ p, p < 32 → (bitsN (dieHolds s.gnt s.io) p p = 1 ↔ ∃ n, n < 32 ∧ inEn s.io n = true ∧ inUseOf s.io n = 0 ∧ inSf1 s.io n = false ∧
        ((inpOf s.gnt n).dem = true ∨ (inpOf s.gnt n).fault ≠ 0) ∧ bit (s.io.reg (Reg.GNT.IN_MASK n)) p = true)) ∧
    (s.gnt.halted = true → idle .safetyLaneFrame) ∧
    (s.gnt.laneAt + 100000 ≤ s.io.now → s.gnt.halted = false → Guarded .safetyLaneTimeout s fun g io =>
      g.die = 0 ∧ g.laneOk = false ∧ g = { s.gnt with pair := g.pair, disp := g.disp, die := 0, laneOk := false } ∧
      (∃ l, io.evts = s.io.evts ++ l ++ [⟨"PAIRS_OPEN", 0, []⟩]) ∧
      ∀ p, p < 32 → let x := pairOf s.gnt p
        pairOf g p = if x.st = .on ∨ x.st = .stopping then { x with st := .locked, openAt := s.io.now, stop := none, mA := 0 }
          else if x.st = .closing then { x with st := .locked, stop := none, mA := 0 } else x) ∧
    (s.io.now < s.gnt.laneAt + 100000 → idle .safetyLaneTimeout)

/-! The redundant pair (chapter 13). -/

/-- MIR_STARTUP, PARTNER_RELEASED, COLD_TAKEOVER, ROLE_CLAIM_SAMPLE, GIVE_UP, DUAL_ACTIVE, HANDOVER, ROLE_HOLD_TIMEOUT, HEARTBEAT_LOST,
MIR_HB_IN_EDGE, PARTNER_ROLE_LINE_CHANGE, MIRROR_LANE_CHANGE. The transitions of R543 that the lines cause; a claim is decided 200 µs after
it began, and unit B yields when both lines are low (R544); a unit gives up for a cause of R547, once, and stays RELEASED (R548). The model's
choices in it are those of assumption log entries 152, 155, 157, 158, 159 and 161. -/
def Obligations.RolesFollowR543 : Prop :=
  ∀ (s : State), s.live = true → paired s.io = true →
    let m := s.mir
    let st := mirState s.io
    let now := s.io.now
    let goes := fun (new : Nat) (t : State) => mirState t.io = new ∧ t.io.flag Reg.MIR.STAT 25 = (new == 2) ∧ t.io.flag 0x40700080 0 = true
    let claims := fun (t : State) => t.mir.own = true ∧ t.mir.claim = some now ∧ mirState t.io = st
    let released_ := partnerLow s.io = false ∧ hbOk s.io = false ∧ m.pSince + 4000000 ≤ now
    let keeps := fun (i : Instr) => Ends i s fun t => t.mir = m ∧ t.io = s.io
    let base := fun (t : State) => t = { s with mir := t.mir, io := t.io, pow := t.pow }
    let still := st ≠ 0 ∧ (st = 2 → lanesUp s.io = true)
    -- INIT
    (st = 0 → m.claim = none → m.started = false →
      (partnerLow s.io = true → Ends .mirStartup s fun t => base t ∧ goes 1 t ∧ t.mir.started = true) ∧
      (released_ → Ends .mirStartup s fun t => base t ∧ claims t ∧ t.mir.started = true) ∧
      (partnerLow s.io = false → hbOk s.io = true →
        (s.io.unitB = false → Ends .mirStartup s fun t => base t ∧ claims t) ∧
        (s.io.unitB = true → Ends .mirStartup s fun t => base t ∧ goes 1 t))) ∧
    -- the partner is gone
    (m.started = true → m.claim = none →
      (st = 2 → released_ → Ends .partnerReleased s fun t => base t ∧ claims t) ∧
      (st ≠ 0 → st ≠ 2 ∨ ¬ released_ → keeps .partnerReleased) ∧
      (let cold := s.io.fld Reg.MIR.CFG 7 1 * 1000000000
       let gone := released_ ∧ max (m.pSince + 4000000) m.hbLost + cold ≤ now
       let waits := partnerLow s.io = false ∧ hbOk s.io = true ∧ m.hello.isSome = true ∧ m.helloState ≤ 1 ∧ m.pSince + cold ≤ now
       (st = 1 → cold ≠ 0 → gone ∨ waits → Ends .coldTakeover s fun t => base t ∧ claims t) ∧
       (st ≠ 1 ∨ ¬ (gone ∨ waits) → keeps .coldTakeover))) ∧
    -- R544
    (∀ a, m.claim = some a →
      (now < a + 200000 → exec .roleClaimSample s = .next s) ∧
      (a + 200000 ≤ now → partnerLow s.io = true → s.io.unitB = true → Ends .roleClaimSample s fun t =>
        t = { s with mir := t.mir, io := t.io } ∧ t.mir.own = false ∧ t.mir.claim = none ∧ mirState t.io = 1) ∧
      (a + 200000 ≤ now → partnerLow s.io = false ∨ s.io.unitB = false → Ends .roleClaimSample s fun t =>
        goes 3 t ∧ t.mir.claim = none ∧ t.mir.own = m.own ∧
        (st = 2 → leaseEpoch t.io = (leaseEpoch s.io + 1) % 65536 ∧ t.alloc = s.alloc))) ∧
    (m.claim = none → exec .roleClaimSample s = .next s) ∧
    -- R547, R548
    (let gives := fun (c : Nat) (t : State) => base t ∧ goes 4 t ∧ t.io.fld Reg.MIR.STAT 15 8 = c ∧ t.mir.own = false ∧ t.mir.hb = false
     (st = 3 → s.giveUpCause ≠ 0 → Ends .giveUp s (gives s.giveUpCause)) ∧
     (st ≠ 3 ∨ s.giveUpCause = 0 → exec .giveUp s = .next s) ∧
     (st = 3 → s.io.unitB = true → partnerLow s.io = true → m.pSince + 1000000 ≤ now → Ends .dualActive s (gives 7)) ∧
     (st ≠ 3 ∨ s.io.unitB = false ∨ partnerLow s.io = false ∨ now < m.pSince + 1000000 → keeps .dualActive) ∧
     (∀ n, st = 3 → m.pState = 2 → m.hello.elim false Hello.ready = true → Ends (.handover (.core n)) s (gives 8)) ∧
     (∀ n, st ≠ 3 ∨ m.pState ≠ 2 ∨ m.hello.elim false Hello.ready = false → Ends (.handover (.core n)) s fun t =>
       base t ∧ t.mir = m ∧ t.io.regs = s.io.regs ∧ Logged .mir 0 4 (.core n) Reg.MIR.CTRL s t)) ∧
    -- R538
    ((m.own = true ∨ m.hb = true) → m.holdAt + 1000000 ≤ now → Ends .roleHoldTimeout s fun t => base t ∧ t.mir.own = false ∧ t.mir.hb = false ∧
      t.mir.claim = none ∧ mirState t.io = (if st = 3 then 4 else st) ∧ (st = 3 → t.mir.wdt = true)) ∧
    (now < m.holdAt + 1000000 ∨ (m.own = false ∧ m.hb = false) → keeps .roleHoldTimeout) ∧
    -- R539, R540: what is seen of the partner, outside INIT and with a lane up
    (hbOk s.io = true → m.hbAt + 1000000 ≤ now → Ends .heartbeatLost s fun t => t = { s with mir := { m with hbLost := now }, io := t.io } ∧
      hbOk t.io = false ∧ RegsBut [Reg.MIR.STAT] s t) ∧
    (still →
      (now < m.hbAt + 1000000 → exec .heartbeatLost s = .next s) ∧
      (Ends .mirHbInEdge s fun t => t = { s with mir := { m with hbAt := now }, io := t.io } ∧ hbOk t.io = true ∧ RegsBut [Reg.MIR.STAT] s t) ∧
      (∀ low, partnerLow s.io ≠ low → Ends (.partnerRoleLineChange low) s fun t =>
        t = { s with mir := { m with pSince := now }, io := t.io } ∧ partnerLow t.io = low ∧ RegsBut [Reg.MIR.STAT] s t) ∧
      (∀ low, partnerLow s.io = low → exec (.partnerRoleLineChange low) s = .next s)) ∧
    (∀ lane up, lane < 2 → st ≠ 2 →
      let b := if lane = 0 then 24 else 23
      (s.io.flag Reg.MIR.STAT b ≠ up → Ends (.mirrorLaneChange lane up) s fun t => t = { s with io := t.io } ∧
        t.io.flag Reg.MIR.STAT b = up ∧ t.io.flag 0x40700080 3 = true ∧
        Wrote q14Dst (fun g => [qWord true true (if up then 4 else 0xC) (0x2B * 2 ^ 48 + lane * 2 ^ 47 + b2n up * 2 ^ 46 + b2n g * 2 ^ 35)]) s t) ∧
      (s.io.flag Reg.MIR.STAT b = up → exec (.mirrorLaneChange lane up) s = .next s))

/-- TICK_FRAME_RECEIVE, CHECKPOINT_FRAME, IMAGE_FRAME, IMAGE_REQ, HELLO_FRAME, HELLO_SEND. A frame whose tag fails is only counted (R541).
A TICK frame in sequence is kept for the next tick start; a gap or an old frame takes STANDBY back to SYNC (R543, R552). The conditions of
R543 together make STANDBY. A full image, a session checkpoint and a HELLO take their place (R542, R550). The model's choices in it are those of
assumption log entries 153, 154 and 160. -/
def Obligations.MirrorFrames : Prop :=
  ∀ (h : MirHdr) (s : State), s.live = true → paired s.io = true → s.mir.started = true →
    let r := mirFrame h (s.mir, s.io)
    let m := r.1.1
    let st := mirState s.io
    let ok := h.tagOk = true ∧ pairKey s.io = true
    (¬ ok → ∀ i, (i = .imageReq h ∨ (∃ b, i = .tickFrameReceive h b) ∨ (∃ d x, i = .checkpointFrame h d x) ∨ (∃ g, i = .imageFrame h g) ∨
        (∃ p, i = .helloFrame h p)) → Ends i s fun t =>
      OnlyRegs s t ∧ t.io.reg Reg.MIR.TAG_FAIL_CNT = incSat (s.io.reg Reg.MIR.TAG_FAIL_CNT) ∧ RegsBut [Reg.MIR.TAG_FAIL_CNT] s t) ∧
    (ok →
      (m.pState = h.state ∧ r.1.2.reg Reg.MIR.TIME_OFS = wS (sat32 h.ofs) ∧ mirState r.1.2 = st) ∧
      (∀ b, s.mir.claim = none →
        let gap := s.mir.rxSeq.elim false fun q => h.seq != (q + 1) % 2 ^ 32
        let late := h.state ≠ 4 ∧ h.tick + 2 < s.tickNum
        let run := if s.mir.image then s.mir.run + 1 else 0
        (gap = true ∨ late → st = 2 → Ends (.tickFrameReceive h (some b)) s fun t => t = { s with mir := t.mir, io := t.io } ∧
          mirState t.io = 1 ∧ t.io.flag Reg.MIR.STAT 25 = false ∧ t.mir.image = false ∧ t.mir.pend = none ∧ t.io.flag 0x40700080 2 = true ∧
          t.io.reg Reg.MIR.GAP_CNT = incSat (s.io.reg Reg.MIR.GAP_CNT)) ∧
        (gap = true ∨ late → st ≠ 2 → Ends (.tickFrameReceive h (some b)) s fun t =>
          t = { s with mir := { m with rxSeq := some h.seq, run := 0 }, io := t.io } ∧ t.io.reg Reg.MIR.GAP_CNT = incSat (s.io.reg Reg.MIR.GAP_CNT)) ∧
        (gap = false → ¬ late → st = 2 → mirMismatch s.io = false → timeTol r.1.2 = true → Ends (.tickFrameReceive h (some b)) s fun t =>
          t = { s with mir := { m with rxSeq := some h.seq, pend := some (h.tick, b), run := run }, io := r.1.2 }) ∧
        (gap = false → ¬ late → st = 1 →
          let ready := s.mir.image = true ∧ 8 ≤ run ∧ s.mtr.sync = true ∧ s.mir.hello.isSome = true ∧ mirMismatch s.io = false ∧ timeTol r.1.2 = true
          (ready → Ends (.tickFrameReceive h (some b)) s fun t => mirState t.io = 2 ∧ t.io.flag Reg.MIR.STAT 25 = true ∧
            t.mir = { m with rxSeq := some h.seq, pend := some (h.tick, b), run := run }) ∧
          (¬ ready → Ends (.tickFrameReceive h (some b)) s fun t =>
            t = { s with mir := { m with rxSeq := some h.seq, pend := some (h.tick, b), run := run }, io := r.1.2 }))) ∧
      (∀ d x, st = 1 ∨ st = 2 → s.mir.claim = none → Ends (.checkpointFrame h d x) s fun t =>
        t = { s with mir := m, io := r.1.2, sess := { s.sess with disp := t.sess.disp } } ∧
        sesOf t.sess d = { x with tcp := (sesOf s.sess d).tcp, slow := (sesOf s.sess d).slow } ∧ ∀ j, j ≠ d → sesOf t.sess j = sesOf s.sess j) ∧
      (∀ g, st = 1 → s.mir.claim = none → Ends (.imageFrame h g) s fun t =>
        t.mir.image = true ∧ t.mir.run = 0 ∧ t.io.reg Reg.MIR.LAST_TICK = w32 h.tick ∧ t.mtr.ledger = g.ledger ∧ t.mtr.sync = true ∧
        t.mtr.tids = g.tids ∧ t.lease.chain = g.body.chain ∧ t.alloc.pd = g.body.alloc.pd ∧ t.thrm.obs = g.body.obs ∧
        leaseEpoch t.io = g.body.epoch % 65536) ∧
      (∀ g, st = 2 → s.mir.claim = none → Ends (.imageFrame h g) s fun t =>
        t = { s with mir := m, io := r.1.2, mtr := t.mtr } ∧ t.mtr.ledger = g.ledger ∧ t.mtr.sync = true ∧
        ∀ c, 256 ≤ c → chOf t.mtr c = chOf s.mtr c) ∧
      (st = 3 → Ends (.imageReq h) s fun t => t = { s with mir := t.mir, io := t.io } ∧
        Tbl.get t.mir.seq 0 4 = (Tbl.get s.mir.seq 0 4 + 1) % 2 ^ 32 ∧ t.io.evts.length = s.io.evts.length + (if lanesUp s.io then 1 else 0)) ∧
      (st ≠ 3 → Ends (.imageReq h) s fun t => t = { s with mir := m, io := r.1.2 }) ∧
      (∀ p, st ≠ 1 → st ≠ 2 → Ends (.helloFrame h p) s fun t => t = { s with mir := { m with hello := some p, helloState := h.state }, io := t.io } ∧
        (mirMismatch t.io = true ↔ p.meas ≠ s.confMeas ∨ p.ver ≠ mVer s.alloc.model)) ∧
      (∀ p, st = 2 → s.mir.claim = none → p.meas ≠ s.confMeas ∨ p.ver ≠ mVer s.alloc.model → Ends (.helloFrame h p) s fun t =>
        mirState t.io = 1 ∧ mirMismatch t.io = true)) ∧
    (s.mir.helloAt + 1000000000 ≤ s.io.now → pairKey s.io = true → Ends .helloSend s fun t => t = { s with mir := t.mir, io := t.io } ∧
      t.mir.helloAt = s.io.now ∧ Tbl.get t.mir.seq 0 6 = (Tbl.get s.mir.seq 0 6 + 1) % 2 ^ 32) ∧
    (s.io.now < s.mir.helloAt + 1000000000 → exec .helloSend s = .next s)

/-! Queues, memories and error logs (chapter 14). -/

/-- QUEUE_FILL, QUEUE_RESERVE, QUEUE_LENGTH, QUEUE_DRAIN, PACKET_ABANDON, QUEUE_FLUSH, QUEUE_MARK, QUEUE_REWIND. When the drain bank holds no
unread word and every packet of a nonempty fill bank is complete, the banks swap; the drain side then presents every packet of the fill bank
once, its length word (R579) first, in descending priority and, for equal priority, as written; the mark is lost with its bank (R575, R576,
R585). What each command leaves in queue `q`; every other queue, and every engine, is untouched. An access that R20 does not grant is only
logged. The model's choices in it are those of assumption log entries 166, 167, 168 and 169. -/
def Obligations.QueueCommands : Prop :=
  ((∀ y : Queue, (y.cur = [] ∧ y.drain = [] ∧ y.fill ≠ [] ∧ ∀ p ∈ y.fill, p.complete = true) →
    ∃ l : List QPkt, y.swap = { y with fill := [], drain := l.map QPkt.out, bank1 := !y.bank1, mark := none,
                                       markLost := y.markLost || y.mark.isSome } ∧
      l.Perm y.fill ∧ l.Pairwise (fun p p' => p'.prio ≤ p.prio) ∧
      ∀ k, l.filter (fun p => p.prio = k) = y.fill.filter (fun p => p.prio = k)) ∧
  (∀ y : Queue, ¬ (y.cur = [] ∧ y.drain = [] ∧ y.fill ≠ [] ∧ ∀ p ∈ y.fill, p.complete = true) → y.swap = y) ∧
  (∀ (p : QPkt) (n : Nat), p.len = some n → ∃ w, p.out = w :: p.body ∧ qFirst w = true ∧ qLast w = false ∧ qPrio w = p.prio % 16 ∧
    bitsN w.toNat 55 48 = 1 ∧ bitsN w.toNat 47 11 = 0 ∧ bitsN w.toNat 10 0 = n % 2048) ∧
  (∀ p : QPkt, p.len = none → p.out = p.body)) ∧
  (∀ (who : Who) (q : Nat) (s : State), s.live = true → q < 16 →
    let x := s.io.queue q
    let now := s.io.now
    let isLate := fun (p : QPkt) => !p.complete && decide (p.since + s.io.fld (State.qReg q 0x28) 15 0 * 1000 ≤ now)
    let ends := fun (i : Instr) (y : Queue) => Ends i s fun t => QueueIs q y s t ∧ t.io.logs = s.io.logs
    let refuses := fun (i : Instr) (y : Queue) (code o : Nat) => Ends i s fun t => QueueIs q y s t ∧
      Logged .que 0 code who (State.qReg q o) s t
    -- R580, R709, R710
    (∀ w, mayWrite who (State.qReg q 4) = true →
      let w' : Word64 := BitVec.ofNat 64 (2 ^ 63 + w.toNat % 2 ^ 62)
      let x0 := { x with discard := false }
      let writing := ∃ p ∈ x.fill, p.done = false
      let new : QPkt := ⟨none, none, [w'], qLast w, now⟩
      let more := fun (p : QPkt) => if p.done then p else { p with body := p.body ++ [w'], done := qLast w }
      (x.discard = false ∨ qFirst w = true →
        (x.room ≠ 0 → qFirst w = true → ¬ writing → ends (.queueFill who q w) { x0 with fill := x.fill ++ [new] }.swap) ∧
        (x.room ≠ 0 → qFirst w = true → writing →
          ends (.queueFill who q w) { x0 with fill := x.fill.filter (fun (p : QPkt) => p.done) ++ [new], abandon := true }.swap) ∧
        (x.room ≠ 0 → qFirst w = false → writing → 
          ends (.queueFill who q w) (Queue.swap { x0 with fill := x.fill.map more })) ∧
        (x.room ≠ 0 → qFirst w = false → ¬ writing → refuses (.queueFill who q w) x.swap 4 4) ∧
        (x.room = 0 → writing → ends (.queueFill who q w) (Queue.swap { x0 with
          overrun := true, ovrCnt := incSat x.ovrCnt, fill := x.fill.filter fun (p : QPkt) => p.done, discard := true })) ∧
        (x.room = 0 → ¬ writing → (∃ p ∈ x.fill, p.complete = false) → ends (.queueFill who q w) (Queue.swap { x0 with
          overrun := true, ovrCnt := incSat x.ovrCnt, fill := x.fill.filter fun p => p.complete, discard := true })) ∧
        (x.room = 0 → ¬ writing → (∀ p ∈ x.fill, p.complete = true) →
          ends (.queueFill who q w) { x0 with overrun := true, ovrCnt := incSat x.ovrCnt }.swap)) ∧
      (x.discard = true → qFirst w = false → qLast w = false → ends (.queueFill who q w) x) ∧
      (x.discard = true → qFirst w = false → qLast w = true → ends (.queueFill who q w) x0.swap)) ∧
    -- R578, R579
    (mayWrite who (State.qReg q 0xC) = true →
      (x.room = 0 → Ends (.queueReserve who q) s fun t => QueueIs q x s t ∧ t.io.bus = 0) ∧
      (x.room ≠ 0 → Ends (.queueReserve who q) s fun t => ∃ sl, sl < 2048 ∧ t.io.bus = 2 ^ 31 + sl ∧
        (∀ p ∈ x.fill, p.done = true → p.slot ≠ some sl) ∧
        QueueIs q { x with fill := x.fill.filter (fun (p : QPkt) => p.done) ++ [⟨some sl, none, [], false, now⟩], discard := false,
                           abandon := x.abandon || x.fill.any fun p => !p.done } s t)) ∧
    (∀ v, mayWrite who (State.qReg q 0x10) = true →
      let set := fun (p : QPkt) => if p.slot = some (bits v 26 16) ∧ p.len = none then { p with len := some (bits v 10 0) } else p
      (bits v 10 0 ≠ 0 → ends (.queueLength who q v) (Queue.swap { x with fill := x.fill.map set })) ∧
      (bits v 10 0 = 0 → refuses (.queueLength who q v) x 2 0x10)) ∧
    ((∃ p ∈ x.fill, isLate p = true) → ends (.packetAbandon q) (Queue.swap { x with
      fill := x.fill.filter (fun p => !isLate p), abandon := true,
      discard := x.discard || x.fill.any fun p => isLate p && !p.done })) ∧
    ((∀ p ∈ x.fill, isLate p = false) → ends (.packetAbandon q) x) ∧
    -- R576, R577, R581
    (∀ bad, mayRead who (State.qReg q 0x14) = true →
      let gives := fun (w : Word64) (y : Queue) (counted : Bool) => Ends (.queueDrain who q bad) s fun t =>
        let n := w.toNat + if bad then 2 ^ 62 else 0
        t.io.bus = n % 2 ^ 32 ∧ Tbl.get t.io.stage none (State.qReg q 0x18) = some (BitVec.ofNat 32 (n / 2 ^ 32)) ∧
        (∃ c, QueueIs q { y.swap with curBad := c, poisonCnt := if bad then incSat x.poisonCnt else x.poisonCnt } s t) ∧
        Tbl.get t.io.logs ErrLog.init (Block.que.logKey 0) =
          if bad && !counted then ((Tbl.get s.io.logs ErrLog.init (Block.que.logKey 0)).record ⟨5, 0, 0, 0, State.qReg q 0x14, 0, now⟩).1
          else Tbl.get s.io.logs ErrLog.init (Block.que.logKey 0)
      (∀ w r, x.cur = w :: r → gives w { x with cur := r } x.curBad) ∧
      (∀ w r d, x.cur = [] → x.drain = (w :: r) :: d → gives w { x with cur := r, drain := d } false) ∧
      (x.cur = [] → x.drain = [] → Ends (.queueDrain who q bad) s fun t =>
        QueueIs q x s t ∧ t.io.bus = 0 ∧ Tbl.get t.io.stage none (State.qReg q 0x18) = some 0 ∧ t.io.logs = s.io.logs)) ∧
    -- R582, R583, R584
    (mayWrite who (State.qReg q 0x20) = true →
      ends (.queueFlush who q) { x with fill := [], cur := [], drain := [], mark := none, flushed := true,
                                        discard := x.discard || x.fill.any fun p => !p.complete } ∧
      (x.cur = [] → x.drain ≠ [] → ends (.queueMark who q) { x with mark := some x.drain }) ∧
      (x.cur ≠ [] ∨ x.drain = [] → refuses (.queueMark who q) x 4 0x20) ∧
      (∀ m, x.mark = some m → ends (.queueRewind who q) { x with cur := [], drain := m, curBad := false }) ∧
      (x.mark = none → refuses (.queueRewind who q) x 4 0x20)) ∧
    -- R20, R21
    (∀ i o, (i = .queueFlush who q ∧ o = 0x20) ∨ (i = .queueMark who q ∧ o = 0x20) ∨ (i = .queueRewind who q ∧ o = 0x20) ∨
        (∃ w, i = .queueFill who q w ∧ o = 4) ∨ (∃ v, i = .queueLength who q v ∧ o = 0x10) →
      mayWrite who (State.qReg q o) = false → refuses i x 1 o))

/-- BANK_OWNER_WRITE, BANK_HANDOVER_DONE, BANK_MODE_WRITE, SCRATCHPAD_ACCESS, MITTEN_REGION. A new OWNER closes the bank to every access
until the handover is done (R565); MODE is taken only while every bank concerned is NONE's (R566); an access a port is not granted does
nothing (R564); of two writes to one byte port A's stands (R567); Mitten leaves every byte as it was (R571). The model's choices in it are those
of assumption log entries 162, 163, 164 and 165. -/
def Obligations.ScratchpadCommands : Prop :=
  ∀ (s : State), s.live = true →
    let byte := fun (t : State) (k : Nat) => Tbl.get t.mem.spm 0 k
    let inA := fun (c : SpAcc) (k : Nat) => c.addr ≤ k ∧ k < c.addr + c.size
    let lane := fun (c : SpAcc) (k : Nat) => (BitVec.ofNat 8 (c.data / 256 ^ (k - c.addr)) : Byte)
    let oneWord := fun (c : SpAcc) => c.addr % 8 + c.size ≤ 8
    let cfg := fun b => Reg.SPM.BANK_CFG b
    (∀ n b v, b < 32 → inGang s.io b = false → bits v 29 28 = s.io.fld (cfg b) 29 28 → bits v 11 8 ≤ 9 → bits v 15 12 ≤ 9 →
      Ends (.bankOwnerWrite (.core n) b v) s fun t => OnlyRegs s t ∧ RegsBut [cfg b] s t ∧
        t.io.fld (cfg b) 11 8 = bits v 11 8 ∧ t.io.fld (cfg b) 15 12 = bits v 15 12 ∧
        t.io.fld (cfg b) 7 7 = bits v 7 7 ∧ t.io.fld (cfg b) 6 6 = bits v 6 6 ∧ t.io.fld (cfg b) 30 28 = s.io.fld (cfg b) 30 28 ∧
        (bits v 15 8 = s.io.fld (cfg b) 15 8 → t.io.flag (cfg b) 31 = s.io.flag (cfg b) 31) ∧
        (bits v 15 8 ≠ s.io.fld (cfg b) 15 8 → t.io.flag (cfg b) 31 = true ∧
          ∀ eng k, spmGov t.io k = b → spmGranted t.io eng k = false)) ∧
    (∀ b, b < 32 →
      (s.io.flag (cfg b) 31 = true → Ends (.bankHandoverDone b) s fun t => OnlyRegs s t ∧ RegsBut [cfg b, 0x40030080] s t ∧
        t.io.flag (cfg b) 31 = false ∧ t.io.fld (cfg b) 30 0 = s.io.fld (cfg b) 30 0 ∧ t.io.flag 0x40030080 1 = true) ∧
      (s.io.flag (cfg b) 31 = false → exec (.bankHandoverDone b) s = .next s)) ∧
    (∀ n b new, b < 32 → new < 3 → new ≠ s.io.fld (cfg b) 29 28 → inGang s.io b = false →
      let none_ := ∀ k ∈ modeBanks b (s.io.fld (cfg b) 29 28) new, s.io.fld (cfg k) 11 8 = 0 ∧ s.io.fld (cfg k) 15 12 = 0
      let v := setBits (s.io.reg (cfg b)) 29 28 new
      (none_ → (new = 2 → b % 4 = 0) → Ends (.bankModeWrite (.core n) b v) s fun t => OnlyRegs s t ∧ RegsBut [cfg b] s t ∧ t.io.reg (cfg b) = v) ∧
      (¬ (none_ ∧ (new = 2 → b % 4 = 0)) → s.io.fld (cfg b) 11 8 ≤ 9 → s.io.fld (cfg b) 15 12 ≤ 9 →
        Ends (.bankModeWrite (.core n) b v) s fun t => OnlyIo s t ∧ t.io.fld (cfg b) 29 28 = s.io.fld (cfg b) 29 28 ∧
          Logged .spm 0 4 (.core n) (cfg b) s t)) ∧
    -- one port
    (∀ c, spmOk s.io c = true → c.write = true → c.ecc = 0 → c.eng = 0 → Ends (.scratchpadAccess (some c) none) s fun t =>
      t = { s with mem := { s.mem with spm := t.mem.spm }, io := t.io } ∧ t.io.regs = s.io.regs ∧ t.io.logs = s.io.logs ∧
      ∀ k, byte t k = if inA c k then lane c k else byte s k) ∧
    (∀ c, spmOk s.io c = true → c.write = false → c.ecc = 0 → c.eng = 0 → Ends (.scratchpadAccess (some c) none) s fun t =>
      t = { s with mem := t.mem, io := { s.io with bus := t.io.bus } } ∧ (∀ k, byte t k = byte s k) ∧
      ∀ k, k < c.size → t.io.bus / 256 ^ k % 256 = (byte s (c.addr + k)).toNat) ∧
    (∀ c, spmOk s.io c = false → c.write = true → Ends (.scratchpadAccess (some c) none) s fun t => (∀ k, byte t k = byte s k) ∧
      t.io.regs = s.io.regs ∧ t.mem.dram = s.mem.dram ∧
      Tbl.get t.io.logs ErrLog.init (Block.spm.logKey 0) =
        ((Tbl.get s.io.logs ErrLog.init (Block.spm.logKey 0)).record ⟨1, 1, c.code, c.data % 256, 0x10000000 + c.addr, 0, s.io.now⟩).1) ∧
    (∀ c, spmOk s.io c = true → c.write = true → c.size < 8 → c.ecc = 2 → Ends (.scratchpadAccess (some c) none) s fun t =>
      (∀ k, byte t k = byte s k) ∧ Tbl.get t.io.logs ErrLog.init (c.log.logKey 0) =
        ((Tbl.get s.io.logs ErrLog.init (c.log.logKey 0)).record ⟨3, 0, c.code, 0, 0x10000000 + c.addr, 0, s.io.now⟩).1) ∧
    -- both ports in one cycle (R567, R568)
    (∀ a b, spmOk s.io a = true → spmOk s.io b = true → a.ecc = 0 → b.ecc = 0 → oneWord a → oneWord b → a.eng = 0 → b.eng ≠ 0 →
      (a.write = true → b.write = true → Ends (.scratchpadAccess (some a) (some b)) s fun t =>
        (∀ k, byte t k = if inA a k then lane a k else if inA b k then lane b k else byte s k) ∧
        ((∃ k, inA a k ∧ inA b k) → t.io.flag (Reg.SPM.BANK_STAT (spmBank s.io b.addr)) 0 = true ∧ t.io.flag 0x40030080 0 = true ∧
          t.io.reg Reg.SPM.CONFLICT_ADDR = w32 (b.addr / 8 * 8) ∧
          t.io.reg Reg.SPM.CONFLICT_CNT = incSat (s.io.reg Reg.SPM.CONFLICT_CNT)) ∧
        ((¬ ∃ k, inA a k ∧ inA b k) → t.io.regs = s.io.regs)) ∧
      (a.write = false → b.write = true → Ends (.scratchpadAccess (some a) (some b)) s fun t => t.io.regs = s.io.regs ∧
        (∀ k, byte t k = if inA b k then lane b k else byte s k) ∧
        ∀ k, k < a.size → t.io.bus / 256 ^ k % 256 =
          (if s.io.fld (cfg (a.addr / 0x80000 % 32 / 4 * 4)) 29 28 = 2 then byte s (a.addr + k) else byte t (a.addr + k)).toNat)) ∧
    -- Mitten
    (s.io.flag Reg.SPM.MIT_CFG 31 = true → s.mem.mitAt ≤ s.io.now → ∀ bad, Ends (.mittenRegion bad) s fun t =>
      let r := s.mem.mitNext % 65536
      t = { s with mem := { s.mem with mitNext := (r + 1) % 65536, mitAt := s.io.now + s.io.fld Reg.SPM.MIT_CFG 15 0 * 1000 }, io := t.io } ∧
      t.io.reg Reg.SPM.MIT_STAT = w32 r ∧
      t.io.reg Reg.SPM.MIT_PASS_CNT = (if r = 65535 then s.io.reg Reg.SPM.MIT_PASS_CNT + 1 else s.io.reg Reg.SPM.MIT_PASS_CNT) ∧
      (bad = none → t.io.logs = s.io.logs ∧ RegsBut [Reg.SPM.MIT_STAT, Reg.SPM.MIT_PASS_CNT] s t) ∧
      (∀ pos, bad = some pos → t.io.flag (cfg (spmBank s.io (r * 256))) 30 = true ∧ t.io.flag 0x40030080 2 = true ∧
        Tbl.get t.io.logs ErrLog.init (Block.spm.logKey 0) =
          ((Tbl.get s.io.logs ErrLog.init (Block.spm.logKey 0)).record ⟨6, 0, 0x21, pos, 0x10000000 + r * 256, 0, s.io.now⟩).1)) ∧
    (s.io.flag Reg.SPM.MIT_CFG 31 = false ∨ s.io.now < s.mem.mitAt → ∀ bad, exec (.mittenRegion bad) s = .next s)

/-- DRAM_ACCESS, DRAM_SCRUB, ERR_POP, ERR_ACK, and how an error enters a log (R593 to R595): an escalating class opens, a second error of
an open class escalates, a full log counts what it drops. A core neither reads nor writes outside what R20 and R253 give it; a word found
uncorrectable is an access fault to a core and poison to the DMA, and the scrubber makes it so for every later read (R587, R588). The model's
choices in it are those of assumption log entry 163. -/
def Obligations.DramAndErrorLogs : Prop :=
  (∀ (l : ErrLog) (e : ErrRec),
    let r := l.record e
    let kept := fun (x : ErrLog) => if l.recs.length < 8 then r.1 = { x with recs := l.recs ++ [e] }
      else r.1 = { x with ovf := true, ovfCnt := incSat l.ovfCnt }
    (e.cls ≠ 2 → escalating e.cls = false → r.2 = false ∧ kept l) ∧
    (escalating e.cls = true → l.isOpen e.cls = false → r.2 = false ∧ kept { l with openCls := l.openCls + 2 ^ (e.cls - 1) }) ∧
    (escalating e.cls = true → l.isOpen e.cls = true → r.2 = true ∧ kept { l with second := true, escCnt := incSat l.escCnt }) ∧
    (e.cls = 2 → (∃ y ∈ l.recs, y.cls = 2) → r = ({ l with ceCnt := incSat l.ceCnt }, false)) ∧
    (e.cls = 2 → (∀ y ∈ l.recs, y.cls ≠ 2) → r.2 = false ∧ kept { l with ceCnt := incSat l.ceCnt })) ∧
  (∀ (s : State) (who : Who) (a : Nat) (v : Word) (b : Block) (n : Nat), s.live = true → mayWrite who a = true →
    let old := Tbl.get s.io.logs ErrLog.init (b.logKey n)
    let only := fun (l : ErrLog) (t : State) => t = { s with io := { s.io with logs := t.io.logs } } ∧
      Tbl.get t.io.logs ErrLog.init (b.logKey n) = l ∧ ∀ k, k ≠ b.logKey n → Tbl.get t.io.logs ErrLog.init k = Tbl.get s.io.logs ErrLog.init k
    (blockAt a = some (b, n, 0xA4) → Ends (.errPop who a v) s (only (if bit v 0 then { old with recs := old.recs.tail } else old))) ∧
    (blockAt a = some (b, n, 0xA8) → Ends (.errAck who a v) s fun t => ∃ m, only { old with openCls := m } t ∧
      ∀ k, k < 8 → bitsN m k k = if bits v k k = 1 then 0 else bitsN old.openCls k k)) ∧
  (∀ (s : State) (n o size data : Nat), s.live = true → size ∈ [1, 2, 4, 8] → o + size ≤ 0x80000000 →
    let byte := fun (t : State) (k : Nat) => Tbl.get t.mem.dram 0 k
    let well := ∀ w ∈ dramWords o size, w ∉ s.mem.dramBad
    (well → Ends (.dramAccess (.core n) false o size data 0) s fun t => t = { s with io := { s.io with bus := t.io.bus } } ∧
      ∀ k, k < size → t.io.bus / 256 ^ k % 256 = (byte s (o + k)).toNat) ∧
    (well → 0x68000000 ≤ o → Ends (.dramAccess (.core n) true o size data 0) s fun t => t.io = s.io ∧ t = { s with mem := t.mem } ∧
      ∀ k, byte t k = if o ≤ k ∧ k < o + size then BitVec.ofNat 8 (data / 256 ^ (k - o)) else byte s k) ∧
    (o < 0x68000000 → Ends (.dramAccess (.core n) true o size data 0) s fun t => OnlyIo s t ∧
      Logged .drc 0 1 (.core n) (0x100000000 + o) s t) ∧
    (∀ write ecc, Ends (.dramAccess .host write o size data ecc) s fun t => OnlyIo s t ∧ t.io.bus = 0 ∧
      Logged .drc 0 1 .host (0x100000000 + o) s t) ∧
    (∀ ecc, ecc = 2 ∨ (∃ w ∈ dramWords o size, w ∈ s.mem.dramBad) →
      (Ends (.dramAccess (.core n) false o size data ecc) s fun t => OnlyIo s t ∧ t.io.bus = 0 ∧
        t.io.evts = s.io.evts ++ [⟨"ACCESS_FAULT", 0, [0x100000000 + o]⟩] ∧
        t.io.reg Reg.DRC.UE_CNT = incSat (s.io.reg Reg.DRC.UE_CNT)) ∧
      (Ends (.dramAccess .dma false o size data ecc) s fun t => OnlyIo s t ∧
        t.io.evts = s.io.evts ++ [⟨"POISON", 0, [0x100000000 + o]⟩] ∧ t.io.reg Reg.DRC.UE_CNT = incSat (s.io.reg Reg.DRC.UE_CNT)))) ∧
  (∀ (s : State) (ecc word : Nat), s.live = true →
    (s.io.flag Reg.DRC.SCRUB_CFG 31 = false → exec (.dramScrub ecc word) s = .next s) ∧
    (s.io.flag Reg.DRC.SCRUB_CFG 31 = true → ecc < 3 → Ends (.dramScrub ecc word) s fun t =>
      let u := s.mem.scrubNext % 0x2000000
      let w := u * 8 + word % 8
      t = { s with mem := { s.mem with scrubNext := (u + 1) % 0x2000000, dramBad := t.mem.dramBad }, io := t.io } ∧
      t.io.reg Reg.DRC.SCRUB_PTR = w32 u ∧ RegsBut [Reg.DRC.SCRUB_PTR, Reg.DRC.CE_CNT, Reg.DRC.UE_CNT] s t ∧
      (∀ k, k ∈ t.mem.dramBad ↔ k ∈ s.mem.dramBad ∨ (ecc = 2 ∧ k = w)) ∧
      t.io.reg Reg.DRC.CE_CNT = (if ecc = 1 then incSat (s.io.reg Reg.DRC.CE_CNT) else s.io.reg Reg.DRC.CE_CNT) ∧
      t.io.reg Reg.DRC.UE_CNT = (if ecc = 2 then incSat (s.io.reg Reg.DRC.UE_CNT) else s.io.reg Reg.DRC.UE_CNT) ∧
      (ecc = 0 → t.io.logs = s.io.logs)))

/-! Load switches and regulators (chapter 15). -/

/-- How a channel takes its duty (R599, R602, R603, R613, R619). At every command that can bring a new duty, a channel without PWM goes ON
or OFF by its duty, its latches and ALL_OFF; a PWM channel does so at its period start, once per period, and its on-time is DUTY ×
PERIOD_US / 10 000 µs to the nearest 50 ns. DUTY_WRITE, ALL_OFF, PWM_PERIOD_START, HOLD_END, GENERAL_LINK_LOSS, GENERAL_LINK_RETURN. The model's
choices in it are those of assumption log entries 170 and 174. -/
def Obligations.ChannelsFollowTheirDuty : Prop :=
  ∀ (s : State) (n : Nat), n < 24 →
    let x := chanOf s.pow n
    let io := s.io
    let duty := lswDuty s.acting s.pow io n
    let dutyA := Reg.LSW.CH_DUTY n
    let goesOn_ := fun (y : Chan) => y.st = .on ∧ y.onAt = io.now ∧ y.inrush = true ∧ y.openLoad = false ∧ y.offAt = x.offAt
    let goesOff := fun (y : Chan) => y.st = .off ∧ y.offAt = io.now ∧ y.inrush = false ∧ y.out = .low
    let keeps := fun (y : Chan) => y.th = x.th ∧ y.oc = x.oc ∧ y.retry = x.retry ∧ y.warn = x.warn ∧ y.underCur = x.underCur
    let moves := fun (d : Nat) (y : Chan) => keeps y ∧
      (x.st = .off → 0 < d → x.held = false → lswAllOff io = false → goesOn_ y) ∧
      (x.st = .off → d = 0 ∨ x.held = true ∨ lswAllOff io = true → y.st = .off) ∧
      (x.st = .on → d = 0 ∨ lswAllOff io = true → goesOff y) ∧
      (x.st = .on → 0 < d → lswAllOff io = false → y.st = .on ∧ y.onAt = x.onAt ∧ y.inrush = x.inrush) ∧
      (x.st = .retryWait ∨ x.st = .latched → y.st = x.st)
    -- R599, R619
    (s.pow.loaded = false → duty = 0) ∧
    (s.pow.loaded = true → x.hold = true → duty = x.duty) ∧
    (s.pow.loaded = true → x.hold = false → lswOwner s.acting s.pow io n = 3 → duty = io.fld (Reg.LSW.CH_DEF n) 13 0) ∧
    (s.pow.loaded = true → x.hold = false → lswOwner s.acting s.pow io n ≠ 3 → duty = io.fld dutyA 13 0) ∧
    (s.pow.down = false → x.hold = false → io.fld dutyA 31 30 ≠ 3 → lswOwner s.acting s.pow io n =
      if lswEngine io n ≠ 0 ∧ s.acting = false then 3 else lswEngine io n) ∧
    (s.pow.down = true ∨ x.hold = true → lswOwner s.acting s.pow io n = 3) ∧
    -- R603 without PWM
    (let y := chanOf s.settle.pow n
     (lswPeriod io n = 0 → moves duty y ∧ y.duty = duty ∧ y.out = if y.st = .on then .steady else .low) ∧
     (lswPeriod io n ≠ 0 → (x.st = .on → lswAllOff io = true → goesOff y) ∧ (x.st ≠ .on ∨ lswAllOff io = false → y = x))) ∧
    -- R602, R603 with PWM
    (let k := periodNum io n
     let P := lswPeriod io n
     let ph := io.fld (Reg.LSW.CH_PWM n) 15 8
     (P = 0 ∨ x.period = k → exec (.pwmPeriodStart n) s = .next s) ∧
     (P ≠ 0 → x.period ≠ k → Ends (.pwmPeriodStart n) s fun t =>
       let y := chanOf t.pow n
       t = { s with pow := t.pow } ∧ ChanIs n y s.pow t.pow ∧ moves duty y ∧ y.duty = duty ∧ y.period = k ∧
       y.out = if y.st = .on then .pulse (periodAt io n k) (onTime io n duty) else .low) ∧
     (P ≠ 0 → ph * P * 1000 ≤ 256 * io.now → periodAt io n k ≤ 256 * io.now ∧ 256 * io.now < periodAt io n k + P * 256000 ∧
       periodAt io n k % (P * 256000) = ph * P * 1000 % (P * 256000)) ∧
     (∀ d, onTime io n d % 50 = 0 ∧ d * P ≤ onTime io n d * 10 + 250 ∧ onTime io n d * 10 ≤ d * P + 250)) ∧
    -- R600, R621
    (s.live = true → ∀ c v,
      (lswOwner s.acting s.pow io n = 1 ∨ lswOwner s.acting s.pow io n = 2 → Ends (.dutyWrite (.core c) n v) s fun t =>
        OnlyIo s t ∧ t.io.regs = s.io.regs ∧ Logged .lsw 0 4 (.core c) dutyA s t) ∧
      (lswOwner s.acting s.pow io n = 0 ∨ lswOwner s.acting s.pow io n = 3 → 10000 < bits v 13 0 → Ends (.dutyWrite (.core c) n v) s fun t =>
        OnlyIo s t ∧ t.io.regs = s.io.regs ∧ Logged .lsw 0 2 (.core c) dutyA s t) ∧
      (lswOwner s.acting s.pow io n = 0 ∨ lswOwner s.acting s.pow io n = 3 → bits v 13 0 ≤ 10000 → Ends (.dutyWrite (.core c) n v) s fun t =>
        t = { s with pow := lswSettle s.acting t.io s.pow, io := { s.io with regs := t.io.regs } } ∧ RegsBut [dutyA] s t ∧
        t.io.fld dutyA 13 0 = bits v 13 0 ∧ t.io.fld dutyA 31 30 = if lswEngine io n = 0 then 0 else io.fld dutyA 31 30) ∧
      Ends (.allOff (.core c) v) s fun t => t = { s with pow := lswSettle s.acting t.io s.pow, io := { s.io with regs := t.io.regs } } ∧
        RegsBut [Reg.LSW.CTRL] s t ∧ lswAllOff t.io = bit v 0) ∧
    -- R618
    (∀ h, s.pow.held = some h → h + io.fld Reg.LSW.HOLD 11 0 * 1000000 ≤ io.now → Ends .holdEnd s fun t =>
      let y := chanOf t.pow n
      t = { s with pow := t.pow, io := { s.io with regs := t.io.regs } } ∧ t.pow.held = none ∧ y.hold = false ∧
      t.io.reg dutyA = w32 (3 * 2 ^ 30 + io.fld (Reg.LSW.CH_DEF n) 13 0) ∧ lswOwner t.acting t.pow t.io n = 3 ∧
      t.io.flag 0x40800080 6 = true ∧ y.th = x.th ∧ y.oc = x.oc ∧ y.retry = x.retry ∧
      (s.pow.loaded = true → lswPeriod io n = 0 → y.duty = io.fld (Reg.LSW.CH_DEF n) 13 0)) ∧
    (s.pow.held = none ∨ (∃ h, s.pow.held = some h ∧ io.now < h + io.fld Reg.LSW.HOLD 11 0 * 1000000) → exec .holdEnd s = .next s.settle) ∧
    -- R617, R620, R621
    (s.pow.down = false → Ends .generalLinkLoss s fun t =>
      let y := chanOf t.pow n
      t = { s with pow := t.pow, io := { s.io with regs := t.io.regs } } ∧ t.pow.down = true ∧ t.pow.held = some io.now ∧ y.hold = true ∧
      t.io.flag Reg.LSW.STAT 31 = true ∧ t.io.flag 0x40800080 7 = true ∧ t.io.fld dutyA 31 30 = 3 ∧ t.io.fld dutyA 13 0 = io.fld dutyA 13 0 ∧
      (s.pow.loaded = true → lswPeriod io n = 0 → moves x.duty y) ∧
      (lswPeriod io n ≠ 0 → lswAllOff io = false → y = { x with hold := true }) ∧ railOf t.pow = railOf s.pow) ∧
    (s.pow.down = true → exec .generalLinkLoss s = .next s.settle) ∧
    (s.pow.down = true → Ends .generalLinkReturn s fun t => t = { s with pow := t.pow, io := { s.io with regs := t.io.regs } } ∧
      t.pow.down = false ∧ t.pow.held = s.pow.held ∧ lswOwner t.acting t.pow t.io n = 3 ∧ railOf t.pow = railOf s.pow ∧
      RegsBut ((List.range 24).map fun m => Reg.LSW.CH_DUTY m) s t) ∧
    (s.pow.down = false → exec .generalLinkReturn s = .next s.settle)

/-- LSW_OVERCURRENT, INRUSH_END, RETRY_PAUSE_END, RETRY_COUNT_RESET, LSW_OVERTEMP, TH_WARN, OC_LATCH_CLEAR, TH_LATCH_CLEAR, OPEN_LOAD,
UNDER_CURRENT: the protection of a channel (R604 to R616). A trip is counted and paused or latched; a sample at 170 °C latches whatever
the state and leaves RETRY; OPEN_LOAD, UNDER_CUR and TH_WARN switch nothing. Before waiting duties take effect, no other channel and no other
block changes. The model's choices in it are those of assumption log entries 172, 173 and 179. -/
def Obligations.ChannelProtection : Prop :=
  ∀ (s : State) (n : Nat), n < 24 →
    let x := chanOf s.pow n
    let io := s.io
    let p := s.pow
    let evtA := 0x40800080
    let meas := [Reg.LSW.CH_MEAS_I n, Reg.LSW.CH_MEAS_VT n]
    let trips := fun (x : Chan) (m : ChMeas) => (⟨x.st, x.th, x.oc, if 15000 ≤ m.tj then true else if m.tj ≤ 14000 then false else x.warn,
      x.openLoad, x.underCur, x.hold, x.retry, x.duty, x.out, x.period, x.onAt, x.offAt, x.inrush, x.pauseEnd, m.tj⟩ : Chan)
    let off := fun (y : Chan) (st : ChSt) => { y with st := st, offAt := io.now, inrush := false, out := .low }
    let runs := io.now < x.onAt + io.fld (Reg.LSW.CH_CFG n) 15 8 * 1000000
    let nothing := fun (i : Instr) => exec i s = .next s.settle
    -- R604, R605, R608
    (∀ m, x.st = .on → ¬ runs →
      (17000 ≤ m.tj → Switched (.lswOvercurrent n m) s fun p' io' => ChanIs n { off (trips x m) .latched with th := true } p p' ∧
        io'.reg (Reg.LSW.CH_TRIP_CNT n) = io.reg (Reg.LSW.CH_TRIP_CNT n) ∧ (x.th = false → io'.flag evtA 2 = true) ∧ RegsKept (evtA :: meas) io io') ∧
      (m.tj < 17000 → x.retry < 15 → x.retry + 1 = io.fld (Reg.LSW.CH_CFG n) 19 16 → Switched (.lswOvercurrent n m) s fun p' io' =>
        ChanIs n { off (trips x m) .latched with retry := x.retry + 1, oc := true } p p' ∧ io'.flag evtA 0 = true ∧ io'.flag evtA 1 = true ∧
        io'.reg (Reg.LSW.CH_TRIP_CNT n) = incSat (io.reg (Reg.LSW.CH_TRIP_CNT n)) ∧ RegsKept (Reg.LSW.CH_TRIP_CNT n :: evtA :: meas) io io') ∧
      (m.tj < 17000 → x.retry < 15 → x.retry + 1 ≠ io.fld (Reg.LSW.CH_CFG n) 19 16 → Switched (.lswOvercurrent n m) s fun p' io' =>
        ChanIs n { off (trips x m) .retryWait with retry := x.retry + 1, pauseEnd := io.now + min (10000000 * 2 ^ x.retry) 2560000000 } p p' ∧
        io'.flag evtA 0 = true ∧ io'.reg (Reg.LSW.CH_TRIP_CNT n) = incSat (io.reg (Reg.LSW.CH_TRIP_CNT n)) ∧
        RegsKept (Reg.LSW.CH_TRIP_CNT n :: evtA :: meas) io io')) ∧
    (∀ m, x.st ≠ .on ∨ runs → nothing (.lswOvercurrent n m)) ∧
    (∀ m, x.st = .on → x.inrush = true → ¬ runs →
      (Switched (.inrushEnd n false m) s fun p' io' => ChanIs n { x with inrush := false } p p' ∧ io' = io) ∧
      exec (.inrushEnd n true m) s = exec (.lswOvercurrent n m) { s with pow := p.putChan n { x with inrush := false } }) ∧
    (∀ b m, x.st ≠ .on ∨ x.inrush = false ∨ runs → nothing (.inrushEnd n b m)) ∧
    (x.st = .retryWait → x.pauseEnd ≤ io.now →
      (0 < x.duty → x.held = false → lswAllOff io = false → Switched (.retryPauseEnd n) s fun p' io' => io' = io ∧
        ChanIs n { x with st := .on, onAt := io.now, inrush := true, openLoad := false, out := (chanOf p' n).out } p p') ∧
      (x.duty = 0 ∨ x.held = true ∨ lswAllOff io = true → Switched (.retryPauseEnd n) s fun p' io' => io' = io ∧ ChanIs n { x with st := .off } p p')) ∧
    (x.st ≠ .retryWait ∨ io.now < x.pauseEnd → nothing (.retryPauseEnd n)) ∧
    (x.st = .on → x.onAt + 1000000000 ≤ io.now → Switched (.retryCountReset n) s fun p' io' => io' = io ∧ ChanIs n { x with retry := 0 } p p') ∧
    (x.st ≠ .on ∨ io.now < x.onAt + 1000000000 → nothing (.retryCountReset n)) ∧
    -- R607, R612
    (∀ m i, i = .lswOvertemp n m ∨ i = .thWarn n m →
      (17000 ≤ m.tj → Switched i s fun p' io' => RegsKept (evtA :: meas) io io' ∧ (x.th = false → io'.flag evtA 2 = true) ∧
        ChanIs n { off (trips x m) .latched with th := true, offAt := if x.st = .on then io.now else x.offAt } p p') ∧
      (m.tj < 17000 → Switched i s fun p' io' => RegsKept (evtA :: meas) io io' ∧ ChanIs n (trips x m) p p' ∧
        io'.flag evtA 2 = io.flag evtA 2 ∧ (15000 ≤ m.tj → x.warn = false → io'.flag evtA 3 = true))) ∧
    -- R610, R611, R613
    (s.live = true → ∀ c,
      let free := fun (y : Chan) (p' : PowSt) =>
        if x.st = .latched ∧ y.held = false then
          (if 0 < x.duty ∧ lswAllOff io = false then
            ChanIs n { y with st := .on, onAt := io.now, offAt := io.now, inrush := true, openLoad := false, out := (chanOf p' n).out } p p'
          else ChanIs n { y with st := .off, offAt := io.now } p p')
        else ChanIs n y p p'
      (Switched (.ocLatchClear (.core c) n) s fun p' io' => io' = io ∧ free { x with oc := false, retry := 0 } p') ∧
      (x.tj ≤ 15000 → Switched (.thLatchClear (.core c) n) s fun p' io' => io' = io ∧ free { x with th := false } p') ∧
      (15000 < x.tj → x.st ≠ .latched ∨ x.held = true → Switched (.thLatchClear (.core c) n) s fun p' io' =>
        ChanIs n x p p' ∧ Logged .lsw 0 4 (.core c) (Reg.LSW.CH_STAT n) s { s with io := io' })) ∧
    -- R614, R615, R616
    (∀ above since m,
      let due := io.flag (Reg.LSW.CH_CFG n) 7 = true ∧ x.st ≠ .on ∧ x.held = false ∧ x.offAt + 5000000 ≤ since ∧ since + 10000000 ≤ io.now
      (due → Switched (.openLoad n above since m) s fun p' io' => ChanIs n { x with openLoad := above } p p' ∧ RegsKept (evtA :: meas) io io' ∧
        (above = true → x.openLoad = false → io'.flag evtA 4 = true)) ∧
      (¬ due → Switched (.openLoad n above since m) s fun p' io' => p' = p ∧ RegsKept meas io io')) ∧
    (∀ since m,
      let due := io.flag (Reg.LSW.CH_CFG n) 6 = true ∧ x.st = .on ∧ 1000 ≤ x.duty ∧ x.onAt ≤ since ∧ since + 100000000 ≤ io.now
      let below := decide (m.avg < io.fld (Reg.LSW.CH_LIM2 n) 31 16)
      (due → Switched (.underCurrent n since m) s fun p' io' => ChanIs n { x with underCur := below } p p' ∧ RegsKept (evtA :: meas) io io' ∧
        (below = true → x.underCur = false → io'.flag evtA 5 = true)) ∧
      (¬ due → Switched (.underCurrent n since m) s fun p' io' => p' = p ∧ RegsKept meas io io'))

/-- REG_ENABLE, REG_DISABLE, SOFT_START_DONE, VSET_WRITE, SLEW_DONE, SOFT_STOP_DONE, PHASE_DROP, CURRENT_LIMIT, REG_FAULT, REG_OT_WARN,
TELEMETRY_WINDOW (R624 to R640). VREF never steps while it ramps; every fault of AUX is FAULT, and one of CORE a power-on reset with its
cause in CORE_LAST. The model's choices in it are those of assumption log entries 175, 177 and 178. -/
def Obligations.RegulatorsFollowTheirCommands : Prop :=
  -- R627, R629
  (∀ (x : Rail) (now rate mV : Nat), (x.ramp now rate mV).vref now = x.vref now) ∧
  (∀ (x : Rail) (now : Nat), x.t0 ≤ now → x.vref (now + 1000) =
    if x.v0 ≤ x.target then min x.target (x.vref now + x.rate * 1000) else max x.target (x.vref now - x.rate * 1000)) ∧
  ∀ (s : State) (r : Nat), r < 2 →
    let x := railOf s.pow r
    let io := s.io
    let now := io.now
    let p := s.pow
    let evtA := 0x40810080
    let en := io.flag (rg r 0) 31
    let rails := fun (i : Instr) (y : Rail) (q : Io → Prop) => Ends i s fun t =>
      t = { s with pow := t.pow, io := t.io } ∧ RailIs r y p t.pow ∧ q t.io
    let refuses := fun (i : Instr) (code o : Nat) (c : Nat) => Ends i s fun t => t.pow = p ∧ OnlyIo s t ∧ Logged .cot 0 code (.core c) (rg r o) s t
    let vs := io.fld (rg r 4) 15 0
    let ss := io.fld (rg r 8) 31 16
    let start := fun (y : Rail) => { y.ramp now ss vs with st := .softStart, dropped := if r = 0 then [] else x.dropped, uv := false, ov := false,
                                                           cl := false }
    (s.live = true → ∀ c v vout,
      -- R624, R625, R630, R631
      (bit v 31 = true → en = false → x.st ≠ .softStop →
        rails (.regEnable (.core c) r v vout) (start { x with vout := vout, v0 := vout * 1000000, rate := 0, target := vout * 1000000 })
          (fun io' => RegsKept [rg r 0] io io' ∧ io'.flag (rg r 0) 31 = true)) ∧
      (bit v 31 = true → en = false → x.st = .softStop → rails (.regEnable (.core c) r v vout) (start { x with vout := vout })
        (fun io' => RegsKept [rg r 0] io io' ∧ io'.flag (rg r 0) 31 = true)) ∧
      (bit v 31 = true → en = true → rails (.regEnable (.core c) r v vout) { x with vout := vout } (fun io' => RegsKept [rg r 0] io io')) ∧
      (bit v 31 = false → r = 0 → en = true → x.st ≠ .off → x.st ≠ .fault →
        (bit v 30 = true → rails (.regDisable (.core c) r v) { x.ramp now ss 0 with st := .softStop }
          (fun io' => RegsKept [rg r 0] io io' ∧ io'.flag (rg r 0) 31 = false)) ∧
        (bit v 30 = false → Ends (.regDisable (.core c) r v) s fun t => t = { s with pow := t.pow, io := t.io } ∧
          (∃ V, RailIs r { x with st := .off, v0 := V, rate := 0, target := V } p t.pow) ∧ t.io.flag (rg r 0) 31 = false)) ∧
      (bit v 31 = false → r = 1 → Ends (.regDisable (.core c) r v) s fun t => t.pow = p ∧ OnlyIo s t ∧
        t.io.flag (rg r 0) 31 = en ∧ Logged .cot 0 4 (.core c) (rg r 0) s t) ∧
      -- R626, R627, R628
      (vsetOk r (bits v 15 0) = false → refuses (.vsetWrite (.core c) r v) 2 4 c) ∧
      (vsetOk r (bits v 15 0) = true →
        let q := fun (io' : Io) => RegsKept [rg r 4] io io' ∧ io'.fld (rg r 4) 15 0 = bits v 15 0
        (x.st = .regulating ∨ x.st = .slewing → rails (.vsetWrite (.core c) r v)
          { x.ramp now (io.fld (rg r 8) 15 0) (bits v 15 0) with st := .slewing } q) ∧
        (x.st = .softStart → rails (.vsetWrite (.core c) r v) (x.ramp now ss (bits v 15 0)) q) ∧
        (x.st = .softStop ∨ x.st = .off ∨ x.st = .fault → rails (.vsetWrite (.core c) r v) x q))) ∧
    (let done := fun (i : Instr) (st st' : RgSt) (e : Option Nat) (V : Nat) =>
       (x.st = st → x.vref now = V → rails i { x with st := st', v0 := V, rate := 0, target := V } (fun io' =>
         match e with
         | some k => io'.flag evtA (8 * r + k) = true ∧ RegsKept [evtA] io io'
         | none => io' = io)) ∧
       (x.st ≠ st ∨ x.vref now ≠ V → exec i s = .next s)
     done (.softStartDone r) .softStart .regulating (some 7) x.target ∧ done (.slewDone r) .slewing .regulating (some 1) x.target ∧
     done (.softStopDone r) .softStop .off none 0) ∧
    -- R634, R635: with phases enough left
    (∀ l, let caused := fun (o : PhaseObs) => (dropCause io r o).isSome = true ∧ o.phase ∈ phasesOn io r x
      ((∀ o ∈ l, ¬ caused o) → exec (.phaseDrop r l) s = .next s) ∧
      (∀ o, l = [o] → caused o → (∀ e ∈ x.dropped, e.1 ≠ o.phase) →
        let y := { x with dropped := x.dropped ++ (dropCause io r o).toList.map fun c => (o.phase, c) }
        phasesLeft io r y ≠ [] → (r = 0 → io.fld (rg 0 0x0C) 27 24 ≤ (phasesLeft io r y).length) →
        rails (.phaseDrop r l) y (fun io' => io'.flag evtA (8 * r) = true ∧ RegsKept [evtA] io io')) ∧
      (∀ o, l = [o] → r = 0 → caused o → (∀ e ∈ x.dropped, e.1 ≠ o.phase) →
        let y := { x with dropped := x.dropped ++ (dropCause io r o).toList.map fun c => (o.phase, c) }
        phasesLeft io r y = [] ∨ (phasesLeft io r y).length < io.fld (rg 0 0x0C) 27 24 → Ends (.phaseDrop r l) s fun t =>
          t = { s with pow := t.pow, io := t.io } ∧ RegsBut [evtA] s t ∧ t.io.flag evtA 0 = true ∧ t.io.flag evtA 6 = true ∧
          ∃ V, RailIs 0 { y with st := .fault, v0 := V, rate := 0, target := V, uv := false, ov := false } p t.pow)) ∧
    (∀ o, let ilim : Int := (io.fld (rg r 0x10) 31 24 : Nat) * 1000
      dropCause io r o = if o.flt then some .stage
        else if (4 * o.imon < -ilim ∨ 3 * ilim < 2 * o.imon) ∧ 8 ≤ o.cycles then some .sense
        else if 10 * o.imon < o.mean ∧ ilim ≤ 8 * o.mean ∧ 64 ≤ o.cycles then some .openPh else none) ∧
    -- R637
    (∀ cycles quiet, phasesOn io r x ≠ [] →
      (16 ≤ cycles → rails (.currentLimit r cycles quiet) { x with cl := true } (fun io' => (x.cl = false → io'.flag evtA (8 * r + 2) = true) ∧
        RegsKept [evtA] io io')) ∧
      (cycles < 16 → 1000000 ≤ quiet → rails (.currentLimit r cycles quiet) { x with cl := false } (fun io' => io' = io)) ∧
      (cycles < 16 → quiet < 1000000 → exec (.currentLimit r cycles quiet) s = .next s)) ∧
    (∀ cycles quiet, phasesOn io r x = [] → exec (.currentLimit r cycles quiet) s = .next s) ∧
    -- R638
    (∀ c, x.st ≠ .off → x.st ≠ .fault →
      let v := x.vref now
      let left := (phasesLeft io r x).length
      let lim := io.reg (rg r 0x10)
      let met : Option Nat := match c with
        | .ovr mV ns => if v * (100 + bits lim 23 16) < mV * 100000000 ∧ 2000 ≤ ns then some 1 else none
        | .under mV ns => if mV * 100000000 < v * (100 - bits lim 15 8) ∧ bits lim 7 0 * 1000000 ≤ ns then some 2 else none
        | .phases => if left = 0 then some 3 else if r = 0 ∧ left < io.fld (rg 0 0x0C) 27 24 then some 0 else none
        | .temp t => if 15000 ≤ t then some 4 else none
        | .vin mV ns => if r = 0 ∧ mV < 36000 ∧ 1000000 ≤ ns then some 0 else none
      (met = none → exec (.regFault r c) s = .next s) ∧
      (r = 0 → met ≠ none → Ends (.regFault r c) s fun t => t = { s with pow := t.pow, io := t.io } ∧
        (∃ V, RailIs 0 { x with st := .fault, v0 := V, rate := 0, target := V, uv := decide (met = some 2), ov := decide (met = some 1) } p t.pow) ∧
        RegsBut [evtA] s t ∧ t.io.flag evtA 6 = true ∧ (met = some 1 → t.io.flag evtA 4 = true) ∧ (met = some 2 → t.io.flag evtA 3 = true)) ∧
      (r = 1 → ∀ k, met = some k → ∃ io', exec (.regFault r c) s = .next (State.doReset .por .porCore { s with io := io' }) ∧
        io'.reg Reg.COT.CORE_LAST = w32 (k * 2 ^ 24 + maskOf (phasesOn io 1 x) * 2 ^ 16) ∧ RegsKept [evtA, Reg.COT.CORE_LAST] io io')) ∧
    (∀ c, x.st = .off ∨ x.st = .fault → exec (.regFault r c) s = .next s) ∧
    (∀ t, (t < 12500 → exec (.regOtWarn r t) s = .next s) ∧
      (12500 ≤ t → t < 15000 → rails (.regOtWarn r t) x (fun io' => io'.flag evtA (8 * r + 5) = true ∧ RegsKept [evtA] io io'))) ∧
    -- R640
    (∀ m, let win := now / (2 ^ io.fld (rg r 0x0C) 7 4 * 1000000) + 1
      (x.win = win → exec (.telemetryWindow r m) s = .next s) ∧
      (x.win ≠ win → rails (.telemetryWindow r m) { x with win := win, vout := m.v } fun io' =>
        io'.reg (rg r 0x20) = w32 m.v ∧ io'.reg (rg r 0x28) = wS m.i ∧ io'.reg (rg r 0x30) = wS m.p ∧ io'.reg (rg r 0x40) = w32 m.vin ∧
        io'.reg (rg r 0x38) = w32 (unS 16 m.t) ∧
        (∀ o v, (o = 0x24 ∧ v = (m.vPk : Int)) ∨ (o = 0x2C ∧ v = m.iPk) ∨ (o = 0x34 ∧ v = m.pPk) →
          io'.reg (rg r o) = if sW (io.reg (rg r o)) < v then wS v else io.reg (rg r o)) ∧
        io'.reg (rg r 0x3C) = (if sxt 16 (io.fld (rg r 0x3C) 15 0) < m.tPk then w32 (unS 16 m.tPk) else io.reg (rg r 0x3C)) ∧
        (∀ k, k < 6 → io'.reg (rg r (0x44 + 4 * k)) = if k < io.fld (rg r 0x0C) 31 28 then wS ((m.ph[k]?).getD 0) else 0) ∧
        ∀ a, (∀ k, k < 15 → a ≠ rg r (0x20 + 4 * k)) → io'.reg a = io.reg a))

/-! Boot, clocks and domains (chapter 16). -/

/-- WARM_RESET, POWER_ON_RESET, SW_WARM_RESET, SW_POWER_ON_RESET, WDT_EXPIRY, PLL_LOCK_LOSS: what each reset kind keeps and clears
(R666, R667). Every register by its reset domain; the queues and logs of the domains reset are empty; the scratchpad and the DRAM outlive
only a warm reset; fuses, legal registers and the holders' leases are kept; the safety outputs open; the load switches hold (R617), or,
after a power-on reset, are as new. One bit of RST_CAUSE per reset. The model's choices in it are those of assumption log entries 20, 143, 148 and
194. -/
def Obligations.ResetsKeepAndClear : Prop :=
  (∀ (k : RKind) (c : RstCause) (s : State),
    let t := State.doReset k c s
    t.io.flag Reg.SYS.RST_CAUSE c.bit = true ∧
    (∀ i, i < 32 → i ≠ c.bit → bit (t.io.reg Reg.SYS.RST_CAUSE) i = bit (s.io.reg Reg.SYS.RST_CAUSE) i) ∧
    (∀ a b n o d, blockAt a = some (b, n, o) → regDesc a = some d → a ≠ Reg.SYS.RST_CAUSE → a ≠ Reg.MIR.STAT → b ≠ .lsw →
      (d.dom = .ao ∨ (d.dom = .po ∧ k ≠ .por) ∨ (d.dom = .wr ∧ k = .wake ∧ (b = .mtr ∨ b = .cot)) → t.io.reg a = s.io.reg a) ∧
      ((d.dom = .po ∧ k = .por) ∨ (d.dom = .wr ∧ (k ≠ .wake ∨ (b ≠ .mtr ∧ b ≠ .cot))) → t.io.reg a = d.resetWord)) ∧
    (∀ q, t.io.queue q = Queue.init) ∧
    (∀ (b : Block) (n : Nat), b ≠ .aon → k ≠ .wake → Tbl.get t.io.logs ErrLog.init (b.logKey n) = ErrLog.init) ∧
    t.now = 0 ∧ t.pending = s.pending ∧ t.mem.flash = s.mem.flash ∧ t.mem.flOp = none ∧
    (k = .warm → t.mem.spm = s.mem.spm ∧ t.mem.dram = s.mem.dram ∧ t.mem.dramBad = s.mem.dramBad) ∧
    (k ≠ .warm → t.mem.spm = [] ∧ t.mem.dram = [] ∧ t.mem.dramBad = []) ∧
    t.hlm = { s.hlm with keysLost := false, svnPend := [], sram := [], rngBad := none } ∧
    t.mtr.ledger = s.mtr.ledger ∧ t.mtr.sealCnt = s.mtr.sealCnt ∧ (k ≠ .wake → t.mtr.running = false) ∧
    (k = .wake → t.mtr.running = s.mtr.running) ∧
    t.lease.holders = s.lease.holders ∧ t.lease.chain = [] ∧ t.gnt.die = 0 ∧ t.mir.own = false ∧ t.mir.hb = false ∧ t.sess.disp = [] ∧
    t.boot.committed = false ∧ t.boot.quiet = false ∧ t.boot.rtc = s.boot.rtc ∧ t.boot.held = s.boot.held ∧
    (k = .por → t.pow = PowSt.init) ∧
    (k ≠ .por → ∀ n, n < 24 → let x := chanOf s.pow n
      let y := chanOf t.pow n
      y.st = x.st ∧ y.th = x.th ∧ y.oc = x.oc ∧ y.retry = x.retry ∧ y.duty = x.duty ∧ y.out = x.out ∧ (k = .warm → y.hold = true)) ∧
    (k ≠ .por → ∀ r, r < 2 → (railOf t.pow r).st = (railOf s.pow r).st ∧ (railOf t.pow r).v0 = (railOf s.pow r).vref s.now ∧
      (railOf t.pow r).target = (railOf s.pow r).target ∧ (railOf t.pow r).dropped = (railOf s.pow r).dropped)) ∧
  (∀ s : State,
    exec .powerOnReset s = .next (State.doReset .por .porSupply s) ∧
    (∀ c, c ∈ [RstCause.warmSw, .warmWdt, .warmPll, .warmLc, .warmTamper, .imageRej] → exec (.warmReset c) s = .next (State.doReset .warm c s)) ∧
    (∀ c, c ∈ [RstCause.porSupply, .porCore, .porSw, .quietWake] → exec (.warmReset c) s = .next s) ∧
    (s.live = true → ∀ n, exec (.swWarmReset (.core n)) s = .next (State.doReset .warm .warmSw s)) ∧
    (s.sepia = true → exec (.swWarmReset .sepia) s = .next (State.doReset .warm .warmSw s) ∧
      exec (.swPowerOnReset .sepia) s = .next (State.doReset .por .porSw s)) ∧
    (s.live = true → ∀ n, Ends (.swPowerOnReset (.core n)) s fun t => OnlyIo s t ∧ t.io.regs = s.io.regs ∧
      Logged .sys 0 2 (.core n) Reg.SYS.RST_CTL s t) ∧
    (s.live = true → s.io.flag Reg.SYS.WDT_CTL 31 = true → s.boot.kick + s.io.fld Reg.SYS.WDT_CTL 15 0 * 1000000 ≤ s.now →
      exec .wdtExpiry s = .next (State.doReset .warm .warmWdt s)) ∧
    (s.io.flag Reg.SYS.WDT_CTL 31 = false ∨ s.now < s.boot.kick + s.io.fld Reg.SYS.WDT_CTL 15 0 * 1000000 → exec .wdtExpiry s = .next s) ∧
    (s.boot.held = false → Ends .pllLockLoss s fun t =>
      t = { State.doReset .warm .warmPll s with boot := { (State.doReset .warm .warmPll s).boot with held := true } } ∧ t.live = false) ∧
    (s.boot.held = true → exec .pllLockLoss s = .next s))

/-- SUPPLY_SUPERVISOR_RESET, PLL_LOCK, WDT_KICK, WDT_WARN, QUIET_ENTER, QUIET_WAKE_RTC, QUIET_WAKE_PIN, QUIET_WAKE_NOW. The supervisor holds
the part in power-on reset while a supply is out of range and for 10 ms after (R678); the quiet state is entered only while no lease is
live and no session is on (R662), and left by one of three sources, which WAKE_SRC names (R664). The model's choices in it are those of assumption
log entries 17, 194, 195 and 196. -/
def Obligations.SuppliesWatchdogQuietState : Prop :=
  ∀ (s : State),
    -- R678
    (∀ v, let low := ((State.comparators v).filter fun c => c.2.1 || (s.boot.low.contains c.1 && !c.2.2)).map Prod.fst
      (low ≠ [] → s.boot.super = false → Ends (.supplySupervisorReset v) s fun t => let u := State.doReset .por .porSupply s
        t = { u with boot := { u.boot with low := low, super := true, held := true } } ∧ t.live = false) ∧
      (low ≠ [] → s.boot.super = true → exec (.supplySupervisorReset v) s = .next { s with boot := { s.boot with low := low, held := true } }) ∧
      (low = [] → s.boot.super = true → s.boot.low ≠ [] →
        exec (.supplySupervisorReset v) s = .next { s with boot := { s.boot with low := [], clearAt := s.boot.rtc } }) ∧
      (low = [] → s.boot.super = true → s.boot.low = [] → s.boot.clearAt + 10000000 ≤ s.boot.rtc →
        exec (.supplySupervisorReset v) s = .next { s with boot := { s.boot with super := false } }) ∧
      (low = [] → s.boot.super = false ∨ (s.boot.low = [] ∧ s.boot.rtc < s.boot.clearAt + 10000000) →
        exec (.supplySupervisorReset v) s = .next s) ∧
      (∀ k, k ∈ low ↔ (k = 0 ∧ (v.vhv < 33000 ∨ (0 ∈ s.boot.low ∧ v.vhv ≤ 39000))) ∨ (k = 1 ∧ (v.core < 690 ∨ (1 ∈ s.boot.low ∧ v.core ≤ 710))) ∨
        (k = 2 ∧ (v.vdd18 < 1620 ∨ (2 ∈ s.boot.low ∧ v.vdd18 ≤ 1660))) ∨ (k = 3 ∧ (v.vdd1 < 1620 ∨ (3 ∈ s.boot.low ∧ v.vdd1 ≤ 1660))) ∨
        (k = 4 ∧ (v.vdd33 < 2950 ∨ (4 ∈ s.boot.low ∧ v.vdd33 ≤ 3050))) ∨ (k = 5 ∧ (v.vdd2h < 960 ∨ (5 ∈ s.boot.low ∧ v.vdd2h ≤ 990))) ∨
        (k = 6 ∧ (v.vddq < 440 ∨ (6 ∈ s.boot.low ∧ v.vddq ≤ 460))) ∨ (k = 7 ∧ (10000 ≤ v.porstLow ∨ (7 ∈ s.boot.low ∧ v.porstLow ≠ 0))))) ∧
    -- R657, R659
    (s.boot.super = false → Ends .pllLock s fun t => t = { s with io := { s.io with regs := t.io.regs }, boot := { s.boot with held := false } } ∧
      RegsBut [Reg.SYS.CLK_STAT] s t ∧ t.io.fld Reg.SYS.CLK_STAT 4 0 = 31) ∧
    (s.boot.super = true → exec .pllLock s = .next s) ∧
    -- the watchdog
    (s.live = true → ∀ n v,
      (v = 0x5A5AA5A5 → exec (.wdtKick (.core n) v) s = .next { s with boot := { s.boot with kick := s.now, warned := false } }) ∧
      (v ≠ 0x5A5AA5A5 → Ends (.wdtKick (.core n) v) s fun t => OnlyIo s t ∧ t.io.regs = s.io.regs ∧
        Logged .sys 0 2 (.core n) Reg.SYS.WDT_KICK s t)) ∧
    (let due := s.live = true ∧ s.io.flag Reg.SYS.WDT_CTL 31 = true ∧ s.boot.warned = false ∧
        2 * s.boot.kick + s.io.fld Reg.SYS.WDT_CTL 15 0 * 1000000 ≤ 2 * s.now
     (due → Ends .wdtWarn s fun t => t = { s with io := { s.io with regs := t.io.regs }, boot := { s.boot with warned := true } } ∧
       RegsBut [0x40000080] s t ∧ t.io.flag 0x40000080 0 = true) ∧
     (¬ due → exec .wdtWarn s = .next s)) ∧
    -- R662, R663
    (s.live = true → ∀ n,
      (liveNum s.lease s.now = 0 → sessNum s.sess = 0 → Ends (.quietEnter (.core n)) s fun t =>
        t = { s with io := t.io, mir := { s.mir with own := false, hb := false }, gnt := { s.gnt with die := 0 }, pow := t.pow, sess := t.sess,
                     boot := { s.boot with quiet := true } } ∧
        t.live = false ∧ t.sepia = true ∧ t.io.reg Reg.SYS.PD_STAT = 0x205 ∧ RegsBut [Reg.SYS.PD_STAT] s t ∧
        (s.mir.own = true → t.io.evts = s.io.evts ++ [⟨"ROLE_N", s.io.ownId, [1]⟩]) ∧
        (∀ m, m < 24 → s.pow.loaded = true → lswPeriod s.io m = 0 → (chanOf s.pow m).hold = false → lswEngine s.io m ≠ 0 →
          (chanOf t.pow m).duty = s.io.fld (Reg.LSW.CH_DEF m) 13 0)) ∧
      (liveNum s.lease s.now ≠ 0 ∨ sessNum s.sess ≠ 0 → Ends (.quietEnter (.core n)) s fun t => OnlyIo s t ∧ RegsBut [0x40000080] s t ∧
        t.io.flag 0x40000080 2 = true ∧ Logged .aon 0 4 (.core n) Reg.AON.QUIET s t)) ∧
    -- R664, R665
    (let woken := fun (src : Nat) (t : State) => t.boot.quiet = false ∧ t.boot.chosen = true ∧ t.boot.base = s.boot.base ∧ t.boot.len = s.boot.len ∧
       t.io.fld Reg.AON.WAKE_SRC 1 0 = src ∧ t.io.flag Reg.SYS.RST_CAUSE 8 = true ∧ t.io.flag 0x40F00080 0 = true ∧
       t.io.fld Reg.SYS.BOOT_STAT 31 28 = 1 ∧ t.mem.spm = [] ∧ t.mem.dram = [] ∧ t.hlm.sram = [] ∧ t.mtr.running = s.mtr.running ∧
       t.mtr.ledger = s.mtr.ledger
     let reached := s.io.fld Reg.AON.WAKE_HI 15 0 * 2 ^ 32 + (s.io.reg Reg.AON.WAKE_LO).toNat ≤ s.rtcCount
     (s.boot.quiet = true → s.hlm.pend = false →
       (reached → Ends .quietWakeRtc s (woken 1)) ∧
       (∀ t, 1000000 ≤ t → Ends (.quietWakePin t) s (woken 2)) ∧
       (s.sepia = true → Ends (.quietWakeNow .sepia) s (woken 3))) ∧
     (s.boot.quiet = false ∨ ¬ reached → exec .quietWakeRtc s = .next s) ∧
     (∀ t, s.boot.quiet = false ∨ t < 1000000 → exec (.quietWakePin t) s = .next s) ∧
     (s.live = true → ∀ n, Ends (.quietWakeNow (.core n)) s fun t => OnlyIo s t ∧ t.io.regs = s.io.regs ∧
       Logged .aon 0 1 (.core n) Reg.AON.QUIET s t))

/-- BOOT_ROM, BOOT_RESCAN, TRUSTED_BOOT, XSPI_EXT_N. The boot ROM tries the images of the flash in descending IMAGE_SEQ (R644, R645); nothing
of an image starts unless its sections pass the checks of R655, whatever the flash holds; a rejected image is listed in BOOT_BAD and the part
resets warm (R656). The model's choices in it are those of assumption log entries 180, 181, 184, 189 and 192. -/
def Obligations.OnlyCheckedImagesStart : Prop :=
  -- R644
  (∀ (flash : Tbl Byte) (bad : List Nat), let l := trialOrder (candidates flash bad)
    l.Pairwise (fun x y => y.2 ≤ x.2) ∧
    ∀ base seq, (base, seq) ∈ l ↔ ∃ i, i < 64 ∧ base = i * 0x100000 ∧
      let h := memRead flash 0xFF base 32
      u32 h 0 = 0x4E425947 ∧ u16 h 4 = 1 ∧ 7 ≤ u16 h 6 ∧ u16 h 6 ≤ 32 ∧ seq = u32 h 8 ∧ seq ≠ 0 ∧ u32 h 12 % 8 = 0 ∧ zeroRun h 24 8 = true ∧
      base + u32 h 12 ≤ 64 * 0x100000 ∧ seq ∉ bad) ∧
  ∀ (s : State), s.live = true →
    let phase := fun (t : State) => t.io.fld Reg.SYS.BOOT_STAT 31 28
    let rejected := fun (seq : Nat) (t : State) => t.boot.chosen = false ∧ phase t = 0 ∧ t.io.flag Reg.SYS.RST_CAUSE 9 = true ∧
      t.io.flag 0x40000080 3 = true ∧ w32 seq ∈ (List.range 4).map (fun i => t.io.reg (Reg.AON.BOOT_BAD i))
    let passes := fun (x : Sect) (id : Nat) (len : Nat) => x.layout len = none ∧ x.id = id ∧ bitsN s.hlm.prog x.owner x.owner = 1 ∧
      bitsN s.hlm.revoked x.owner x.owner = 0 ∧ hash32 x.pub = Tbl.get s.hlm.owners [] x.owner
    -- BOOT_ROM
    (∀ sigOk, s.boot.chosen = true ∨ s.boot.rescan ≠ none ∨ phase s ≠ 0 → exec (.bootRom sigOk) s = .next s) ∧
    (s.boot.chosen = false → s.boot.rescan = none → phase s = 0 → s.hlm.wipeDone = true → s.hlm.pend = false → ∀ sigOk,
      let l := trialOrder (candidates s.mem.flash s.bootBad)
      (s.mem.extN = true ∨ l = [] → Ends (.bootRom sigOk) s fun t => t.boot.chosen = false ∧ t.io = s.io ∧
        t = { s with hlm := { s.hlm with sram := [] }, boot := t.boot } ∧
        t.boot.rescan = if s.mem.extN then none else some (s.boot.rtc + 10000000000)) ∧
      (s.mem.extN = false → ∀ base seq r, l = (base, seq) :: r → s.io.reg Reg.AON.BOOT_SEQ ≠ w32 seq ∨ s.io.fld Reg.AON.BOOT_TRY 1 0 < 3 →
        let len := s.imageLen base
        let id := s.imageId base
        let tries := fun (t : State) => t.io.reg Reg.AON.BOOT_SEQ = w32 seq ∧ t.io.fld Reg.AON.BOOT_TRY 1 0 =
          if s.io.reg Reg.AON.BOOT_SEQ = w32 seq then s.io.fld Reg.AON.BOOT_TRY 1 0 + 1 else 1
        let good := fun (x : Sect) => passes x id len ∧ s.hlm.svnT ≤ x.svn ∧ sigOk = true ∧ 16 ≤ x.body.length ∧
          x.body.length = 16 + u32 x.body 0 + u32 x.body 4 ∧ u32 x.body 0 ≤ 786432 ∧ u32 x.body 4 ≤ 262144
        let trusted := fun (d : List (Nat × Nat)) (e : Nat × Nat) => directory s.mem.flash base = some d ∧ d.find? (fun e => e.1 == 1) = some e
        ((∃ d e, trusted d e ∧ good (sectAt s.mem.flash base len e)) → Ends (.bootRom sigOk) s fun t => tries t ∧ phase t = 1 ∧
          t.boot.chosen = true ∧ t.boot.base = base ∧ t.boot.len = len ∧ t.io.fld Reg.SYS.BOOT_STAT 21 16 = base / 0x100000) ∧
        ((∀ d e, trusted d e → ¬ good (sectAt s.mem.flash base len e)) → Ends (.bootRom sigOk) s fun t => tries t ∧
          rejected seq t ∧ t.io.fld Reg.CFG.REJ 31 24 ∈ [1, 2, 3, 4, 5, 6])) ∧
      (s.mem.extN = false → ∀ base seq, l = [(base, seq)] → s.io.reg Reg.AON.BOOT_SEQ = w32 seq → s.io.fld Reg.AON.BOOT_TRY 1 0 = 3 →
        Ends (.bootRom sigOk) s fun t => t.boot.chosen = false ∧ phase t = 0 ∧ t.boot.rescan = some (s.boot.rtc + 10000000000) ∧
          w32 seq ∈ (List.range 4).map fun i => t.io.reg (Reg.AON.BOOT_BAD i))) ∧
    -- R647
    (∀ d, s.boot.rescan = some d → d ≤ s.boot.rtc → Ends .bootRescan s fun t => t.boot = { s.boot with rescan := none } ∧
      (∀ i, i < 4 → t.io.reg (Reg.AON.BOOT_BAD i) = 0) ∧ RegsBut ((List.range 4).map fun i => Reg.AON.BOOT_BAD i) s t) ∧
    (s.boot.rescan = none ∨ (∃ d, s.boot.rescan = some d ∧ s.boot.rtc < d) → exec .bootRescan s = .next s) ∧
    -- TRUSTED_BOOT
    (∀ ev, s.boot.chosen = false ∨ s.mem.extN = true → exec (.trustedBoot ev) s = .next s) ∧
    (∀ ev, s.boot.chosen = true → s.mem.extN = false →
      let base := s.boot.base
      let len := s.boot.len
      let seq := s.imageSeq base
      (∀ t, exec (.trustedBoot ev) s = .next t → phase t = 3 → ∃ d, directory s.mem.flash base = some d ∧
        let xs := d.map (sectAt s.mem.flash base len)
        (∀ x ∈ xs, x.layout len = none ∧ tagKnown x.dir = true) ∧ (xs.map Sect.dir).Nodup ∧ (∀ g ∈ tagsRequired, g ∈ xs.map Sect.dir) ∧
        xs.Pairwise (fun x y => x.stop ≤ y.start ∨ y.stop ≤ x.start) ∧
        (∀ x ∈ xs, x.dir ≠ 1 → passes x (s.imageId base) len ∧ x.dir ∉ ev.badSig ∧
          (if x.dir = 3 then s.hlm.svnU else s.hlm.svnC) ≤ x.svn) ∧
        t.io.reg Reg.CFG.IMG_SEQ = w32 seq ∧ t.boot.chosen = false ∧
        ∀ x ∈ xs, x.dir = 0x10 → modelFits (tblOf x.body) = true ∧ modelCode (tblOf x.body) = 0) ∧
      (∀ u r, State.loadImage ev base len seq s = (u, some r) → w32 seq ≠ 0 → Ends (.trustedBoot ev) s fun t => rejected seq t ∧
        t.io.fld Reg.CFG.REJ 31 24 = r.code % 256) ∧
      (∀ u, State.loadImage ev base len seq s = (u, none) → exec (.trustedBoot ev) s = .next u)) ∧
    (∀ low, exec (.xspiExtN low) s = .next { s with mem := { s.mem with extN := low } })

/-- FLASH_READ, FLASH_PROGRAM, FLASH_ERASE_4K, FLASH_ERASE_64K, FLASH_DONE. A command begins an operation (BUSY) unless one runs or it
would change the running image (R648); its end does it: a page is read into the buffer, programmed (bits only clear) or erased, and no
other byte of the flash changes (R642). The model's choices in it are those of assumption log entries 7 and 193. -/
def Obligations.FlashCommands : Prop :=
  ∀ (s : State), s.live = true →
    let a := s.io.fld Reg.CFG.FL_ADDR 25 0
    let byte := fun (t : State) (k : Nat) => Tbl.get t.mem.flash 0xFF k
    let image := fun (lo n : Nat) => lo < s.boot.base + s.boot.len ∧ s.boot.base < lo + n
    (∀ (n op : Nat) (i : Instr), (i = .flashRead (.core n) ∧ op = 1) ∨ (i = .flashProgram (.core n) ∧ op = 2) ∨
        (i = .flashErase4k (.core n) ∧ op = 3) ∨ (i = .flashErase64k (.core n) ∧ op = 4) →
      let sz := if op ≤ 2 then 256 else if op = 3 then 0x1000 else 0x10000
      let stops := s.mem.flOp.isSome = true ∨ (2 ≤ op ∧ image (a / sz * sz) sz)
      (¬ stops → Ends i s fun t => t = { s with mem := { s.mem with flOp := some ⟨op, a⟩ }, io := { s.io with regs := t.io.regs } } ∧
        RegsBut [Reg.CFG.FL_STAT] s t ∧ t.io.flag Reg.CFG.FL_STAT 31 = true) ∧
      (stops → Ends i s fun t => OnlyIo s t ∧ t.io.regs = s.io.regs ∧ Logged .cfg 0 4 (.core n) Reg.CFG.FL_CMD s t)) ∧
    (s.mem.flOp = none → ∀ err, exec (.flashDone err) s = .next s) ∧
    (∀ op ad, s.mem.flOp = some ⟨op, ad⟩ → 1 ≤ op → op ≤ 4 →
      let sz := if op ≤ 2 then 256 else if op = 3 then 0x1000 else 0x10000
      let lo := ad / sz * sz
      let ended := fun (err : Bool) (t : State) => t = { s with mem := { s.mem with flash := t.mem.flash, flOp := none }, io := t.io } ∧
        t.io.flag Reg.CFG.FL_STAT 31 = false ∧ t.io.flag Reg.CFG.FL_STAT 30 = err ∧ t.io.flag 0x40010080 0 = true
      (s.mem.extN = true → ∀ err, Ends (.flashDone err) s fun t => ended true t ∧ t.mem.flash = s.mem.flash) ∧
      (s.mem.extN = false →
        (op = 1 → Ends (.flashDone false) s fun t => ended false t ∧ t.mem.flash = s.mem.flash ∧
          ∀ i j, i < 64 → j < 4 → bits (t.io.reg (Reg.CFG.FL_DATA i)) (8 * j + 7) (8 * j) = (byte s ((ad + 4 * i + j) % 0x4000000)).toNat) ∧
        (op = 2 → Ends (.flashDone false) s fun t => ended false t ∧
          ∀ k, byte t k = if lo ≤ k ∧ k < lo + 256 then
            byte s k &&& BitVec.ofNat 8 ((s.io.reg (Reg.CFG.FL_DATA ((k - lo) / 4))).toNat / 256 ^ ((k - lo) % 4)) else byte s k) ∧
        (2 < op → Ends (.flashDone false) s fun t => ended false t ∧
          ∀ k, byte t k = if lo ≤ k ∧ k < lo + sz then 0xFF else byte s k) ∧
        (op = 1 → Ends (.flashDone true) s fun t => ended true t ∧ t.mem.flash = s.mem.flash) ∧
        (2 ≤ op → Ends (.flashDone true) s fun t => ended true t ∧ ∀ k, k < lo ∨ lo + sz ≤ k → byte t k = byte s k)))
end

