-- ==== Sys2Proof/Laws/Bits.lean ====
section
/-! SUPPORT. Sys2Proof/Laws/Bits.lean: a field read after a field is written. -/
namespace Sys2Proof.Machine

theorem split_field (n lo k : Nat) : n = n / 2 ^ (lo + k) * 2 ^ (lo + k) + n / 2 ^ lo % 2 ^ k * 2 ^ lo + n % 2 ^ lo := by
  have h1 := Nat.div_add_mod n (2 ^ (lo + k))
  have h2 : n % 2 ^ (lo + k) = n % 2 ^ lo + 2 ^ lo * (n / 2 ^ lo % 2 ^ k) := by rw [Nat.pow_add, Nat.mod_mul]
  rw [h2, Nat.mul_comm (2 ^ (lo + k)), Nat.mul_comm (2 ^ lo)] at h1
  omega

theorem field_lt {a x b lo k m : Nat} (ha : a < 2 ^ m) (hx : x < 2 ^ k) (hb : b < 2 ^ lo) :
    a * 2 ^ (lo + k) + x * 2 ^ lo + b < 2 ^ (lo + k + m) := by
  have h1 : x * 2 ^ lo + 2 ^ lo ≤ 2 ^ (lo + k) := by
    have : (x + 1) * 2 ^ lo ≤ 2 ^ k * 2 ^ lo := Nat.mul_le_mul_right _ hx
    rw [Nat.pow_add, Nat.mul_comm (2 ^ lo)]
    rw [Nat.add_mul, Nat.one_mul] at this
    exact this
  have h2 : (a + 1) * 2 ^ (lo + k) ≤ 2 ^ m * 2 ^ (lo + k) := Nat.mul_le_mul_right _ ha
  rw [Nat.add_mul, Nat.one_mul] at h2
  rw [Nat.pow_add 2 (lo + k) m, Nat.mul_comm (2 ^ (lo + k)) (2 ^ m)]
  omega

/-- The number that a register holds once a field is written: the bits above, the field, the bits below. -/
theorem setBits_toNat {w : Word} {hi lo v : Nat} (h1 : lo ≤ hi) (h2 : hi < 32) :
    (setBits w hi lo v).toNat
      = w.toNat / 2 ^ (hi + 1) * 2 ^ (hi + 1) + v % 2 ^ (hi - lo + 1) * 2 ^ lo + w.toNat % 2 ^ lo := by
  have hk : hi + 1 = lo + (hi - lo + 1) := by omega
  have hs := split_field w.toNat lo (hi - lo + 1)
  have ha : w.toNat / 2 ^ (hi + 1) < 2 ^ (31 - hi) := by
    apply Nat.div_lt_of_lt_mul
    rw [← Nat.pow_add, show hi + 1 + (31 - hi) = 32 by omega]
    exact w.isLt
  have hlt := field_lt (lo := lo) (k := hi - lo + 1) ha (Nat.mod_lt v (Nat.two_pow_pos (hi - lo + 1)))
    (Nat.mod_lt w.toNat (Nat.two_pow_pos lo))
  rw [← hk, show hi + 1 + (31 - hi) = 32 by omega] at hlt
  rw [← hk] at hs
  unfold setBits bits bitsN
  rw [BitVec.toNat_ofNat]
  have e : w.toNat - w.toNat / 2 ^ lo % 2 ^ (hi - lo + 1) * 2 ^ lo + v % 2 ^ (hi - lo + 1) * 2 ^ lo
      = w.toNat / 2 ^ (hi + 1) * 2 ^ (hi + 1) + v % 2 ^ (hi - lo + 1) * 2 ^ lo + w.toNat % 2 ^ lo := by omega
  rw [e]
  exact Nat.mod_eq_of_lt hlt

/-- A field reads as written. -/
theorem bits_setBits_self {w : Word} {hi lo v : Nat} (h1 : lo ≤ hi) (h2 : hi < 32) :
    bits (setBits w hi lo v) hi lo = v % 2 ^ (hi - lo + 1) := by
  have hk : hi + 1 = lo + (hi - lo + 1) := by omega
  unfold bits bitsN
  rw [setBits_toNat h1 h2, hk, Nat.pow_add, ← Nat.mul_assoc, Nat.mul_right_comm, ← Nat.add_mul,
    Nat.mul_comm _ (2 ^ lo), Nat.mul_add_div (Nat.two_pow_pos lo), Nat.div_eq_of_lt (Nat.mod_lt _ (Nat.two_pow_pos lo)), Nat.add_zero,
    Nat.add_comm, Nat.add_mul_mod_self_right]
  exact Nat.mod_mod _ _

/-- Fields below a written field read as before. -/
theorem bits_setBits_below {w : Word} {hi lo v h l : Nat} (h1 : lo ≤ hi) (h2 : hi < 32) (hl : l ≤ h) (hlt : h < lo) :
    bits (setBits w hi lo v) h l = bits w h l := by
  have key : ∀ n : Nat, n / 2 ^ l % 2 ^ (h - l + 1) = n % 2 ^ lo / 2 ^ l % 2 ^ (h - l + 1) := by
    intro n
    have e : (2 : Nat) ^ lo = 2 ^ l * 2 ^ (lo - l) := by rw [← Nat.pow_add, show l + (lo - l) = lo by omega]
    rw [e, Nat.mod_mul_right_div_self]
    have d : 2 ^ (h - l + 1) ∣ 2 ^ (lo - l) := Nat.pow_dvd_pow 2 (by omega)
    exact (Nat.mod_mod_of_dvd _ d).symm
  unfold bits bitsN
  rw [key, key w.toNat, setBits_toNat h1 h2]
  have hk : hi + 1 = lo + (hi - lo + 1) := by omega
  have e : (w.toNat / 2 ^ (hi + 1) * 2 ^ (hi + 1) + v % 2 ^ (hi - lo + 1) * 2 ^ lo + w.toNat % 2 ^ lo) % 2 ^ lo = w.toNat % 2 ^ lo := by
    rw [hk, Nat.pow_add, ← Nat.mul_assoc, Nat.mul_right_comm, ← Nat.add_mul, Nat.add_comm, Nat.add_mul_mod_self_right, Nat.mod_mod]
  rw [e]

/-- Fields above a written field read as before. -/
theorem bits_setBits_above {w : Word} {hi lo v h l : Nat} (h1 : lo ≤ hi) (h2 : hi < 32) (hlt : hi < l) :
    bits (setBits w hi lo v) h l = bits w h l := by
  have key : ∀ n : Nat, n / 2 ^ l = n / 2 ^ (hi + 1) / 2 ^ (l - (hi + 1)) := by
    intro n
    rw [Nat.div_div_eq_div_mul, ← Nat.pow_add, show hi + 1 + (l - (hi + 1)) = l by omega]
  have hk : hi + 1 = lo + (hi - lo + 1) := by omega
  have hlt2 : v % 2 ^ (hi - lo + 1) * 2 ^ lo + w.toNat % 2 ^ lo < 2 ^ (hi + 1) := by
    have := field_lt (a := 0) (m := 0) (lo := lo) (k := hi - lo + 1) (by decide) (Nat.mod_lt v (Nat.two_pow_pos (hi - lo + 1)))
      (Nat.mod_lt w.toNat (Nat.two_pow_pos lo))
    rw [← hk, Nat.add_zero, Nat.zero_mul, Nat.zero_add] at this
    exact this
  unfold bits bitsN
  rw [key, key w.toNat, setBits_toNat h1 h2]
  have e : (w.toNat / 2 ^ (hi + 1) * 2 ^ (hi + 1) + v % 2 ^ (hi - lo + 1) * 2 ^ lo + w.toNat % 2 ^ lo) / 2 ^ (hi + 1)
      = w.toNat / 2 ^ (hi + 1) := by
    rw [Nat.add_assoc, Nat.mul_comm (w.toNat / 2 ^ (hi + 1)), Nat.mul_add_div (Nat.two_pow_pos (hi + 1)), Nat.div_eq_of_lt hlt2, Nat.add_zero]
  rw [e]

end Sys2Proof.Machine
end

