-- ==== Sys2Proof/Laws/State.lean ====
section
/-! SUPPORT. Sys2Proof/Laws/State.lean: what each step of an engine leaves of the state: one lemma per field and update; the
gates of the commands. -/
namespace Sys2Proof.Machine
namespace State

@[simp] theorem onIo_io (f : Io → Io) (s : State) : (s.onIo f).io = f s.io := (rfl)
@[simp] theorem onIo_mem (f : Io → Io) (s : State) : (s.onIo f).mem = s.mem := (rfl)
@[simp] theorem onIo_net (f : Io → Io) (s : State) : (s.onIo f).net = s.net := (rfl)
@[simp] theorem onIo_alloc (f : Io → Io) (s : State) : (s.onIo f).alloc = s.alloc := (rfl)
@[simp] theorem onIo_lease (f : Io → Io) (s : State) : (s.onIo f).lease = s.lease := (rfl)
@[simp] theorem onIo_ctle (f : Io → Io) (s : State) : (s.onIo f).ctle = s.ctle := (rfl)
@[simp] theorem onIo_thrm (f : Io → Io) (s : State) : (s.onIo f).thrm = s.thrm := (rfl)
@[simp] theorem onIo_pnt (f : Io → Io) (s : State) : (s.onIo f).pnt = s.pnt := (rfl)
@[simp] theorem onIo_sess (f : Io → Io) (s : State) : (s.onIo f).sess = s.sess := (rfl)
@[simp] theorem onIo_spn (f : Io → Io) (s : State) : (s.onIo f).spn = s.spn := (rfl)
@[simp] theorem onIo_mtr (f : Io → Io) (s : State) : (s.onIo f).mtr = s.mtr := (rfl)
@[simp] theorem onIo_hlm (f : Io → Io) (s : State) : (s.onIo f).hlm = s.hlm := (rfl)
@[simp] theorem onIo_gnt (f : Io → Io) (s : State) : (s.onIo f).gnt = s.gnt := (rfl)
@[simp] theorem onIo_mir (f : Io → Io) (s : State) : (s.onIo f).mir = s.mir := (rfl)
@[simp] theorem onIo_pow (f : Io → Io) (s : State) : (s.onIo f).pow = s.pow := (rfl)
@[simp] theorem onIo_boot (f : Io → Io) (s : State) : (s.onIo f).boot = s.boot := (rfl)
@[simp] theorem onIo_pending (f : Io → Io) (s : State) : (s.onIo f).pending = s.pending := (rfl)

@[simp] theorem onNet_io (f : NetSt → Io → NetSt × Io) (s : State) : (s.onNet f).io = (f s.net s.io).2 := (rfl)
@[simp] theorem onNet_mem (f : NetSt → Io → NetSt × Io) (s : State) : (s.onNet f).mem = s.mem := (rfl)
@[simp] theorem onNet_net (f : NetSt → Io → NetSt × Io) (s : State) : (s.onNet f).net = (f s.net s.io).1 := (rfl)
@[simp] theorem onNet_alloc (f : NetSt → Io → NetSt × Io) (s : State) : (s.onNet f).alloc = s.alloc := (rfl)
@[simp] theorem onNet_lease (f : NetSt → Io → NetSt × Io) (s : State) : (s.onNet f).lease = s.lease := (rfl)
@[simp] theorem onNet_ctle (f : NetSt → Io → NetSt × Io) (s : State) : (s.onNet f).ctle = s.ctle := (rfl)
@[simp] theorem onNet_thrm (f : NetSt → Io → NetSt × Io) (s : State) : (s.onNet f).thrm = s.thrm := (rfl)
@[simp] theorem onNet_pnt (f : NetSt → Io → NetSt × Io) (s : State) : (s.onNet f).pnt = s.pnt := (rfl)
@[simp] theorem onNet_sess (f : NetSt → Io → NetSt × Io) (s : State) : (s.onNet f).sess = s.sess := (rfl)
@[simp] theorem onNet_spn (f : NetSt → Io → NetSt × Io) (s : State) : (s.onNet f).spn = s.spn := (rfl)
@[simp] theorem onNet_mtr (f : NetSt → Io → NetSt × Io) (s : State) : (s.onNet f).mtr = s.mtr := (rfl)
@[simp] theorem onNet_hlm (f : NetSt → Io → NetSt × Io) (s : State) : (s.onNet f).hlm = s.hlm := (rfl)
@[simp] theorem onNet_gnt (f : NetSt → Io → NetSt × Io) (s : State) : (s.onNet f).gnt = s.gnt := (rfl)
@[simp] theorem onNet_mir (f : NetSt → Io → NetSt × Io) (s : State) : (s.onNet f).mir = s.mir := (rfl)
@[simp] theorem onNet_pow (f : NetSt → Io → NetSt × Io) (s : State) : (s.onNet f).pow = s.pow := (rfl)
@[simp] theorem onNet_boot (f : NetSt → Io → NetSt × Io) (s : State) : (s.onNet f).boot = s.boot := (rfl)
@[simp] theorem onNet_pending (f : NetSt → Io → NetSt × Io) (s : State) : (s.onNet f).pending = s.pending := (rfl)

@[simp] theorem onMem_io (f : MemSt → Io → MemSt × Io) (s : State) : (s.onMem f).io = (f s.mem s.io).2 := (rfl)
@[simp] theorem onMem_mem (f : MemSt → Io → MemSt × Io) (s : State) : (s.onMem f).mem = (f s.mem s.io).1 := (rfl)
@[simp] theorem onMem_net (f : MemSt → Io → MemSt × Io) (s : State) : (s.onMem f).net = s.net := (rfl)
@[simp] theorem onMem_alloc (f : MemSt → Io → MemSt × Io) (s : State) : (s.onMem f).alloc = s.alloc := (rfl)
@[simp] theorem onMem_lease (f : MemSt → Io → MemSt × Io) (s : State) : (s.onMem f).lease = s.lease := (rfl)
@[simp] theorem onMem_ctle (f : MemSt → Io → MemSt × Io) (s : State) : (s.onMem f).ctle = s.ctle := (rfl)
@[simp] theorem onMem_thrm (f : MemSt → Io → MemSt × Io) (s : State) : (s.onMem f).thrm = s.thrm := (rfl)
@[simp] theorem onMem_pnt (f : MemSt → Io → MemSt × Io) (s : State) : (s.onMem f).pnt = s.pnt := (rfl)
@[simp] theorem onMem_sess (f : MemSt → Io → MemSt × Io) (s : State) : (s.onMem f).sess = s.sess := (rfl)
@[simp] theorem onMem_spn (f : MemSt → Io → MemSt × Io) (s : State) : (s.onMem f).spn = s.spn := (rfl)
@[simp] theorem onMem_mtr (f : MemSt → Io → MemSt × Io) (s : State) : (s.onMem f).mtr = s.mtr := (rfl)
@[simp] theorem onMem_hlm (f : MemSt → Io → MemSt × Io) (s : State) : (s.onMem f).hlm = s.hlm := (rfl)
@[simp] theorem onMem_gnt (f : MemSt → Io → MemSt × Io) (s : State) : (s.onMem f).gnt = s.gnt := (rfl)
@[simp] theorem onMem_mir (f : MemSt → Io → MemSt × Io) (s : State) : (s.onMem f).mir = s.mir := (rfl)
@[simp] theorem onMem_pow (f : MemSt → Io → MemSt × Io) (s : State) : (s.onMem f).pow = s.pow := (rfl)
@[simp] theorem onMem_boot (f : MemSt → Io → MemSt × Io) (s : State) : (s.onMem f).boot = s.boot := (rfl)
@[simp] theorem onMem_pending (f : MemSt → Io → MemSt × Io) (s : State) : (s.onMem f).pending = s.pending := (rfl)

@[simp] theorem onAlloc_io (f : AllocSt → Io → AllocSt × Io) (s : State) : (s.onAlloc f).io = (f s.alloc s.io).2 := (rfl)
@[simp] theorem onAlloc_mem (f : AllocSt → Io → AllocSt × Io) (s : State) : (s.onAlloc f).mem = s.mem := (rfl)
@[simp] theorem onAlloc_net (f : AllocSt → Io → AllocSt × Io) (s : State) : (s.onAlloc f).net = s.net := (rfl)
@[simp] theorem onAlloc_alloc (f : AllocSt → Io → AllocSt × Io) (s : State) : (s.onAlloc f).alloc = (f s.alloc s.io).1 := (rfl)
@[simp] theorem onAlloc_lease (f : AllocSt → Io → AllocSt × Io) (s : State) : (s.onAlloc f).lease = s.lease := (rfl)
@[simp] theorem onAlloc_ctle (f : AllocSt → Io → AllocSt × Io) (s : State) : (s.onAlloc f).ctle = s.ctle := (rfl)
@[simp] theorem onAlloc_thrm (f : AllocSt → Io → AllocSt × Io) (s : State) : (s.onAlloc f).thrm = s.thrm := (rfl)
@[simp] theorem onAlloc_pnt (f : AllocSt → Io → AllocSt × Io) (s : State) : (s.onAlloc f).pnt = s.pnt := (rfl)
@[simp] theorem onAlloc_sess (f : AllocSt → Io → AllocSt × Io) (s : State) : (s.onAlloc f).sess = s.sess := (rfl)
@[simp] theorem onAlloc_spn (f : AllocSt → Io → AllocSt × Io) (s : State) : (s.onAlloc f).spn = s.spn := (rfl)
@[simp] theorem onAlloc_mtr (f : AllocSt → Io → AllocSt × Io) (s : State) : (s.onAlloc f).mtr = s.mtr := (rfl)
@[simp] theorem onAlloc_hlm (f : AllocSt → Io → AllocSt × Io) (s : State) : (s.onAlloc f).hlm = s.hlm := (rfl)
@[simp] theorem onAlloc_gnt (f : AllocSt → Io → AllocSt × Io) (s : State) : (s.onAlloc f).gnt = s.gnt := (rfl)
@[simp] theorem onAlloc_mir (f : AllocSt → Io → AllocSt × Io) (s : State) : (s.onAlloc f).mir = s.mir := (rfl)
@[simp] theorem onAlloc_pow (f : AllocSt → Io → AllocSt × Io) (s : State) : (s.onAlloc f).pow = s.pow := (rfl)
@[simp] theorem onAlloc_boot (f : AllocSt → Io → AllocSt × Io) (s : State) : (s.onAlloc f).boot = s.boot := (rfl)
@[simp] theorem onAlloc_pending (f : AllocSt → Io → AllocSt × Io) (s : State) : (s.onAlloc f).pending = s.pending := (rfl)

@[simp] theorem onLease_io (f : LeaseSt → Io → LeaseSt × Io) (s : State) : (s.onLease f).io = (f s.lease s.io).2 := (rfl)
@[simp] theorem onLease_mem (f : LeaseSt → Io → LeaseSt × Io) (s : State) : (s.onLease f).mem = s.mem := (rfl)
@[simp] theorem onLease_net (f : LeaseSt → Io → LeaseSt × Io) (s : State) : (s.onLease f).net = s.net := (rfl)
@[simp] theorem onLease_alloc (f : LeaseSt → Io → LeaseSt × Io) (s : State) : (s.onLease f).alloc = s.alloc := (rfl)
@[simp] theorem onLease_lease (f : LeaseSt → Io → LeaseSt × Io) (s : State) : (s.onLease f).lease = (f s.lease s.io).1 := (rfl)
@[simp] theorem onLease_ctle (f : LeaseSt → Io → LeaseSt × Io) (s : State) : (s.onLease f).ctle = s.ctle := (rfl)
@[simp] theorem onLease_thrm (f : LeaseSt → Io → LeaseSt × Io) (s : State) : (s.onLease f).thrm = s.thrm := (rfl)
@[simp] theorem onLease_pnt (f : LeaseSt → Io → LeaseSt × Io) (s : State) : (s.onLease f).pnt = s.pnt := (rfl)
@[simp] theorem onLease_sess (f : LeaseSt → Io → LeaseSt × Io) (s : State) : (s.onLease f).sess = s.sess := (rfl)
@[simp] theorem onLease_spn (f : LeaseSt → Io → LeaseSt × Io) (s : State) : (s.onLease f).spn = s.spn := (rfl)
@[simp] theorem onLease_mtr (f : LeaseSt → Io → LeaseSt × Io) (s : State) : (s.onLease f).mtr = s.mtr := (rfl)
@[simp] theorem onLease_hlm (f : LeaseSt → Io → LeaseSt × Io) (s : State) : (s.onLease f).hlm = s.hlm := (rfl)
@[simp] theorem onLease_gnt (f : LeaseSt → Io → LeaseSt × Io) (s : State) : (s.onLease f).gnt = s.gnt := (rfl)
@[simp] theorem onLease_mir (f : LeaseSt → Io → LeaseSt × Io) (s : State) : (s.onLease f).mir = s.mir := (rfl)
@[simp] theorem onLease_pow (f : LeaseSt → Io → LeaseSt × Io) (s : State) : (s.onLease f).pow = s.pow := (rfl)
@[simp] theorem onLease_boot (f : LeaseSt → Io → LeaseSt × Io) (s : State) : (s.onLease f).boot = s.boot := (rfl)
@[simp] theorem onLease_pending (f : LeaseSt → Io → LeaseSt × Io) (s : State) : (s.onLease f).pending = s.pending := (rfl)

@[simp] theorem onCtle_io (f : CtleSt → Io → CtleSt × Io) (s : State) : (s.onCtle f).io = (f s.ctle s.io).2 := (rfl)
@[simp] theorem onCtle_mem (f : CtleSt → Io → CtleSt × Io) (s : State) : (s.onCtle f).mem = s.mem := (rfl)
@[simp] theorem onCtle_net (f : CtleSt → Io → CtleSt × Io) (s : State) : (s.onCtle f).net = s.net := (rfl)
@[simp] theorem onCtle_alloc (f : CtleSt → Io → CtleSt × Io) (s : State) : (s.onCtle f).alloc = s.alloc := (rfl)
@[simp] theorem onCtle_lease (f : CtleSt → Io → CtleSt × Io) (s : State) : (s.onCtle f).lease = s.lease := (rfl)
@[simp] theorem onCtle_ctle (f : CtleSt → Io → CtleSt × Io) (s : State) : (s.onCtle f).ctle = (f s.ctle s.io).1 := (rfl)
@[simp] theorem onCtle_thrm (f : CtleSt → Io → CtleSt × Io) (s : State) : (s.onCtle f).thrm = s.thrm := (rfl)
@[simp] theorem onCtle_pnt (f : CtleSt → Io → CtleSt × Io) (s : State) : (s.onCtle f).pnt = s.pnt := (rfl)
@[simp] theorem onCtle_sess (f : CtleSt → Io → CtleSt × Io) (s : State) : (s.onCtle f).sess = s.sess := (rfl)
@[simp] theorem onCtle_spn (f : CtleSt → Io → CtleSt × Io) (s : State) : (s.onCtle f).spn = s.spn := (rfl)
@[simp] theorem onCtle_mtr (f : CtleSt → Io → CtleSt × Io) (s : State) : (s.onCtle f).mtr = s.mtr := (rfl)
@[simp] theorem onCtle_hlm (f : CtleSt → Io → CtleSt × Io) (s : State) : (s.onCtle f).hlm = s.hlm := (rfl)
@[simp] theorem onCtle_gnt (f : CtleSt → Io → CtleSt × Io) (s : State) : (s.onCtle f).gnt = s.gnt := (rfl)
@[simp] theorem onCtle_mir (f : CtleSt → Io → CtleSt × Io) (s : State) : (s.onCtle f).mir = s.mir := (rfl)
@[simp] theorem onCtle_pow (f : CtleSt → Io → CtleSt × Io) (s : State) : (s.onCtle f).pow = s.pow := (rfl)
@[simp] theorem onCtle_boot (f : CtleSt → Io → CtleSt × Io) (s : State) : (s.onCtle f).boot = s.boot := (rfl)
@[simp] theorem onCtle_pending (f : CtleSt → Io → CtleSt × Io) (s : State) : (s.onCtle f).pending = s.pending := (rfl)

@[simp] theorem onThrm_io (f : ThrmSt → Io → ThrmSt × Io) (s : State) : (s.onThrm f).io = (f s.thrm s.io).2 := (rfl)
@[simp] theorem onThrm_mem (f : ThrmSt → Io → ThrmSt × Io) (s : State) : (s.onThrm f).mem = s.mem := (rfl)
@[simp] theorem onThrm_net (f : ThrmSt → Io → ThrmSt × Io) (s : State) : (s.onThrm f).net = s.net := (rfl)
@[simp] theorem onThrm_alloc (f : ThrmSt → Io → ThrmSt × Io) (s : State) : (s.onThrm f).alloc = s.alloc := (rfl)
@[simp] theorem onThrm_lease (f : ThrmSt → Io → ThrmSt × Io) (s : State) : (s.onThrm f).lease = s.lease := (rfl)
@[simp] theorem onThrm_ctle (f : ThrmSt → Io → ThrmSt × Io) (s : State) : (s.onThrm f).ctle = s.ctle := (rfl)
@[simp] theorem onThrm_thrm (f : ThrmSt → Io → ThrmSt × Io) (s : State) : (s.onThrm f).thrm = (f s.thrm s.io).1 := (rfl)
@[simp] theorem onThrm_pnt (f : ThrmSt → Io → ThrmSt × Io) (s : State) : (s.onThrm f).pnt = s.pnt := (rfl)
@[simp] theorem onThrm_sess (f : ThrmSt → Io → ThrmSt × Io) (s : State) : (s.onThrm f).sess = s.sess := (rfl)
@[simp] theorem onThrm_spn (f : ThrmSt → Io → ThrmSt × Io) (s : State) : (s.onThrm f).spn = s.spn := (rfl)
@[simp] theorem onThrm_mtr (f : ThrmSt → Io → ThrmSt × Io) (s : State) : (s.onThrm f).mtr = s.mtr := (rfl)
@[simp] theorem onThrm_hlm (f : ThrmSt → Io → ThrmSt × Io) (s : State) : (s.onThrm f).hlm = s.hlm := (rfl)
@[simp] theorem onThrm_gnt (f : ThrmSt → Io → ThrmSt × Io) (s : State) : (s.onThrm f).gnt = s.gnt := (rfl)
@[simp] theorem onThrm_mir (f : ThrmSt → Io → ThrmSt × Io) (s : State) : (s.onThrm f).mir = s.mir := (rfl)
@[simp] theorem onThrm_pow (f : ThrmSt → Io → ThrmSt × Io) (s : State) : (s.onThrm f).pow = s.pow := (rfl)
@[simp] theorem onThrm_boot (f : ThrmSt → Io → ThrmSt × Io) (s : State) : (s.onThrm f).boot = s.boot := (rfl)
@[simp] theorem onThrm_pending (f : ThrmSt → Io → ThrmSt × Io) (s : State) : (s.onThrm f).pending = s.pending := (rfl)

@[simp] theorem onPnt_io (f : PntSt → Io → PntSt × Io) (s : State) : (s.onPnt f).io = (f s.pnt s.io).2 := (rfl)
@[simp] theorem onPnt_mem (f : PntSt → Io → PntSt × Io) (s : State) : (s.onPnt f).mem = s.mem := (rfl)
@[simp] theorem onPnt_net (f : PntSt → Io → PntSt × Io) (s : State) : (s.onPnt f).net = s.net := (rfl)
@[simp] theorem onPnt_alloc (f : PntSt → Io → PntSt × Io) (s : State) : (s.onPnt f).alloc = s.alloc := (rfl)
@[simp] theorem onPnt_lease (f : PntSt → Io → PntSt × Io) (s : State) : (s.onPnt f).lease = s.lease := (rfl)
@[simp] theorem onPnt_ctle (f : PntSt → Io → PntSt × Io) (s : State) : (s.onPnt f).ctle = s.ctle := (rfl)
@[simp] theorem onPnt_thrm (f : PntSt → Io → PntSt × Io) (s : State) : (s.onPnt f).thrm = s.thrm := (rfl)
@[simp] theorem onPnt_pnt (f : PntSt → Io → PntSt × Io) (s : State) : (s.onPnt f).pnt = (f s.pnt s.io).1 := (rfl)
@[simp] theorem onPnt_sess (f : PntSt → Io → PntSt × Io) (s : State) : (s.onPnt f).sess = s.sess := (rfl)
@[simp] theorem onPnt_spn (f : PntSt → Io → PntSt × Io) (s : State) : (s.onPnt f).spn = s.spn := (rfl)
@[simp] theorem onPnt_mtr (f : PntSt → Io → PntSt × Io) (s : State) : (s.onPnt f).mtr = s.mtr := (rfl)
@[simp] theorem onPnt_hlm (f : PntSt → Io → PntSt × Io) (s : State) : (s.onPnt f).hlm = s.hlm := (rfl)
@[simp] theorem onPnt_gnt (f : PntSt → Io → PntSt × Io) (s : State) : (s.onPnt f).gnt = s.gnt := (rfl)
@[simp] theorem onPnt_mir (f : PntSt → Io → PntSt × Io) (s : State) : (s.onPnt f).mir = s.mir := (rfl)
@[simp] theorem onPnt_pow (f : PntSt → Io → PntSt × Io) (s : State) : (s.onPnt f).pow = s.pow := (rfl)
@[simp] theorem onPnt_boot (f : PntSt → Io → PntSt × Io) (s : State) : (s.onPnt f).boot = s.boot := (rfl)
@[simp] theorem onPnt_pending (f : PntSt → Io → PntSt × Io) (s : State) : (s.onPnt f).pending = s.pending := (rfl)

@[simp] theorem onSess_io (f : SessSt × Io → SessSt × Io) (s : State) : (s.onSess f).io = (f (s.sess, s.io)).2 := (rfl)
@[simp] theorem onSess_mem (f : SessSt × Io → SessSt × Io) (s : State) : (s.onSess f).mem = s.mem := (rfl)
@[simp] theorem onSess_net (f : SessSt × Io → SessSt × Io) (s : State) : (s.onSess f).net = s.net := (rfl)
@[simp] theorem onSess_alloc (f : SessSt × Io → SessSt × Io) (s : State) : (s.onSess f).alloc = s.alloc := (rfl)
@[simp] theorem onSess_lease (f : SessSt × Io → SessSt × Io) (s : State) : (s.onSess f).lease = s.lease := (rfl)
@[simp] theorem onSess_ctle (f : SessSt × Io → SessSt × Io) (s : State) : (s.onSess f).ctle = s.ctle := (rfl)
@[simp] theorem onSess_thrm (f : SessSt × Io → SessSt × Io) (s : State) : (s.onSess f).thrm = s.thrm := (rfl)
@[simp] theorem onSess_pnt (f : SessSt × Io → SessSt × Io) (s : State) : (s.onSess f).pnt = s.pnt := (rfl)
@[simp] theorem onSess_sess (f : SessSt × Io → SessSt × Io) (s : State) : (s.onSess f).sess = (f (s.sess, s.io)).1 := (rfl)
@[simp] theorem onSess_spn (f : SessSt × Io → SessSt × Io) (s : State) : (s.onSess f).spn = s.spn := (rfl)
@[simp] theorem onSess_mtr (f : SessSt × Io → SessSt × Io) (s : State) : (s.onSess f).mtr = s.mtr := (rfl)
@[simp] theorem onSess_hlm (f : SessSt × Io → SessSt × Io) (s : State) : (s.onSess f).hlm = s.hlm := (rfl)
@[simp] theorem onSess_gnt (f : SessSt × Io → SessSt × Io) (s : State) : (s.onSess f).gnt = s.gnt := (rfl)
@[simp] theorem onSess_mir (f : SessSt × Io → SessSt × Io) (s : State) : (s.onSess f).mir = s.mir := (rfl)
@[simp] theorem onSess_pow (f : SessSt × Io → SessSt × Io) (s : State) : (s.onSess f).pow = s.pow := (rfl)
@[simp] theorem onSess_boot (f : SessSt × Io → SessSt × Io) (s : State) : (s.onSess f).boot = s.boot := (rfl)
@[simp] theorem onSess_pending (f : SessSt × Io → SessSt × Io) (s : State) : (s.onSess f).pending = s.pending := (rfl)

@[simp] theorem onSpn_io (f : SpnSt → Io → SpnSt × Io) (s : State) : (s.onSpn f).io = (f s.spn s.io).2 := (rfl)
@[simp] theorem onSpn_mem (f : SpnSt → Io → SpnSt × Io) (s : State) : (s.onSpn f).mem = s.mem := (rfl)
@[simp] theorem onSpn_net (f : SpnSt → Io → SpnSt × Io) (s : State) : (s.onSpn f).net = s.net := (rfl)
@[simp] theorem onSpn_alloc (f : SpnSt → Io → SpnSt × Io) (s : State) : (s.onSpn f).alloc = s.alloc := (rfl)
@[simp] theorem onSpn_lease (f : SpnSt → Io → SpnSt × Io) (s : State) : (s.onSpn f).lease = s.lease := (rfl)
@[simp] theorem onSpn_ctle (f : SpnSt → Io → SpnSt × Io) (s : State) : (s.onSpn f).ctle = s.ctle := (rfl)
@[simp] theorem onSpn_thrm (f : SpnSt → Io → SpnSt × Io) (s : State) : (s.onSpn f).thrm = s.thrm := (rfl)
@[simp] theorem onSpn_pnt (f : SpnSt → Io → SpnSt × Io) (s : State) : (s.onSpn f).pnt = s.pnt := (rfl)
@[simp] theorem onSpn_sess (f : SpnSt → Io → SpnSt × Io) (s : State) : (s.onSpn f).sess = s.sess := (rfl)
@[simp] theorem onSpn_spn (f : SpnSt → Io → SpnSt × Io) (s : State) : (s.onSpn f).spn = (f s.spn s.io).1 := (rfl)
@[simp] theorem onSpn_mtr (f : SpnSt → Io → SpnSt × Io) (s : State) : (s.onSpn f).mtr = s.mtr := (rfl)
@[simp] theorem onSpn_hlm (f : SpnSt → Io → SpnSt × Io) (s : State) : (s.onSpn f).hlm = s.hlm := (rfl)
@[simp] theorem onSpn_gnt (f : SpnSt → Io → SpnSt × Io) (s : State) : (s.onSpn f).gnt = s.gnt := (rfl)
@[simp] theorem onSpn_mir (f : SpnSt → Io → SpnSt × Io) (s : State) : (s.onSpn f).mir = s.mir := (rfl)
@[simp] theorem onSpn_pow (f : SpnSt → Io → SpnSt × Io) (s : State) : (s.onSpn f).pow = s.pow := (rfl)
@[simp] theorem onSpn_boot (f : SpnSt → Io → SpnSt × Io) (s : State) : (s.onSpn f).boot = s.boot := (rfl)
@[simp] theorem onSpn_pending (f : SpnSt → Io → SpnSt × Io) (s : State) : (s.onSpn f).pending = s.pending := (rfl)

@[simp] theorem onMtr_io (f : MtrSt × Io → MtrSt × Io) (s : State) : (s.onMtr f).io = (f (s.mtr, s.io)).2 := (rfl)
@[simp] theorem onMtr_mem (f : MtrSt × Io → MtrSt × Io) (s : State) : (s.onMtr f).mem = s.mem := (rfl)
@[simp] theorem onMtr_net (f : MtrSt × Io → MtrSt × Io) (s : State) : (s.onMtr f).net = s.net := (rfl)
@[simp] theorem onMtr_alloc (f : MtrSt × Io → MtrSt × Io) (s : State) : (s.onMtr f).alloc = s.alloc := (rfl)
@[simp] theorem onMtr_lease (f : MtrSt × Io → MtrSt × Io) (s : State) : (s.onMtr f).lease = s.lease := (rfl)
@[simp] theorem onMtr_ctle (f : MtrSt × Io → MtrSt × Io) (s : State) : (s.onMtr f).ctle = s.ctle := (rfl)
@[simp] theorem onMtr_thrm (f : MtrSt × Io → MtrSt × Io) (s : State) : (s.onMtr f).thrm = s.thrm := (rfl)
@[simp] theorem onMtr_pnt (f : MtrSt × Io → MtrSt × Io) (s : State) : (s.onMtr f).pnt = s.pnt := (rfl)
@[simp] theorem onMtr_sess (f : MtrSt × Io → MtrSt × Io) (s : State) : (s.onMtr f).sess = s.sess := (rfl)
@[simp] theorem onMtr_spn (f : MtrSt × Io → MtrSt × Io) (s : State) : (s.onMtr f).spn = s.spn := (rfl)
@[simp] theorem onMtr_mtr (f : MtrSt × Io → MtrSt × Io) (s : State) : (s.onMtr f).mtr = (f (s.mtr, s.io)).1 := (rfl)
@[simp] theorem onMtr_hlm (f : MtrSt × Io → MtrSt × Io) (s : State) : (s.onMtr f).hlm = s.hlm := (rfl)
@[simp] theorem onMtr_gnt (f : MtrSt × Io → MtrSt × Io) (s : State) : (s.onMtr f).gnt = s.gnt := (rfl)
@[simp] theorem onMtr_mir (f : MtrSt × Io → MtrSt × Io) (s : State) : (s.onMtr f).mir = s.mir := (rfl)
@[simp] theorem onMtr_pow (f : MtrSt × Io → MtrSt × Io) (s : State) : (s.onMtr f).pow = s.pow := (rfl)
@[simp] theorem onMtr_boot (f : MtrSt × Io → MtrSt × Io) (s : State) : (s.onMtr f).boot = s.boot := (rfl)
@[simp] theorem onMtr_pending (f : MtrSt × Io → MtrSt × Io) (s : State) : (s.onMtr f).pending = s.pending := (rfl)

@[simp] theorem onHlm_io (f : HlmSt × Io → HlmSt × Io) (s : State) : (s.onHlm f).io = (f (s.hlm, s.io)).2 := (rfl)
@[simp] theorem onHlm_mem (f : HlmSt × Io → HlmSt × Io) (s : State) : (s.onHlm f).mem = s.mem := (rfl)
@[simp] theorem onHlm_net (f : HlmSt × Io → HlmSt × Io) (s : State) : (s.onHlm f).net = s.net := (rfl)
@[simp] theorem onHlm_alloc (f : HlmSt × Io → HlmSt × Io) (s : State) : (s.onHlm f).alloc = s.alloc := (rfl)
@[simp] theorem onHlm_lease (f : HlmSt × Io → HlmSt × Io) (s : State) : (s.onHlm f).lease = s.lease := (rfl)
@[simp] theorem onHlm_ctle (f : HlmSt × Io → HlmSt × Io) (s : State) : (s.onHlm f).ctle = s.ctle := (rfl)
@[simp] theorem onHlm_thrm (f : HlmSt × Io → HlmSt × Io) (s : State) : (s.onHlm f).thrm = s.thrm := (rfl)
@[simp] theorem onHlm_pnt (f : HlmSt × Io → HlmSt × Io) (s : State) : (s.onHlm f).pnt = s.pnt := (rfl)
@[simp] theorem onHlm_sess (f : HlmSt × Io → HlmSt × Io) (s : State) : (s.onHlm f).sess = s.sess := (rfl)
@[simp] theorem onHlm_spn (f : HlmSt × Io → HlmSt × Io) (s : State) : (s.onHlm f).spn = s.spn := (rfl)
@[simp] theorem onHlm_mtr (f : HlmSt × Io → HlmSt × Io) (s : State) : (s.onHlm f).mtr = s.mtr := (rfl)
@[simp] theorem onHlm_hlm (f : HlmSt × Io → HlmSt × Io) (s : State) : (s.onHlm f).hlm = (f (s.hlm, s.io)).1 := (rfl)
@[simp] theorem onHlm_gnt (f : HlmSt × Io → HlmSt × Io) (s : State) : (s.onHlm f).gnt = s.gnt := (rfl)
@[simp] theorem onHlm_mir (f : HlmSt × Io → HlmSt × Io) (s : State) : (s.onHlm f).mir = s.mir := (rfl)
@[simp] theorem onHlm_pow (f : HlmSt × Io → HlmSt × Io) (s : State) : (s.onHlm f).pow = s.pow := (rfl)
@[simp] theorem onHlm_boot (f : HlmSt × Io → HlmSt × Io) (s : State) : (s.onHlm f).boot = s.boot := (rfl)
@[simp] theorem onHlm_pending (f : HlmSt × Io → HlmSt × Io) (s : State) : (s.onHlm f).pending = s.pending := (rfl)

@[simp] theorem onGnt_io (f : GntSt × Io → GntSt × Io) (s : State) : (s.onGnt f).io = (f (s.gnt, s.io)).2 := (rfl)
@[simp] theorem onGnt_mem (f : GntSt × Io → GntSt × Io) (s : State) : (s.onGnt f).mem = s.mem := (rfl)
@[simp] theorem onGnt_net (f : GntSt × Io → GntSt × Io) (s : State) : (s.onGnt f).net = s.net := (rfl)
@[simp] theorem onGnt_alloc (f : GntSt × Io → GntSt × Io) (s : State) : (s.onGnt f).alloc = s.alloc := (rfl)
@[simp] theorem onGnt_lease (f : GntSt × Io → GntSt × Io) (s : State) : (s.onGnt f).lease = s.lease := (rfl)
@[simp] theorem onGnt_ctle (f : GntSt × Io → GntSt × Io) (s : State) : (s.onGnt f).ctle = s.ctle := (rfl)
@[simp] theorem onGnt_thrm (f : GntSt × Io → GntSt × Io) (s : State) : (s.onGnt f).thrm = s.thrm := (rfl)
@[simp] theorem onGnt_pnt (f : GntSt × Io → GntSt × Io) (s : State) : (s.onGnt f).pnt = s.pnt := (rfl)
@[simp] theorem onGnt_sess (f : GntSt × Io → GntSt × Io) (s : State) : (s.onGnt f).sess = s.sess := (rfl)
@[simp] theorem onGnt_spn (f : GntSt × Io → GntSt × Io) (s : State) : (s.onGnt f).spn = s.spn := (rfl)
@[simp] theorem onGnt_mtr (f : GntSt × Io → GntSt × Io) (s : State) : (s.onGnt f).mtr = s.mtr := (rfl)
@[simp] theorem onGnt_hlm (f : GntSt × Io → GntSt × Io) (s : State) : (s.onGnt f).hlm = s.hlm := (rfl)
@[simp] theorem onGnt_gnt (f : GntSt × Io → GntSt × Io) (s : State) : (s.onGnt f).gnt = (f (s.gnt, s.io)).1 := (rfl)
@[simp] theorem onGnt_mir (f : GntSt × Io → GntSt × Io) (s : State) : (s.onGnt f).mir = s.mir := (rfl)
@[simp] theorem onGnt_pow (f : GntSt × Io → GntSt × Io) (s : State) : (s.onGnt f).pow = s.pow := (rfl)
@[simp] theorem onGnt_boot (f : GntSt × Io → GntSt × Io) (s : State) : (s.onGnt f).boot = s.boot := (rfl)
@[simp] theorem onGnt_pending (f : GntSt × Io → GntSt × Io) (s : State) : (s.onGnt f).pending = s.pending := (rfl)

@[simp] theorem onMir_io (f : MirSt × Io → MirSt × Io) (s : State) : (s.onMir f).io = (f (s.mir, s.io)).2 := (rfl)
@[simp] theorem onMir_mem (f : MirSt × Io → MirSt × Io) (s : State) : (s.onMir f).mem = s.mem := (rfl)
@[simp] theorem onMir_net (f : MirSt × Io → MirSt × Io) (s : State) : (s.onMir f).net = s.net := (rfl)
@[simp] theorem onMir_alloc (f : MirSt × Io → MirSt × Io) (s : State) : (s.onMir f).alloc = s.alloc := (rfl)
@[simp] theorem onMir_lease (f : MirSt × Io → MirSt × Io) (s : State) : (s.onMir f).lease = s.lease := (rfl)
@[simp] theorem onMir_ctle (f : MirSt × Io → MirSt × Io) (s : State) : (s.onMir f).ctle = s.ctle := (rfl)
@[simp] theorem onMir_thrm (f : MirSt × Io → MirSt × Io) (s : State) : (s.onMir f).thrm = s.thrm := (rfl)
@[simp] theorem onMir_pnt (f : MirSt × Io → MirSt × Io) (s : State) : (s.onMir f).pnt = s.pnt := (rfl)
@[simp] theorem onMir_sess (f : MirSt × Io → MirSt × Io) (s : State) : (s.onMir f).sess = s.sess := (rfl)
@[simp] theorem onMir_spn (f : MirSt × Io → MirSt × Io) (s : State) : (s.onMir f).spn = s.spn := (rfl)
@[simp] theorem onMir_mtr (f : MirSt × Io → MirSt × Io) (s : State) : (s.onMir f).mtr = s.mtr := (rfl)
@[simp] theorem onMir_hlm (f : MirSt × Io → MirSt × Io) (s : State) : (s.onMir f).hlm = s.hlm := (rfl)
@[simp] theorem onMir_gnt (f : MirSt × Io → MirSt × Io) (s : State) : (s.onMir f).gnt = s.gnt := (rfl)
@[simp] theorem onMir_mir (f : MirSt × Io → MirSt × Io) (s : State) : (s.onMir f).mir = (f (s.mir, s.io)).1 := (rfl)
@[simp] theorem onMir_pow (f : MirSt × Io → MirSt × Io) (s : State) : (s.onMir f).pow = s.pow := (rfl)
@[simp] theorem onMir_boot (f : MirSt × Io → MirSt × Io) (s : State) : (s.onMir f).boot = s.boot := (rfl)
@[simp] theorem onMir_pending (f : MirSt × Io → MirSt × Io) (s : State) : (s.onMir f).pending = s.pending := (rfl)

@[simp] theorem onPow_io (f : PowSt → Io → PowSt × Io) (s : State) : (s.onPow f).io = (f s.pow s.io).2 := (rfl)
@[simp] theorem onPow_mem (f : PowSt → Io → PowSt × Io) (s : State) : (s.onPow f).mem = s.mem := (rfl)
@[simp] theorem onPow_net (f : PowSt → Io → PowSt × Io) (s : State) : (s.onPow f).net = s.net := (rfl)
@[simp] theorem onPow_alloc (f : PowSt → Io → PowSt × Io) (s : State) : (s.onPow f).alloc = s.alloc := (rfl)
@[simp] theorem onPow_lease (f : PowSt → Io → PowSt × Io) (s : State) : (s.onPow f).lease = s.lease := (rfl)
@[simp] theorem onPow_ctle (f : PowSt → Io → PowSt × Io) (s : State) : (s.onPow f).ctle = s.ctle := (rfl)
@[simp] theorem onPow_thrm (f : PowSt → Io → PowSt × Io) (s : State) : (s.onPow f).thrm = s.thrm := (rfl)
@[simp] theorem onPow_pnt (f : PowSt → Io → PowSt × Io) (s : State) : (s.onPow f).pnt = s.pnt := (rfl)
@[simp] theorem onPow_sess (f : PowSt → Io → PowSt × Io) (s : State) : (s.onPow f).sess = s.sess := (rfl)
@[simp] theorem onPow_spn (f : PowSt → Io → PowSt × Io) (s : State) : (s.onPow f).spn = s.spn := (rfl)
@[simp] theorem onPow_mtr (f : PowSt → Io → PowSt × Io) (s : State) : (s.onPow f).mtr = s.mtr := (rfl)
@[simp] theorem onPow_hlm (f : PowSt → Io → PowSt × Io) (s : State) : (s.onPow f).hlm = s.hlm := (rfl)
@[simp] theorem onPow_gnt (f : PowSt → Io → PowSt × Io) (s : State) : (s.onPow f).gnt = s.gnt := (rfl)
@[simp] theorem onPow_mir (f : PowSt → Io → PowSt × Io) (s : State) : (s.onPow f).mir = s.mir := (rfl)
@[simp] theorem onPow_pow (f : PowSt → Io → PowSt × Io) (s : State) : (s.onPow f).pow = (f s.pow s.io).1 := (rfl)
@[simp] theorem onPow_boot (f : PowSt → Io → PowSt × Io) (s : State) : (s.onPow f).boot = s.boot := (rfl)
@[simp] theorem onPow_pending (f : PowSt → Io → PowSt × Io) (s : State) : (s.onPow f).pending = s.pending := (rfl)

@[simp] theorem settle_io (s : State) : s.settle.io = s.io := (rfl)
@[simp] theorem settle_mem (s : State) : s.settle.mem = s.mem := (rfl)
@[simp] theorem settle_net (s : State) : s.settle.net = s.net := (rfl)
@[simp] theorem settle_alloc (s : State) : s.settle.alloc = s.alloc := (rfl)
@[simp] theorem settle_lease (s : State) : s.settle.lease = s.lease := (rfl)
@[simp] theorem settle_ctle (s : State) : s.settle.ctle = s.ctle := (rfl)
@[simp] theorem settle_thrm (s : State) : s.settle.thrm = s.thrm := (rfl)
@[simp] theorem settle_pnt (s : State) : s.settle.pnt = s.pnt := (rfl)
@[simp] theorem settle_sess (s : State) : s.settle.sess = s.sess := (rfl)
@[simp] theorem settle_spn (s : State) : s.settle.spn = s.spn := (rfl)
@[simp] theorem settle_mtr (s : State) : s.settle.mtr = s.mtr := (rfl)
@[simp] theorem settle_hlm (s : State) : s.settle.hlm = s.hlm := (rfl)
@[simp] theorem settle_gnt (s : State) : s.settle.gnt = s.gnt := (rfl)
@[simp] theorem settle_mir (s : State) : s.settle.mir = s.mir := (rfl)
@[simp] theorem settle_boot (s : State) : s.settle.boot = s.boot := (rfl)
@[simp] theorem settle_pending (s : State) : s.settle.pending = s.pending := (rfl)
@[simp] theorem plainWrite_mem (who : Who) (a : Nat) (v : Word) (s : State) : (s.plainWrite who a v).mem = s.mem := (rfl)
@[simp] theorem plainWrite_net (who : Who) (a : Nat) (v : Word) (s : State) : (s.plainWrite who a v).net = s.net := (rfl)
@[simp] theorem plainWrite_alloc (who : Who) (a : Nat) (v : Word) (s : State) : (s.plainWrite who a v).alloc = s.alloc := (rfl)
@[simp] theorem plainWrite_lease (who : Who) (a : Nat) (v : Word) (s : State) : (s.plainWrite who a v).lease = s.lease := (rfl)
@[simp] theorem plainWrite_ctle (who : Who) (a : Nat) (v : Word) (s : State) : (s.plainWrite who a v).ctle = s.ctle := (rfl)
@[simp] theorem plainWrite_thrm (who : Who) (a : Nat) (v : Word) (s : State) : (s.plainWrite who a v).thrm = s.thrm := (rfl)
@[simp] theorem plainWrite_pnt (who : Who) (a : Nat) (v : Word) (s : State) : (s.plainWrite who a v).pnt = s.pnt := (rfl)
@[simp] theorem plainWrite_sess (who : Who) (a : Nat) (v : Word) (s : State) : (s.plainWrite who a v).sess = s.sess := (rfl)
@[simp] theorem plainWrite_spn (who : Who) (a : Nat) (v : Word) (s : State) : (s.plainWrite who a v).spn = s.spn := (rfl)
@[simp] theorem plainWrite_mtr (who : Who) (a : Nat) (v : Word) (s : State) : (s.plainWrite who a v).mtr = s.mtr := (rfl)
@[simp] theorem plainWrite_hlm (who : Who) (a : Nat) (v : Word) (s : State) : (s.plainWrite who a v).hlm = s.hlm := (rfl)
@[simp] theorem plainWrite_gnt (who : Who) (a : Nat) (v : Word) (s : State) : (s.plainWrite who a v).gnt = s.gnt := (rfl)
@[simp] theorem plainWrite_mir (who : Who) (a : Nat) (v : Word) (s : State) : (s.plainWrite who a v).mir = s.mir := (rfl)
@[simp] theorem plainWrite_pow (who : Who) (a : Nat) (v : Word) (s : State) : (s.plainWrite who a v).pow = s.pow := (rfl)
@[simp] theorem plainWrite_boot (who : Who) (a : Nat) (v : Word) (s : State) : (s.plainWrite who a v).boot = s.boot := (rfl)
@[simp] theorem plainWrite_pending (who : Who) (a : Nat) (v : Word) (s : State) : (s.plainWrite who a v).pending = s.pending := (rfl)

end State

/-! The gates. -/

theorem onLogic_live {s : State} (f : State → State) (h : s.live = true) : onLogic f s = .next (f s) := by
  simp [onLogic, h]

theorem onLogic_off {s : State} (f : State → State) (h : s.live = false) : onLogic f s = .next s := by
  simp [onLogic, h]

theorem onSepia_on {s : State} (f : State → State) (h : s.sepia = true) : onSepia f s = .next (f s) := by
  simp [onSepia, h]

theorem onSepia_off {s : State} (f : State → State) (h : s.sepia = false) : onSepia f s = .next s := by
  simp [onSepia, h]

theorem onDie_next {s : State} (f : State → State) : onDie f s = .next (f s) := (rfl)

theorem sepia_of_live {s : State} (h : s.live = true) : s.sepia = true := by
  simp only [State.live, Bool.and_eq_true] at h
  exact h.1

theorem onWho_live {s : State} (who : Who) (f : State → State) (h : s.live = true) : onWho who f s = .next (f s) := by
  unfold onWho
  split
  · exact onSepia_on f (sepia_of_live h)
  · exact onLogic_live f h

end Sys2Proof.Machine
end

