-- ==== Sys2Proof/Laws/Frame.lean ====
section
/-! SUPPORT. Sys2Proof/Laws/Frame.lean: every operation on the whole state leaves the queue of waiting commands as it is. -/
namespace Sys2Proof.Machine
namespace State

/-- A fold of steps that leave the queue leaves the queue. -/
theorem foldl_pending {α : Type} {f : State → α → State} (h : ∀ s a, (f s a).pending = s.pending) :
    ∀ (l : List α) (s : State), (l.foldl f s).pending = s.pending
  | [], _ => rfl
  | a :: l, s => by rw [List.foldl_cons, foldl_pending h l, h]

@[simp] theorem firstCommit_pending (s : State) : (firstCommit s).pending = s.pending := by
  unfold firstCommit
  first
    | rfl
    | (dsimp only; (repeat' split) <;> first | rfl | simp [*])
    | ((repeat' split) <;> first | rfl | simp [*])

@[simp] theorem applyBody_pending (tick : Nat) (b : MirBody) (s : State) : (applyBody tick b s).pending = s.pending := by
  unfold applyBody
  first
    | rfl
    | (dsimp only; (repeat' split) <;> first | rfl | simp [*])
    | ((repeat' split) <;> first | rfl | simp [*])

@[simp] theorem applyPend_pending (s : State) : (applyPend s).pending = s.pending := by
  unfold applyPend
  first
    | rfl
    | (dsimp only; (repeat' split) <;> first | rfl | simp [*])
    | ((repeat' split) <;> first | rfl | simp [*])

@[simp] theorem takeover_pending (s : State) : (takeover s).pending = s.pending := by
  unfold takeover
  first
    | rfl
    | (dsimp only; (repeat' split) <;> first | rfl | simp [*])
    | ((repeat' split) <;> first | rfl | simp [*])

@[simp] theorem coldStart_pending (s : State) : (coldStart s).pending = s.pending := by
  unfold coldStart
  first
    | rfl
    | (dsimp only; (repeat' split) <;> first | rfl | simp [*])
    | ((repeat' split) <;> first | rfl | simp [*])

@[simp] theorem claim_pending (s : State) : (claim s).pending = s.pending := by
  unfold claim
  first
    | rfl
    | (dsimp only; (repeat' split) <;> first | rfl | simp [*])
    | ((repeat' split) <;> first | rfl | simp [*])

@[simp] theorem giveUpFor_pending (cause : Nat) (s : State) : (giveUpFor cause s).pending = s.pending := by
  unfold giveUpFor
  first
    | rfl
    | (dsimp only; (repeat' split) <;> first | rfl | simp [*])
    | ((repeat' split) <;> first | rfl | simp [*])

@[simp] theorem standbyFrames_pending (s : State) : (standbyFrames s).pending = s.pending := by
  unfold standbyFrames
  first
    | rfl
    | (dsimp only; (repeat' split) <;> first | rfl | simp [*])
    | ((repeat' split) <;> first | rfl | simp [*])

@[simp] theorem ledgerFrame_pending (h : MirHdr) (x : LedgerDelta) (s : State) : (ledgerFrame h x s).pending = s.pending := by
  unfold ledgerFrame
  first
    | rfl
    | (dsimp only; (repeat' split) <;> first | rfl | simp [*])
    | ((repeat' split) <;> first | rfl | simp [*])

@[simp] theorem checkpoint_pending (h : MirHdr) (d : Nat) (x : Sess) (s : State) : (checkpoint h d x s).pending = s.pending := by
  unfold checkpoint
  first
    | rfl
    | (dsimp only; (repeat' split) <;> first | rfl | simp [*])
    | ((repeat' split) <;> first | rfl | simp [*])

@[simp] theorem imageFrame_pending (h : MirHdr) (g : MirImage) (s : State) : (imageFrame h g s).pending = s.pending := by
  unfold imageFrame
  first
    | rfl
    | (dsimp only; (repeat' split) <;> first | rfl | simp [*])
    | ((repeat' split) <;> first | rfl | simp [*])

@[simp] theorem tickIn_pending (h : MirHdr) (b : Option MirBody) (s : State) : (tickIn h b s).pending = s.pending := by
  unfold tickIn
  first
    | rfl
    | (dsimp only; (repeat' split) <;> first | rfl | simp [*])
    | ((repeat' split) <;> first | rfl | simp [*])

@[simp] theorem helloIn_pending (h : MirHdr) (p : Hello) (s : State) : (helloIn h p s).pending = s.pending := by
  unfold helloIn
  first
    | rfl
    | (dsimp only; (repeat' split) <;> first | rfl | simp [*])
    | ((repeat' split) <;> first | rfl | simp [*])

@[simp] theorem suspend_pending (s : State) : (suspend s).pending = s.pending := by
  unfold suspend
  split
  · exact (giveUpFor_pending _ _).trans (onIo_pending _ _)
  · rfl

@[simp] theorem renew_pending (n : Nat) (reuse : Bool) (inp : Tbl DispIn) (s : State) : (renew n reuse inp s).pending = s.pending := by
  unfold renew
  first
    | rfl
    | (dsimp only; (repeat' split) <;> first | rfl | simp [*])
    | ((repeat' split) <;> first | rfl | simp [*])

@[simp] theorem abandon_pending (n : Nat) (s : State) : (abandon n s).pending = s.pending := by
  unfold abandon
  first
    | rfl
    | (dsimp only; (repeat' split) <;> first | rfl | simp [*])
    | ((repeat' split) <;> first | rfl | simp [*])

@[simp] theorem tickStart_pending (n : Nat) (s : State) : (tickStart n s).pending = s.pending := by
  unfold tickStart
  first
    | rfl
    | (dsimp only; (repeat' split) <;> first | rfl | simp [*])
    | ((repeat' split) <;> first | rfl | simp [*])

@[simp] theorem steps1to4_pending (n : Nat) (ev : TickEv) (s : State) : (steps1to4 n ev s).pending = s.pending := by
  unfold steps1to4
  first
    | rfl
    | (dsimp only; (repeat' split) <;> first | rfl | simp [*])
    | ((repeat' split) <;> first | rfl | simp [*])

@[simp] theorem step5Start_pending (n : Nat) (ue : Bool) (s : State) : (step5Start n ue s).pending = s.pending := by
  unfold step5Start
  first
    | rfl
    | (dsimp only; (repeat' split) <;> first | rfl | simp [*])
    | ((repeat' split) <;> first | rfl | simp [*])

@[simp] theorem commitTick_pending (n : Nat) (inp : Tbl DispIn) (sin : Tbl SrcIn) (t : TickOut) (s : State) : (commitTick n inp sin t s).pending = s.pending := by
  unfold commitTick
  first
    | rfl
    | (dsimp only; (repeat' split) <;> first | rfl | simp [*])
    | ((repeat' split) <;> first | rfl | simp [*])

@[simp] theorem step7_pending (n : Nat) (cycles : Nat) (s : State) : (step7 n cycles s).pending = s.pending := by
  unfold step7
  first
    | rfl
    | (dsimp only; (repeat' split) <;> first | rfl | simp [*])
    | ((repeat' split) <;> first | rfl | simp [*])

@[simp] theorem step8_pending (s : State) : (step8 s).pending = s.pending := by
  unfold step8
  first
    | rfl
    | (dsimp only; (repeat' split) <;> first | rfl | simp [*])
    | ((repeat' split) <;> first | rfl | simp [*])

@[simp] theorem placed_pending (s : State) : (placed s).pending = s.pending := by
  unfold placed
  first
    | rfl
    | (dsimp only; (repeat' split) <;> first | rfl | simp [*])
    | ((repeat' split) <;> first | rfl | simp [*])

@[simp] theorem tick_pending (ev : TickEv) (s : State) : (tick ev s).pending = s.pending := by
  unfold tick
  first
    | rfl
    | (dsimp only; (repeat' split) <;> first | rfl | simp [*])
    | ((repeat' split) <;> first | rfl | simp [*])

@[simp] theorem tickAbandon_pending (s : State) : (tickAbandon s).pending = s.pending := by
  unfold tickAbandon
  first
    | rfl
    | (dsimp only; (repeat' split) <;> first | rfl | simp [*])
    | ((repeat' split) <;> first | rfl | simp [*])

@[simp] theorem resetTo_pending (k : RKind) (cause : RstCause) (s : State) : (resetTo k cause s).pending = s.pending := by
  unfold resetTo
  first
    | rfl
    | (dsimp only; (repeat' split) <;> first | rfl | simp [*])
    | ((repeat' split) <;> first | rfl | simp [*])

@[simp] theorem keysGone_pending (s : State) : (keysGone s).pending = s.pending := by
  unfold keysGone
  first
    | rfl
    | (dsimp only; (repeat' split) <;> first | rfl | simp [*])
    | ((repeat' split) <;> first | rfl | simp [*])

@[simp] theorem deferredErase_pending (s : State) : (deferredErase s).pending = s.pending := by
  unfold deferredErase
  first
    | rfl
    | (dsimp only; (repeat' split) <;> first | rfl | simp [*])
    | ((repeat' split) <;> first | rfl | simp [*])

@[simp] theorem enterQuiet_pending (s : State) : (enterQuiet s).pending = s.pending := by
  unfold enterQuiet
  first
    | rfl
    | (dsimp only; (repeat' split) <;> first | rfl | simp [*])
    | ((repeat' split) <;> first | rfl | simp [*])

@[simp] theorem leaveQuiet_pending (src : Nat) (s : State) : (leaveQuiet src s).pending = s.pending := by
  unfold leaveQuiet
  first
    | rfl
    | (dsimp only; (repeat' split) <;> first | rfl | simp [*])
    | ((repeat' split) <;> first | rfl | simp [*])

@[simp] theorem vbatLost_pending (s : State) : (vbatLost s).pending = s.pending := by
  unfold vbatLost
  first
    | rfl
    | (dsimp only; (repeat' split) <;> first | rfl | simp [*])
    | ((repeat' split) <;> first | rfl | simp [*])

@[simp] theorem coils_pending (old new : State) : (coils old new).pending = new.pending := by
  unfold coils
  split
  · rfl
  · apply foldl_pending
    intro t p
    split <;> rfl

@[simp] theorem gntAct_pending (f : GntSt × Io → GntSt × Io) (s : State) : (gntAct f s).pending = s.pending := by
  unfold gntAct
  first
    | rfl
    | (dsimp only; (repeat' split) <;> first | rfl | simp [*])
    | ((repeat' split) <;> first | rfl | simp [*])

@[simp] theorem hmiFlush_pending (s : State) : (hmiFlush s).pending = s.pending := by
  unfold hmiFlush
  exact (foldl_pending (fun t e => onSess_pending _ t) _ _).trans rfl

@[simp] theorem mtrAct_pending (f : MtrSt × Io → MtrSt × Io) (s : State) : (mtrAct f s).pending = s.pending := by
  unfold mtrAct
  first
    | rfl
    | (dsimp only; (repeat' split) <;> first | rfl | simp [*])
    | ((repeat' split) <;> first | rfl | simp [*])

@[simp] theorem receive_pending (m : AtkMsg) (s : State) : (receive m s).1.pending = s.pending := by
  unfold receive
  first
    | rfl
    | (dsimp only; (repeat' split) <;> first | rfl | simp [*])
    | ((repeat' split) <;> first | rfl | simp [*])

@[simp] theorem ackIn_pending (m : AtkMsg) (s : State) : (ackIn m s).pending = s.pending := by
  unfold ackIn
  first
    | rfl
    | (dsimp only; (repeat' split) <;> first | rfl | simp [*])
    | ((repeat' split) <;> first | rfl | simp [*])

@[simp] theorem headIn__pending (m : AtkMsg) (s : State) : (headIn_ m s).pending = s.pending := by
  unfold headIn_
  first
    | rfl
    | (dsimp only; (repeat' split) <;> first | rfl | simp [*])
    | ((repeat' split) <;> first | rfl | simp [*])

@[simp] theorem cabIn_pending (m : AtkMsg) (s : State) : (cabIn m s).pending = s.pending := by
  unfold cabIn
  first
    | rfl
    | (dsimp only; (repeat' split) <;> first | rfl | simp [*])
    | ((repeat' split) <;> first | rfl | simp [*])

@[simp] theorem routeIn_pending (m : AtkMsg) (s : State) : (routeIn m s).pending = s.pending := by
  unfold routeIn
  first
    | rfl
    | (dsimp only; (repeat' split) <;> first | rfl | simp [*])
    | ((repeat' split) <;> first | rfl | simp [*])

@[simp] theorem pilotIn_pending (m : AtkMsg) (s : State) : (pilotIn m s).pending = s.pending := by
  unfold pilotIn
  first
    | rfl
    | (dsimp only; (repeat' split) <;> first | rfl | simp [*])
    | ((repeat' split) <;> first | rfl | simp [*])

@[simp] theorem ctlIn_pending (m : AtkMsg) (s : State) : (ctlIn m s).pending = s.pending := by
  unfold ctlIn
  first
    | rfl
    | (dsimp only; (repeat' split) <;> first | rfl | simp [*])
    | ((repeat' split) <;> first | rfl | simp [*])

@[simp] theorem tokenIn_pending (tagOk : Bool) (m : AtkMsg) (s : State) : (tokenIn tagOk m s).pending = s.pending := by
  unfold tokenIn
  first
    | rfl
    | (dsimp only; (repeat' split) <;> first | rfl | simp [*])
    | ((repeat' split) <;> first | rfl | simp [*])

@[simp] theorem checkIn_pending (m : AtkMsg) (s : State) : (checkIn m s).pending = s.pending := by
  unfold checkIn
  first
    | rfl
    | (dsimp only; (repeat' split) <;> first | rfl | simp [*])
    | ((repeat' split) <;> first | rfl | simp [*])

@[simp] theorem meterKeySync_pending (s : State) : (meterKeySync s).pending = s.pending := by
  unfold meterKeySync
  first
    | rfl
    | (dsimp only; (repeat' split) <;> first | rfl | simp [*])
    | ((repeat' split) <;> first | rfl | simp [*])

@[simp] theorem transition_pending (back : Bool) (s : State) : (transition back s).pending = s.pending := by
  unfold transition
  first
    | rfl
    | (dsimp only; (repeat' split) <;> first | rfl | simp [*])
    | ((repeat' split) <;> first | rfl | simp [*])

@[simp] theorem keyUpdateIn_pending (p : List Byte) (mbx sigOk wrapOk : Bool) (s : State) : (keyUpdateIn p mbx sigOk wrapOk s).pending = s.pending := by
  unfold keyUpdateIn
  first
    | rfl
    | (dsimp only; (repeat' split) <;> first | rfl | simp [*])
    | ((repeat' split) <;> first | rfl | simp [*])

@[simp] theorem blockIn_pending (fifo : Nat) (m : AtkMsg) (s : State) : (blockIn fifo m s).pending = s.pending := by
  unfold blockIn
  first
    | rfl
    | (dsimp only; (repeat' split) <;> first | rfl | simp [*])
    | ((repeat' split) <;> first | rfl | simp [*])

@[simp] theorem meterIn_pending (m : AtkMsg) (s : State) : (meterIn m s).pending = s.pending := by
  unfold meterIn
  first
    | rfl
    | (dsimp only; (repeat' split) <;> first | rfl | simp [*])
    | ((repeat' split) <;> first | rfl | simp [*])

@[simp] theorem calIn_pending (m : AtkMsg) (s : State) : (calIn m s).pending = s.pending := by
  unfold calIn
  first
    | rfl
    | (dsimp only; (repeat' split) <;> first | rfl | simp [*])
    | ((repeat' split) <;> first | rfl | simp [*])

@[simp] theorem vehicleIn_pending (tcp : Nat) (m : AtkMsg) (s : State) : (vehicleIn tcp m s).pending = s.pending := by
  unfold vehicleIn
  first
    | rfl
    | (dsimp only; (repeat' split) <;> first | rfl | simp [*])
    | ((repeat' split) <;> first | rfl | simp [*])

@[simp] theorem sensed_pending (s : State) : (sensed s).2.pending = s.pending := by
  unfold sensed
  first
    | rfl
    | (dsimp only; (repeat' split) <;> first | rfl | simp [*])
    | ((repeat' split) <;> first | rfl | simp [*])

@[simp] theorem consume_pending (m : AtkMsg) (s : State) : (consume m s).pending = s.pending := by
  unfold consume
  first
    | rfl
    | (dsimp only; (repeat' split) <;> first | rfl | simp [*])
    | ((repeat' split) <;> first | rfl | simp [*])

@[simp] theorem arrived_pending (tagOk : Bool) (bs : List Byte) (via : Via) (s : State) : (arrived tagOk bs via s).pending = s.pending := by
  unfold arrived
  first
    | rfl
    | (dsimp only; (repeat' split) <;> first | rfl | simp [*])
    | ((repeat' split) <;> first | rfl | simp [*])

@[simp] theorem msgRow_pending (ty : Nat) (sub : Option Nat) (k : AtkMsg → State → State) (m : AtkMsg) (s : State) (hk : ∀ m u, (k m u).pending = u.pending) : (msgRow ty sub k m s).pending = s.pending := by
  unfold msgRow
  first
    | rfl
    | (dsimp only; (repeat' split) <;> first | rfl | simp [*])
    | ((repeat' split) <;> first | rfl | simp [*])

@[simp] theorem doReset_pending (k : RKind) (cause : RstCause) (s : State) : (doReset k cause s).pending = s.pending := by
  unfold doReset
  first
    | rfl
    | (dsimp only; (repeat' split) <;> first | rfl | simp [*])
    | ((repeat' split) <;> first | rfl | simp [*])

@[simp] theorem supervise_pending (v : Rails) (s : State) : (supervise v s).pending = s.pending := by
  unfold supervise
  first
    | rfl
    | (dsimp only; (repeat' split) <;> first | rfl | simp [*])
    | ((repeat' split) <;> first | rfl | simp [*])

@[simp] theorem vbatSwitch_pending (vhv : Nat) (s : State) : (vbatSwitch vhv s).pending = s.pending := by
  unfold vbatSwitch
  first
    | rfl
    | (dsimp only; (repeat' split) <;> first | rfl | simp [*])
    | ((repeat' split) <;> first | rfl | simp [*])

@[simp] theorem earlyWarning_pending (vhv pfailLow : Nat) (s : State) : (earlyWarning vhv pfailLow s).pending = s.pending := by
  unfold earlyWarning
  first
    | rfl
    | (dsimp only; (repeat' split) <;> first | rfl | simp [*])
    | ((repeat' split) <;> first | rfl | simp [*])

@[simp] theorem pllLock_pending (s : State) : (pllLock s).pending = s.pending := by
  unfold pllLock
  first
    | rfl
    | (dsimp only; (repeat' split) <;> first | rfl | simp [*])
    | ((repeat' split) <;> first | rfl | simp [*])

@[simp] theorem pllLoss_pending (s : State) : (pllLoss s).pending = s.pending := by
  unfold pllLoss
  first
    | rfl
    | (dsimp only; (repeat' split) <;> first | rfl | simp [*])
    | ((repeat' split) <;> first | rfl | simp [*])

@[simp] theorem rstCtl_pending (who : Who) (v : Word) (s : State) : (rstCtl who v s).pending = s.pending := by
  unfold rstCtl
  first
    | rfl
    | (dsimp only; (repeat' split) <;> first | rfl | simp [*])
    | ((repeat' split) <;> first | rfl | simp [*])

@[simp] theorem wdtCtl_pending (who : Who) (v : Word) (s : State) : (wdtCtl who v s).pending = s.pending := by
  unfold wdtCtl
  first
    | rfl
    | (dsimp only; (repeat' split) <;> first | rfl | simp [*])
    | ((repeat' split) <;> first | rfl | simp [*])

@[simp] theorem wdtKick_pending (who : Who) (v : Word) (s : State) : (wdtKick who v s).pending = s.pending := by
  unfold wdtKick
  first
    | rfl
    | (dsimp only; (repeat' split) <;> first | rfl | simp [*])
    | ((repeat' split) <;> first | rfl | simp [*])

@[simp] theorem wdtWarn_pending (s : State) : (wdtWarn s).pending = s.pending := by
  unfold wdtWarn
  first
    | rfl
    | (dsimp only; (repeat' split) <;> first | rfl | simp [*])
    | ((repeat' split) <;> first | rfl | simp [*])

@[simp] theorem wdtExpiry_pending (s : State) : (wdtExpiry s).pending = s.pending := by
  unfold wdtExpiry
  first
    | rfl
    | (dsimp only; (repeat' split) <;> first | rfl | simp [*])
    | ((repeat' split) <;> first | rfl | simp [*])

@[simp] theorem quietEnter_pending (who : Who) (s : State) : (quietEnter who s).pending = s.pending := by
  unfold quietEnter
  first
    | rfl
    | (dsimp only; (repeat' split) <;> first | rfl | simp [*])
    | ((repeat' split) <;> first | rfl | simp [*])

@[simp] theorem wakeRtc_pending (s : State) : (wakeRtc s).pending = s.pending := by
  unfold wakeRtc
  first
    | rfl
    | (dsimp only; (repeat' split) <;> first | rfl | simp [*])
    | ((repeat' split) <;> first | rfl | simp [*])

@[simp] theorem wakePin_pending (lowNs : Nat) (s : State) : (wakePin lowNs s).pending = s.pending := by
  unfold wakePin
  first
    | rfl
    | (dsimp only; (repeat' split) <;> first | rfl | simp [*])
    | ((repeat' split) <;> first | rfl | simp [*])

@[simp] theorem wakeNow_pending (who : Who) (s : State) : (wakeNow who s).pending = s.pending := by
  unfold wakeNow
  first
    | rfl
    | (dsimp only; (repeat' split) <;> first | rfl | simp [*])
    | ((repeat' split) <;> first | rfl | simp [*])

@[simp] theorem quietWrite_pending (who : Who) (v : Word) (s : State) : (quietWrite who v s).pending = s.pending := by
  unfold quietWrite
  first
    | rfl
    | (dsimp only; (repeat' split) <;> first | rfl | simp [*])
    | ((repeat' split) <;> first | rfl | simp [*])

@[simp] theorem flCmd_pending (who : Who) (op : Nat) (s : State) : (flCmd who op s).pending = s.pending := by
  unfold flCmd
  first
    | rfl
    | (dsimp only; (repeat' split) <;> first | rfl | simp [*])
    | ((repeat' split) <;> first | rfl | simp [*])

@[simp] theorem flEffect_pending (err : Bool) (op addr : Nat) (s : State) : (flEffect err op addr s).pending = s.pending := by
  unfold flEffect
  first
    | rfl
    | (dsimp only; (repeat' split) <;> first | rfl | simp [*])
    | ((repeat' split) <;> first | rfl | simp [*])

@[simp] theorem flDone_pending (err : Bool) (s : State) : (flDone err s).pending = s.pending := by
  unfold flDone
  first
    | rfl
    | (dsimp only; (repeat' split) <;> first | rfl | simp [*])
    | ((repeat' split) <;> first | rfl | simp [*])

@[simp] theorem qWrite_pending (who : Who) (q o v : Nat) (f : Io → Io) (s : State) : (qWrite who q o v f s).pending = s.pending := by
  unfold qWrite
  first
    | rfl
    | (dsimp only; (repeat' split) <;> first | rfl | simp [*])
    | ((repeat' split) <;> first | rfl | simp [*])

@[simp] theorem queueFill_pending (who : Who) (q : Nat) (w : Word64) (s : State) : (queueFill who q w s).pending = s.pending := by
  unfold queueFill
  first
    | rfl
    | (dsimp only; (repeat' split) <;> first | rfl | simp [*])
    | ((repeat' split) <;> first | rfl | simp [*])

@[simp] theorem queueReserve_pending (who : Who) (q : Nat) (s : State) : (queueReserve who q s).pending = s.pending := by
  unfold queueReserve
  first
    | rfl
    | (dsimp only; (repeat' split) <;> first | rfl | simp [*])
    | ((repeat' split) <;> first | rfl | simp [*])

@[simp] theorem queueLength_pending (who : Who) (q : Nat) (v : Word) (s : State) : (queueLength who q v s).pending = s.pending := by
  unfold queueLength
  first
    | rfl
    | (dsimp only; (repeat' split) <;> first | rfl | simp [*])
    | ((repeat' split) <;> first | rfl | simp [*])

@[simp] theorem queueDrain_pending (who : Who) (q : Nat) (bad : Bool) (s : State) : (queueDrain who q bad s).pending = s.pending := by
  unfold queueDrain
  first
    | rfl
    | (dsimp only; (repeat' split) <;> first | rfl | simp [*])
    | ((repeat' split) <;> first | rfl | simp [*])

@[simp] theorem packetAbandon_pending (q : Nat) (s : State) : (packetAbandon q s).pending = s.pending := by
  unfold packetAbandon
  first
    | rfl
    | (dsimp only; (repeat' split) <;> first | rfl | simp [*])
    | ((repeat' split) <;> first | rfl | simp [*])

@[simp] theorem queueFlush_pending (who : Who) (q : Nat) (s : State) : (queueFlush who q s).pending = s.pending := by
  unfold queueFlush
  first
    | rfl
    | (dsimp only; (repeat' split) <;> first | rfl | simp [*])
    | ((repeat' split) <;> first | rfl | simp [*])

@[simp] theorem queueMark_pending (who : Who) (q v : Nat) (s : State) : (queueMark who q v s).pending = s.pending := by
  unfold queueMark
  first
    | rfl
    | (dsimp only; (repeat' split) <;> first | rfl | simp [*])
    | ((repeat' split) <;> first | rfl | simp [*])

@[simp] theorem queueRewind_pending (who : Who) (q v : Nat) (s : State) : (queueRewind who q v s).pending = s.pending := by
  unfold queueRewind
  first
    | rfl
    | (dsimp only; (repeat' split) <;> first | rfl | simp [*])
    | ((repeat' split) <;> first | rfl | simp [*])

@[simp] theorem queueCtl_pending (who : Who) (q : Nat) (v : Word) (s : State) : (queueCtl who q v s).pending = s.pending := by
  unfold queueCtl
  first
    | rfl
    | (dsimp only; (repeat' split) <;> first | rfl | simp [*])
    | ((repeat' split) <;> first | rfl | simp [*])

@[simp] theorem queueFlags_pending (who : Who) (q : Nat) (v : Word) (s : State) : (queueFlags who q v s).pending = s.pending := by
  unfold queueFlags
  first
    | rfl
    | (dsimp only; (repeat' split) <;> first | rfl | simp [*])
    | ((repeat' split) <;> first | rfl | simp [*])

@[simp] theorem queueCnt_pending (who : Who) (q : Nat) (poison : Bool) (ev : Nat) (s : State) : (queueCnt who q poison ev s).pending = s.pending := by
  unfold queueCnt
  first
    | rfl
    | (dsimp only; (repeat' split) <;> first | rfl | simp [*])
    | ((repeat' split) <;> first | rfl | simp [*])

@[simp] theorem logWrite_pending (who : Who) (a : Nat) (v : Word) (f : ErrLog → ErrLog) (s : State) : (logWrite who a v f s).pending = s.pending := by
  unfold logWrite
  first
    | rfl
    | (dsimp only; (repeat' split) <;> first | rfl | simp [*])
    | ((repeat' split) <;> first | rfl | simp [*])

@[simp] theorem errPop_pending (who : Who) (a : Nat) (v : Word) (s : State) : (errPop who a v s).pending = s.pending := by
  unfold errPop
  first
    | rfl
    | (dsimp only; (repeat' split) <;> first | rfl | simp [*])
    | ((repeat' split) <;> first | rfl | simp [*])

@[simp] theorem errAck_pending (who : Who) (a : Nat) (v : Word) (s : State) : (errAck who a v s).pending = s.pending := by
  unfold errAck
  first
    | rfl
    | (dsimp only; (repeat' split) <;> first | rfl | simp [*])
    | ((repeat' split) <;> first | rfl | simp [*])

@[simp] theorem errStat_pending (who : Who) (a : Nat) (v : Word) (s : State) : (errStat who a v s).pending = s.pending := by
  unfold errStat
  first
    | rfl
    | (dsimp only; (repeat' split) <;> first | rfl | simp [*])
    | ((repeat' split) <;> first | rfl | simp [*])

@[simp] theorem errCnt_pending (who : Who) (a ev : Nat) (s : State) : (errCnt who a ev s).pending = s.pending := by
  unfold errCnt
  first
    | rfl
    | (dsimp only; (repeat' split) <;> first | rfl | simp [*])
    | ((repeat' split) <;> first | rfl | simp [*])

@[simp] theorem timeStepped_pending (d : Int) (was : Nat) (s : State) : (timeStepped d was s).pending = s.pending := by
  unfold timeStepped
  first
    | rfl
    | (dsimp only; (repeat' split) <;> first | rfl | simp [*])
    | ((repeat' split) <;> first | rfl | simp [*])

@[simp] theorem ptp_pending (ofs : Int) (port : Nat) (utc : Option Nat) (s : State) : (ptp ofs port utc s).pending = s.pending := by
  unfold ptp
  first
    | rfl
    | (dsimp only; (repeat' split) <;> first | rfl | simp [*])
    | ((repeat' split) <;> first | rfl | simp [*])

@[simp] theorem granted_pending (who : Who) (a : Nat) (v : Word) (k : State → State) (s : State) (hk : ∀ u, (k u).pending = u.pending) : (granted who a v k s).pending = s.pending := by
  unfold granted
  first
    | rfl
    | (dsimp only; (repeat' split) <;> first | rfl | simp [*])
    | ((repeat' split) <;> first | rfl | simp [*])

@[simp] theorem refused4_pending (who : Who) (a : Nat) (v : Word) (s : State) : (refused4 who a v s).pending = s.pending := by
  unfold refused4
  first
    | rfl
    | (dsimp only; (repeat' split) <;> first | rfl | simp [*])
    | ((repeat' split) <;> first | rfl | simp [*])

@[simp] theorem priceCold_pending (s : State) : (priceCold s).pending = s.pending := by
  unfold priceCold
  first
    | rfl
    | (dsimp only; (repeat' split) <;> first | rfl | simp [*])
    | ((repeat' split) <;> first | rfl | simp [*])

@[simp] theorem allocCtrl_pending (who : Who) (v : Word) (s : State) : (allocCtrl who v s).pending = s.pending := by
  unfold allocCtrl
  first
    | rfl
    | (dsimp only; (repeat' split) <;> first | rfl | simp [*])
    | ((repeat' split) <;> first | rfl | simp [*])

@[simp] theorem modelCtl_pending (who : Who) (v : Word) (s : State) : (modelCtl who v s).pending = s.pending := by
  unfold modelCtl
  exact granted_pending _ _ _ _ _ (fun u => by split <;> rfl)

@[simp] theorem srcLimit_pending (who : Who) (a kind src : Nat) (v : Word) (s : State) : (srcLimit who a kind src v s).pending = s.pending := by
  unfold srcLimit
  first
    | rfl
    | (dsimp only; (repeat' split) <;> first | rfl | simp [*])
    | ((repeat' split) <;> first | rfl | simp [*])

@[simp] theorem leaseCtrl_pending (who : Who) (v : Word) (s : State) : (leaseCtrl who v s).pending = s.pending := by
  unfold leaseCtrl
  first
    | rfl
    | (dsimp only; (repeat' split) <;> first | rfl | simp [*])
    | ((repeat' split) <;> first | rfl | simp [*])

@[simp] theorem leaseTblSel_pending (who : Who) (v : Word) (s : State) : (leaseTblSel who v s).pending = s.pending := by
  unfold leaseTblSel
  first
    | rfl
    | (dsimp only; (repeat' split) <;> first | rfl | simp [*])
    | ((repeat' split) <;> first | rfl | simp [*])

@[simp] theorem ctleCtrl_pending (who : Who) (v : Word) (s : State) : (ctleCtrl who v s).pending = s.pending := by
  unfold ctleCtrl
  first
    | rfl
    | (dsimp only; (repeat' split) <;> first | rfl | simp [*])
    | ((repeat' split) <;> first | rfl | simp [*])

@[simp] theorem slotCtl_pending (who : Who) (k : Nat) (v : Word) (s : State) : (slotCtl who k v s).pending = s.pending := by
  unfold slotCtl
  exact granted_pending _ _ _ _ _ (fun u => by first | rfl | (dsimp only; split <;> rfl))

@[simp] theorem slotShadow_pending (who : Who) (k place : Nat) (v : Word) (s : State) : (slotShadow who k place v s).pending = s.pending := by
  unfold slotShadow
  exact granted_pending _ _ _ _ _ (fun u => by first | rfl | (dsimp only; split <;> rfl))

@[simp] theorem slotInt_pending (who : Who) (k : Nat) (hi : Bool) (v : Word) (s : State) : (slotInt who k hi v s).pending = s.pending := by
  unfold slotInt
  exact granted_pending _ _ _ _ _ (fun u => by first | rfl | (dsimp only; split <;> rfl))

@[simp] theorem slotSink_pending (who : Who) (v : Word) (s : State) : (slotSink who v s).pending = s.pending := by
  unfold slotSink
  (try dsimp only)
  split <;> first | rfl | exact granted_pending _ _ _ _ _ (fun u => by first | rfl | (dsimp only; split <;> rfl))

@[simp] theorem genCtl_pending (who : Who) (g : Nat) (v : Word) (s : State) : (genCtl who g v s).pending = s.pending := by
  unfold genCtl
  exact granted_pending _ _ _ _ _ (fun u => by first | rfl | (dsimp only; split <;> rfl))

@[simp] theorem genGoal_pending (who : Who) (g : Nat) (v : Word) (s : State) : (genGoal who g v s).pending = s.pending := by
  unfold genGoal
  exact granted_pending _ _ _ _ _ (fun u => by first | rfl | (dsimp only; split <;> rfl))

@[simp] theorem genLimits_pending (who : Who) (g which : Nat) (v : Word) (s : State) : (genLimits who g which v s).pending = s.pending := by
  unfold genLimits
  exact granted_pending _ _ _ _ _ (fun u => by first | rfl | (dsimp only; split <;> rfl))

@[simp] theorem circCtl_pending (who : Who) (k : Nat) (v : Word) (s : State) : (circCtl who k v s).pending = s.pending := by
  unfold circCtl
  exact granted_pending _ _ _ _ _ (fun u => by first | rfl | (dsimp only; split <;> rfl))

@[simp] theorem obsWrite_pending (who : Who) (a : Nat) (v : Word) (s : State) : (obsWrite who a v s).pending = s.pending := by
  unfold obsWrite
  split
  · exact granted_pending _ _ _ _ _ (fun u => onIo_pending _ u)
  · exact granted_pending _ _ _ _ _ (fun u => onIo_pending _ u)

@[simp] theorem pntCmd_pending (who : Who) (op : Nat) (s : State) : (pntCmd who op s).pending = s.pending := by
  unfold pntCmd
  first
    | rfl
    | (dsimp only; (repeat' split) <;> first | rfl | simp [*])
    | ((repeat' split) <;> first | rfl | simp [*])

@[simp] theorem pntCtrl_pending (who : Who) (v : Word) (s : State) : (pntCtrl who v s).pending = s.pending := by
  unfold pntCtrl
  first
    | rfl
    | (dsimp only; (repeat' split) <;> first | rfl | simp [*])
    | ((repeat' split) <;> first | rfl | simp [*])

@[simp] theorem canTiming_pending (who : Who) (a : Nat) (v : Word) (s : State) : (canTiming who a v s).pending = s.pending := by
  unfold canTiming
  (try dsimp only)
  split <;> first | rfl | exact granted_pending _ _ _ _ _ (fun u => by first | rfl | (dsimp only; split <;> rfl))

@[simp] theorem canCtrl_pending (who : Who) (c : Nat) (v : Word) (s : State) : (canCtrl who c v s).pending = s.pending := by
  unfold canCtrl
  first
    | rfl
    | (dsimp only; (repeat' split) <;> first | rfl | simp [*])
    | ((repeat' split) <;> first | rfl | simp [*])

@[simp] theorem canTxq_pending (who : Who) (c : Nat) (v : Word) (busy : Option Nat) (ph : CanPhase) (s : State) : (canTxq who c v busy ph s).pending = s.pending := by
  unfold canTxq
  first
    | rfl
    | (dsimp only; (repeat' split) <;> first | rfl | simp [*])
    | ((repeat' split) <;> first | rfl | simp [*])

@[simp] theorem canSel_pending (who : Who) (c : Nat) (v : Word) (s : State) : (canSel who c v s).pending = s.pending := by
  unfold canSel
  first
    | rfl
    | (dsimp only; (repeat' split) <;> first | rfl | simp [*])
    | ((repeat' split) <;> first | rfl | simp [*])

@[simp] theorem fabCtrl_pending (who : Who) (v : Word) (s : State) : (fabCtrl who v s).pending = s.pending := by
  unfold fabCtrl
  first
    | rfl
    | (dsimp only; (repeat' split) <;> first | rfl | simp [*])
    | ((repeat' split) <;> first | rfl | simp [*])

@[simp] theorem spnCtl_pending (who : Who) (v : Word) (maps : List (Nat × List Int × Nat)) (s : State) : (spnCtl who v maps s).pending = s.pending := by
  unfold spnCtl
  first
    | rfl
    | (dsimp only; (repeat' split) <;> first | rfl | simp [*])
    | ((repeat' split) <;> first | rfl | simp [*])

@[simp] theorem certChoose_pending (who : Who) (v : Word) (s : State) : (certChoose who v s).pending = s.pending := by
  unfold certChoose
  first
    | rfl
    | (dsimp only; (repeat' split) <;> first | rfl | simp [*])
    | ((repeat' split) <;> first | rfl | simp [*])

@[simp] theorem certCtl_pending (who : Who) (v : Word) (parses : Bool) (s : State) : (certCtl who v parses s).pending = s.pending := by
  unfold certCtl
  first
    | rfl
    | (dsimp only; (repeat' split) <;> first | rfl | simp [*])
    | ((repeat' split) <;> first | rfl | simp [*])

@[simp] theorem certWord_pending (who : Who) (v : Word) (s : State) : (certWord who v s).pending = s.pending := by
  unfold certWord
  first
    | rfl
    | (dsimp only; (repeat' split) <;> first | rfl | simp [*])
    | ((repeat' split) <;> first | rfl | simp [*])

@[simp] theorem mtrCmd_pending (who : Who) (n : Nat) (f : MtrSt × Io → MtrSt × Io) (s : State) : (mtrCmd who n f s).pending = s.pending := by
  unfold mtrCmd
  first
    | rfl
    | (dsimp only; (repeat' split) <;> first | rfl | simp [*])
    | ((repeat' split) <;> first | rfl | simp [*])

@[simp] theorem hlmCmd_pending (who : Who) (n : Nat) (f : State → State) (s : State) (hk : ∀ u, (f u).pending = u.pending) : (hlmCmd who n f s).pending = s.pending := by
  unfold hlmCmd
  first
    | rfl
    | (dsimp only; (repeat' split) <;> first | rfl | simp [*])
    | ((repeat' split) <;> first | rfl | simp [*])

@[simp] theorem hlmProvision_pending (sigOk : Bool) (s : State) : (hlmProvision sigOk s).pending = s.pending := by
  unfold hlmProvision
  dsimp only
  split
  · exact (transition_pending _ _).trans (onHlm_pending _ _)
  · exact onHlm_pending _ _

@[simp] theorem hlmReturn_pending (sigOk : Bool) (s : State) : (hlmReturn sigOk s).pending = s.pending := by
  unfold hlmReturn
  dsimp only
  split
  · exact (transition_pending _ _).trans (onHlm_pending _ _)
  · exact onHlm_pending _ _

@[simp] theorem mbxUpdate_pending (sigOk wrapOk : Bool) (s : State) : (mbxUpdate sigOk wrapOk s).pending = s.pending := by
  unfold mbxUpdate
  first
    | rfl
    | (dsimp only; (repeat' split) <;> first | rfl | simp [*])
    | ((repeat' split) <;> first | rfl | simp [*])

@[simp] theorem mtrMbx_pending (who : Who) (op : Nat) (s : State) : (mtrMbx who op s).pending = s.pending := by
  unfold mtrMbx
  first
    | rfl
    | (dsimp only; (repeat' split) <;> first | rfl | simp [*])
    | ((repeat' split) <;> first | rfl | simp [*])

@[simp] theorem hlmMbx_pending (who : Who) (op : Nat) (s : State) : (hlmMbx who op s).pending = s.pending := by
  unfold hlmMbx
  dsimp only
  split
  all_goals first
    | exact hlmCmd_pending _ _ _ _ (fun u => rfl)
    | exact (hlmCmd_pending _ _ _ _ (fun u => hlmProvision_pending _ u)).trans (sensed_pending s)
    | exact (hlmCmd_pending _ _ _ _ (fun u => hlmReturn_pending _ u)).trans (sensed_pending s)
    | exact (hlmCmd_pending _ _ _ _ (fun u => mbxUpdate_pending _ _ u)).trans ((sensed_pending _).trans (sensed_pending s))

@[simp] theorem calWord_pending (who : Who) (e w : Nat) (v : Word) (s : State) : (calWord who e w v s).pending = s.pending := by
  unfold calWord
  first
    | rfl
    | (dsimp only; (repeat' split) <;> first | rfl | simp [*])
    | ((repeat' split) <;> first | rfl | simp [*])

@[simp] theorem ackWrite_pending (who : Who) (v : Word) (s : State) : (ackWrite who v s).pending = s.pending := by
  unfold ackWrite
  first
    | rfl
    | (dsimp only; (repeat' split) <;> first | rfl | simp [*])
    | ((repeat' split) <;> first | rfl | simp [*])

@[simp] theorem mirCtrl_pending (who : Who) (v : Word) (s : State) : (mirCtrl who v s).pending = s.pending := by
  unfold mirCtrl
  first
    | rfl
    | (dsimp only; (repeat' split) <;> first | rfl | simp [*])
    | ((repeat' split) <;> first | rfl | simp [*])

@[simp] theorem chStat_pending (who : Who) (n : Nat) (v : Word) (s : State) : (chStat who n v s).pending = s.pending := by
  unfold chStat
  exact granted_pending _ _ _ _ _ (fun u => by first | rfl | (dsimp only; split <;> rfl))

@[simp] theorem chDuty_pending (who : Who) (n : Nat) (v : Word) (s : State) : (chDuty who n v s).pending = s.pending := by
  unfold chDuty
  first
    | rfl
    | (dsimp only; (repeat' split) <;> first | rfl | simp [*])
    | ((repeat' split) <;> first | rfl | simp [*])

@[simp] theorem lswCtrl_pending (who : Who) (v : Word) (s : State) : (lswCtrl who v s).pending = s.pending := by
  unfold lswCtrl
  first
    | rfl
    | (dsimp only; (repeat' split) <;> first | rfl | simp [*])
    | ((repeat' split) <;> first | rfl | simp [*])

@[simp] theorem bankCfg_pending (who : Who) (b : Nat) (v : Word) (s : State) : (bankCfg who b v s).pending = s.pending := by
  unfold bankCfg
  exact granted_pending _ _ _ _ _ (fun u => by dsimp only; split <;> rfl)

@[simp] theorem queRegWrite_pending (who : Who) (a o : Nat) (v : Word) (s : State) : (queRegWrite who a o v s).pending = s.pending := by
  unfold queRegWrite
  first
    | rfl
    | (dsimp only; (repeat' split) <;> first | rfl | simp [*])
    | ((repeat' split) <;> first | rfl | simp [*])

@[simp] theorem canRegWrite_pending (who : Who) (c a o : Nat) (v : Word) (s : State) : (canRegWrite who c a o v s).pending = s.pending := by
  unfold canRegWrite
  first
    | rfl
    | (dsimp only; (repeat' split) <;> first | rfl | simp [*])
    | ((repeat' split) <;> first | rfl | simp [*])

@[simp] theorem ctleRegWrite_pending (who : Who) (a o : Nat) (v : Word) (s : State) : (ctleRegWrite who a o v s).pending = s.pending := by
  unfold ctleRegWrite
  first
    | rfl
    | (dsimp only; (repeat' split) <;> first | rfl | simp [*])
    | ((repeat' split) <;> first | rfl | simp [*])

@[simp] theorem allocRegWrite_pending (who : Who) (a o : Nat) (v : Word) (s : State) : (allocRegWrite who a o v s).pending = s.pending := by
  unfold allocRegWrite
  first
    | rfl
    | (dsimp only; (repeat' split) <;> first | rfl | simp [*])
    | ((repeat' split) <;> first | rfl | simp [*])

@[simp] theorem pntRegWrite_pending (who : Who) (a o : Nat) (v : Word) (s : State) : (pntRegWrite who a o v s).pending = s.pending := by
  unfold pntRegWrite
  split
  case h_2 => split <;> first | rfl | exact granted_pending _ _ _ _ _ (fun u => by first | rfl | (dsimp only; split <;> rfl))
  all_goals first | rfl | exact pntCtrl_pending _ _ _

@[simp] theorem lswRegWrite_pending (who : Who) (a o : Nat) (v : Word) (s : State) : (lswRegWrite who a o v s).pending = s.pending := by
  unfold lswRegWrite
  first
    | rfl
    | (dsimp only; (repeat' split) <;> first | rfl | simp [*])
    | ((repeat' split) <;> first | rfl | simp [*])

@[simp] theorem cotRegWrite_pending (who : Who) (a o : Nat) (v : Word) (s : State) : (cotRegWrite who a o v s).pending = s.pending := by
  unfold cotRegWrite
  first
    | rfl
    | (dsimp only; (repeat' split) <;> first | rfl | simp [*])
    | ((repeat' split) <;> first | rfl | simp [*])

@[simp] theorem regWrite_pending (who : Who) (a : Nat) (v : Word) (s : State) : (regWrite who a v s).pending = s.pending := by
  unfold regWrite
  first
    | rfl
    | (dsimp only; (repeat' split) <;> first | rfl | simp [*])
    | ((repeat' split) <;> first | rfl | simp [*])

@[simp] theorem plainRead_pending (who : Who) (a ev : Nat) (s : State) : (plainRead who a ev s).pending = s.pending := by
  unfold plainRead
  first
    | rfl
    | (dsimp only; (repeat' split) <;> first | rfl | simp [*])
    | ((repeat' split) <;> first | rfl | simp [*])

@[simp] theorem regRead_pending (who : Who) (a ev : Nat) (s : State) : (regRead who a ev s).pending = s.pending := by
  unfold regRead
  first
    | rfl
    | (dsimp only; (repeat' split) <;> first | rfl | simp [*])
    | ((repeat' split) <;> first | rfl | simp [*])

@[simp] theorem addBad_pending (seq : Nat) (s : State) : (addBad seq s).pending = s.pending := by
  unfold addBad
  first
    | rfl
    | (dsimp only; (repeat' split) <;> first | rfl | simp [*])
    | ((repeat' split) <;> first | rfl | simp [*])

@[simp] theorem reject_pending (seq : Nat) (r : Rej) (s : State) : (reject seq r s).pending = s.pending := by
  unfold reject
  first
    | rfl
    | (dsimp only; (repeat' split) <;> first | rfl | simp [*])
    | ((repeat' split) <;> first | rfl | simp [*])

@[simp] theorem settleLoad_pending (seq : Nat) (x : Load) : (settleLoad seq x).pending = x.1.pending := by
  unfold settleLoad
  first
    | rfl
    | (dsimp only; (repeat' split) <;> first | rfl | simp [*])
    | ((repeat' split) <;> first | rfl | simp [*])

@[simp] theorem svnNote_pending (x : Sect) (s : State) : (svnNote x s).pending = s.pending := by
  unfold svnNote
  first
    | rfl
    | (dsimp only; (repeat' split) <;> first | rfl | simp [*])
    | ((repeat' split) <;> first | rfl | simp [*])

@[simp] theorem setMeas_pending (place : Nat) (b : Nat → Byte) (s : State) : (setMeas place b s).pending = s.pending := by
  unfold setMeas
  first
    | rfl
    | (dsimp only; (repeat' split) <;> first | rfl | simp [*])
    | ((repeat' split) <;> first | rfl | simp [*])

@[simp] theorem resumeWipe_pending (s : State) : (resumeWipe s).pending = s.pending := by
  unfold resumeWipe
  split <;> rfl

theorem check_pending (ok : Bool) (r : Rej) (s : State) : (Load.check ok r s).1.pending = s.pending := rfl

theorem andThen_pending {x : Load} {f : State → Load} {p : List Instr} (hx : x.1.pending = p) (hf : ∀ t, (f t).1.pending = t.pending) :
    (x.andThen f).1.pending = p := by
  unfold Load.andThen
  split
  · exact hx
  · exact (hf _).trans hx

@[simp] theorem startTrusted_pending (sigOk : Bool) (base : Nat) (s : State) : (startTrusted sigOk base s).1.pending = s.pending := by
  unfold startTrusted
  first
    | rfl
    | (dsimp only; (repeat' split) <;> first | rfl | simp [*])
    | ((repeat' split) <;> first | rfl | simp [*])

theorem select_pending : ∀ (l : List (Nat × Nat)) (s : State), (select l s).1.pending = s.pending
  | [], _ => rfl
  | (base, seq) :: r, s => by
    unfold select
    split
    · dsimp only
      split
      · exact (select_pending r _).trans (addBad_pending _ _)
      · rfl
    · rfl

@[simp] theorem bootRom_pending (sigOk : Bool) (s : State) : (bootRom sigOk s).pending = s.pending := by
  unfold bootRom
  split
  · dsimp only
    split
    · exact (deferredErase_pending _).trans (resumeWipe_pending s)
    · split
      · exact (select_pending _ _).trans ((deferredErase_pending _).trans (resumeWipe_pending s))
      · exact (settleLoad_pending _ _).trans ((startTrusted_pending _ _ _).trans
          ((select_pending _ _).trans ((deferredErase_pending _).trans (resumeWipe_pending s))))
  · rfl

@[simp] theorem bootRescan_pending (s : State) : (bootRescan s).pending = s.pending := by
  unfold bootRescan
  first
    | rfl
    | (dsimp only; (repeat' split) <;> first | rfl | simp [*])
    | ((repeat' split) <;> first | rfl | simp [*])

theorem ioLoad_pending {a : Nat} {v : Word} {s : State} {x : State × Bool} (h : ioLoad a v s = some x) : x.1.pending = s.pending := by
  unfold ioLoad at h
  dsimp only at h
  split at h
  · cases h; rfl
  · split at h
    · cases h; rfl
    · split at h
      · split at h <;> (cases h; rfl)
      · cases h

@[simp] theorem imgWrite_pending (tag ofs a : Nat) (v : Word) (s : State) : (imgWrite tag ofs a v s).1.pending = s.pending := by
  unfold imgWrite
  dsimp only
  split
  · rfl
  · split
    · rename_i x hx
      split at hx
      · exact ioLoad_pending hx
      · exact absurd hx (by simp)
    · split
      · rfl
      · split
        · exact regWrite_pending _ _ _ _
        · split <;> exact regWrite_pending _ _ _ _

theorem imgWords_pending (tag : Nat) (x : RRec) : ∀ (l : List Word) (i : Nat) (s : State), (imgWords tag x i l s).1.pending = s.pending
  | [], _, _ => rfl
  | v :: r, i, s => andThen_pending (imgWrite_pending _ _ _ _ _) (fun t => imgWords_pending tag x r (i + 1) t)

theorem imgRecords_pending (tag : Nat) : ∀ (l : List RRec) (s : State), (imgRecords tag l s).1.pending = s.pending
  | [], _ => rfl
  | x :: r, s => andThen_pending (imgWords_pending _ _ _ _ _) (fun t => imgRecords_pending tag r t)

@[simp] theorem loadList_pending (x : Sect) (skip : Nat) (s : State) : (loadList x skip s).1.pending = s.pending := by
  unfold loadList
  split
  · rfl
  · exact imgRecords_pending _ _ _

@[simp] theorem loadSecurity_pending (x : Sect) (s : State) : (loadSecurity x s).1.pending = s.pending := by
  unfold loadSecurity
  first
    | rfl
    | (dsimp only; (repeat' split) <;> first | rfl | simp [*])
    | ((repeat' split) <;> first | rfl | simp [*])

@[simp] theorem loadSystem_pending (x : Sect) (s : State) : (loadSystem x s).1.pending = s.pending := by
  unfold loadSystem
  first
    | rfl
    | (dsimp only; (repeat' split) <;> first | rfl | simp [*])
    | ((repeat' split) <;> first | rfl | simp [*])

@[simp] theorem loadSafety_pending (x : Sect) (s : State) : (loadSafety x s).1.pending = s.pending := by
  unfold loadSafety
  exact andThen_pending (loadList_pending _ _ _) (fun t => rfl)

@[simp] theorem loadModel_pending (x : Sect) (s : State) : (loadModel x s).1.pending = s.pending := by
  unfold loadModel
  first
    | rfl
    | (dsimp only; (repeat' split) <;> first | rfl | simp [*])
    | ((repeat' split) <;> first | rfl | simp [*])

@[simp] theorem loadThermal_pending (x : Sect) (s : State) : (loadThermal x s).1.pending = s.pending := by
  unfold loadThermal
  dsimp only
  split
  · exact check_pending _ _ _
  · rfl

@[simp] theorem startSepia_pending (ev : BootEv) (lp : List Byte) (s : State) : (startSepia ev lp s).pending = s.pending := by
  unfold startSepia
  first
    | rfl
    | (dsimp only; (repeat' split) <;> first | rfl | simp [*])
    | ((repeat' split) <;> first | rfl | simp [*])

@[simp] theorem loadLegal_pending (ev : BootEv) (x : Option Sect) (s : State) : (loadLegal ev x s).1.pending = s.pending := by
  unfold loadLegal
  first
    | rfl
    | (dsimp only; (repeat' split) <;> first | rfl | simp [*])
    | ((repeat' split) <;> first | rfl | simp [*])

@[simp] theorem loadNetwork_pending (x : Sect) (s : State) : (loadNetwork x s).1.pending = s.pending := by
  unfold loadNetwork
  first
    | rfl
    | (dsimp only; (repeat' split) <;> first | rfl | simp [*])
    | ((repeat' split) <;> first | rfl | simp [*])

@[simp] theorem loadIo_pending (x : Sect) (s : State) : (loadIo x s).1.pending = s.pending := by
  unfold loadIo
  exact andThen_pending (loadList_pending _ _ _) (fun t => onPow_pending _ t)

@[simp] theorem loadSession_pending (x : Option Sect) (s : State) : (loadSession x s).1.pending = s.pending := by
  unfold loadSession
  refine andThen_pending ?_ (fun t => rfl)
  split
  · exact loadList_pending _ _ _
  · rfl

theorem pointCmds_pending : ∀ (k : Nat) (p : List Byte) (s : State), (pointCmds k p s).1.pending = s.pending
  | _, [], _ => by unfold pointCmds; rfl
  | 0, _ :: _, _ => by unfold pointCmds; rfl
  | k + 1, b :: l, s => by
    unfold pointCmds
    dsimp only
    split
    · exact pointCmds_pending k _ _
    · rfl

@[simp] theorem loadPoints_pending (x : Sect) (s : State) : (loadPoints x s).1.pending = s.pending := by
  unfold loadPoints
  dsimp only
  split
  · exact pointCmds_pending _ _ _
  · rfl

@[simp] theorem loadCode_pending (u : Sect) (apps : List Sect) (s : State) : (loadCode u apps s).pending = s.pending := by
  unfold loadCode
  first
    | rfl
    | (dsimp only; (repeat' split) <;> first | rfl | simp [*])
    | ((repeat' split) <;> first | rfl | simp [*])

@[simp] theorem blocksStart_pending (seq : Nat) (s : State) : (blocksStart seq s).pending = s.pending := by
  unfold blocksStart
  first
    | rfl
    | (dsimp only; (repeat' split) <;> first | rfl | simp [*])
    | ((repeat' split) <;> first | rfl | simp [*])

@[simp] theorem optional_pending (x : Option Sect) (f : Sect → State → Load) (s : State) (hk : ∀ y u, (f y u).1.pending = u.pending) : (optional x f s).1.pending = s.pending := by
  unfold optional
  first
    | rfl
    | (dsimp only; (repeat' split) <;> first | rfl | simp [*])
    | ((repeat' split) <;> first | rfl | simp [*])

@[simp] theorem verify_pending (ev : BootEv) (base len : Nat) (xs : List Sect) (s : State) : (verify ev base len xs s).1.pending = s.pending := by
  unfold verify
  dsimp only
  split
  · rfl
  · exact foldl_pending (fun t x => svnNote_pending x t) _ _

@[simp] theorem loadImage_pending (ev : BootEv) (base len seq : Nat) (s : State) : (loadImage ev base len seq s).1.pending = s.pending := by
  unfold loadImage
  split
  · rfl
  · refine andThen_pending (verify_pending _ _ _ _ _) (fun t => ?_)
    split
    · dsimp only
      split
      · rfl
      · refine andThen_pending ?_ (fun u => (blocksStart_pending _ _).trans (loadCode_pending _ _ u))
        refine andThen_pending ?_ (fun u => optional_pending _ _ _ (fun y v => loadPoints_pending y v))
        refine andThen_pending ?_ (fun u => loadSession_pending _ u)
        refine andThen_pending ?_ (fun u => optional_pending _ _ _ (fun y v => loadList_pending y _ v))
        refine andThen_pending ?_ (fun u => optional_pending _ _ _ (fun y v => loadIo_pending y v))
        refine andThen_pending ?_ (fun u => optional_pending _ _ _ (fun y v => loadNetwork_pending y v))
        refine andThen_pending ?_ (fun u => loadLegal_pending _ _ u)
        refine andThen_pending ?_ (fun u => optional_pending _ _ _ (fun y v => loadThermal_pending y v))
        refine andThen_pending ?_ (fun u => loadModel_pending _ u)
        refine andThen_pending ?_ (fun u => loadSafety_pending _ u)
        refine andThen_pending ?_ (fun u => loadSystem_pending _ u)
        refine (loadSecurity_pending _ _).trans ?_
        dsimp only
        simp only [setMeas_pending]
    · rfl

@[simp] theorem trustedBoot_pending (ev : BootEv) (s : State) : (trustedBoot ev s).pending = s.pending := by
  unfold trustedBoot
  split
  · exact (settleLoad_pending _ _).trans (loadImage_pending _ _ _ _ s)
  · rfl

@[simp] theorem tamper_pending (src : Nat) (s : State) : (tamper src s).pending = s.pending := by
  unfold tamper
  first
    | rfl
    | (dsimp only; (repeat' split) <;> first | rfl | simp [*])
    | ((repeat' split) <;> first | rfl | simp [*])

end State
end Sys2Proof.Machine
end

