-- ==== Sys2Proof/Laws/Tbl.lean ====
section
/-! SUPPORT. Sys2Proof/Laws/Tbl.lean: the laws of sparse tables: read after write, and that every operation keeps the canonical
form. -/
namespace Sys2Proof.Machine

variable {α : Type}

/-! Read after write, in every table. -/

theorem Tbl.get_del_self (d : α) (k : Nat) : ∀ t : Tbl α, (t.del k).get d k = d
  | [] => rfl
  | (k', v) :: r => by
    have ih := Tbl.get_del_self d k r
    unfold Tbl.del at ih ⊢
    rw [List.filter_cons]
    split
    · rename_i h
      have hne : k ≠ k' := fun e => by simp [e] at h
      rw [Tbl.get, if_neg hne]
      exact ih
    · exact ih

theorem Tbl.get_del_ne (d : α) {k j : Nat} (hj : j ≠ k) : ∀ t : Tbl α, (t.del k).get d j = t.get d j
  | [] => rfl
  | (k', v) :: r => by
    have ih := Tbl.get_del_ne d hj r
    unfold Tbl.del at ih ⊢
    rw [List.filter_cons]
    split
    · unfold Tbl.get
      split
      · rfl
      · exact ih
    · rename_i h
      have he : k' = k := by simpa using h
      rw [ih]
      simp [Tbl.get, he, hj]

theorem Tbl.get_put_self (d v : α) (k : Nat) : ∀ t : Tbl α, (t.put k v).get d k = v
  | [] => by simp [Tbl.put, Tbl.get]
  | (k', v') :: r => by
    unfold Tbl.put
    split
    · simp [Tbl.get]
    · split
      · simp [Tbl.get]
      · rename_i hne
        rw [Tbl.get, if_neg hne]
        exact Tbl.get_put_self d v k r

theorem Tbl.get_put_ne (d v : α) {k j : Nat} (hj : j ≠ k) : ∀ t : Tbl α, (t.put k v).get d j = t.get d j
  | [] => by simp [Tbl.put, Tbl.get, hj]
  | (k', v') :: r => by
    unfold Tbl.put
    split
    · simp [Tbl.get, hj]
    · split
      · rename_i he
        simp [Tbl.get, ← he, hj]
      · unfold Tbl.get
        split
        · rfl
        · exact Tbl.get_put_ne d v hj r

section
variable [DecidableEq α]

/-- Reading what was written. -/
@[simp] theorem Tbl.get_set_self (t : Tbl α) (d : α) (k : Nat) (v : α) : (t.set d k v).get d k = v := by
  unfold Tbl.set
  split
  · rename_i h
    rw [h]
    exact Tbl.get_del_self d k t
  · exact Tbl.get_put_self d v k t

/-- A write leaves every other key alone. -/
theorem Tbl.get_set_ne (t : Tbl α) (d e : α) {k j : Nat} (v : α) (hj : j ≠ k) : (t.set d k v).get e j = t.get e j := by
  unfold Tbl.set
  split
  · exact Tbl.get_del_ne e hj t
  · exact Tbl.get_put_ne e v hj t

end

/-! The canonical form. -/

theorem Tbl.above_mono {lo lo' : Nat} (h : lo ≤ lo') : ∀ {t : Tbl α}, Tbl.above lo' t = true → Tbl.above lo t = true
  | [], _ => rfl
  | (k, v) :: r, ht => by
    simp only [Tbl.above, Bool.and_eq_true, decide_eq_true_eq] at ht ⊢
    exact ⟨Nat.lt_of_le_of_lt h ht.1, ht.2⟩

theorem Tbl.filter_above {p : Nat × α → Bool} : ∀ {lo : Nat} {t : Tbl α}, Tbl.above lo t = true → Tbl.above lo (t.filter p) = true
  | _, [], _ => rfl
  | lo, (k, v) :: r, h => by
    simp only [Tbl.above, Bool.and_eq_true, decide_eq_true_eq] at h
    have ih := Tbl.filter_above (p := p) h.2
    rw [List.filter_cons]
    split
    · simp only [Tbl.above, Bool.and_eq_true, decide_eq_true_eq]
      exact ⟨h.1, ih⟩
    · exact Tbl.above_mono (Nat.le_of_lt h.1) ih

theorem Tbl.filter_all {p q : Nat × α → Bool} {t : Tbl α} (h : t.all q = true) : (t.filter p).all q = true := by
  rw [List.all_eq_true] at h ⊢
  intro x hx
  exact h x (List.mem_filter.1 hx).1

theorem Tbl.put_above {lo k : Nat} (v : α) (hk : lo < k) : ∀ {t : Tbl α}, Tbl.above lo t = true → Tbl.above lo (t.put k v) = true
  | [], _ => by simp [Tbl.put, Tbl.above, hk]
  | (k', v') :: r, ht => by
    simp only [Tbl.above, Bool.and_eq_true, decide_eq_true_eq] at ht
    unfold Tbl.put
    split
    · rename_i hlt
      simp [Tbl.above, ht.2, hlt, hk]
    · split
      · rename_i _ he
        subst he
        simp [Tbl.above, hk, ht.2]
      · simp only [Tbl.above, Bool.and_eq_true, decide_eq_true_eq]
        exact ⟨ht.1, Tbl.put_above v (by omega) ht.2⟩

variable [DecidableEq α]

theorem Tbl.put_all {d : Nat → α} {k : Nat} {v : α} (hv : v ≠ d k) :
    ∀ {t : Tbl α}, (t.all fun e => decide (e.2 ≠ d e.1)) = true → ((t.put k v).all fun e => decide (e.2 ≠ d e.1)) = true
  | [], _ => by
    rw [Tbl.put, List.all_cons, Bool.and_eq_true]
    exact ⟨decide_eq_true hv, rfl⟩
  | (k', v') :: r, ht => by
    have hc := ht
    rw [List.all_cons, Bool.and_eq_true] at ht
    unfold Tbl.put
    split
    · rw [List.all_cons, Bool.and_eq_true]
      exact ⟨decide_eq_true hv, hc⟩
    · split
      · rw [List.all_cons, Bool.and_eq_true]
        exact ⟨decide_eq_true hv, ht.2⟩
      · rw [List.all_cons, Bool.and_eq_true]
        exact ⟨ht.1, Tbl.put_all hv ht.2⟩

/-- The canonical form, entry by entry. -/
theorem Tbl.wf_cons {d : Nat → α} {k : Nat} {v : α} {r : Tbl α} :
    Tbl.wf d ((k, v) :: r) = true ↔ Tbl.above k r = true ∧ v ≠ d k ∧ (r.all fun e => decide (e.2 ≠ d e.1)) = true := by
  simp [Tbl.wf]

theorem Tbl.wf_of {d : Nat → α} {lo : Nat} {t : Tbl α} (ha : Tbl.above lo t = true)
    (hd : (t.all fun e => decide (e.2 ≠ d e.1)) = true) : Tbl.wf d t = true := by
  cases t with
  | nil => rfl
  | cons e r =>
    obtain ⟨k, v⟩ := e
    simp only [Tbl.above, Bool.and_eq_true, decide_eq_true_eq] at ha
    simp only [Tbl.wf, Bool.and_eq_true]
    exact ⟨ha.2, hd⟩

theorem Tbl.wf_all {d : Nat → α} {t : Tbl α} (h : t.wf d = true) : (t.all fun e => decide (e.2 ≠ d e.1)) = true := by
  simp only [Tbl.wf, Bool.and_eq_true] at h
  exact h.2

/-- Dropping entries keeps the canonical form. -/
theorem Tbl.filter_wf {d : Nat → α} {p : Nat × α → Bool} {t : Tbl α} (h : t.wf d = true) : Tbl.wf d (t.filter p) = true := by
  cases t with
  | nil => rfl
  | cons e r =>
    obtain ⟨k, v⟩ := e
    rw [Tbl.wf_cons] at h
    rw [List.filter_cons]
    split
    · exact Tbl.wf_cons.2 ⟨Tbl.filter_above h.1, h.2.1, Tbl.filter_all h.2.2⟩
    · exact Tbl.wf_of (Tbl.filter_above h.1) (Tbl.filter_all h.2.2)

theorem Tbl.keep_wf {d : Nat → α} {p : Nat → α → Bool} {t : Tbl α} (h : t.wf d = true) : (t.keep p).wf d = true :=
  Tbl.filter_wf h

theorem Tbl.put_wf {d : Nat → α} {k : Nat} {v : α} {t : Tbl α} (hv : v ≠ d k) (h : t.wf d = true) : (t.put k v).wf d = true := by
  cases t with
  | nil => exact Tbl.wf_cons.2 ⟨rfl, hv, rfl⟩
  | cons e r =>
    obtain ⟨k', v'⟩ := e
    have hall := Tbl.wf_all h
    rw [Tbl.wf_cons] at h
    unfold Tbl.put
    split
    · rename_i hlt
      exact Tbl.wf_cons.2 ⟨by simp [Tbl.above, hlt, h.1], hv, hall⟩
    · split
      · rename_i he
        subst he
        exact Tbl.wf_cons.2 ⟨h.1, hv, h.2.2⟩
      · exact Tbl.wf_cons.2 ⟨Tbl.put_above v (by omega) h.1, h.2.1, Tbl.put_all hv h.2.2⟩

/-- A write keeps the canonical form. -/
theorem Tbl.set_wf {d : Nat → α} {k : Nat} {v : α} {t : Tbl α} (h : t.wf d = true) : (t.set (d k) k v).wf d = true := by
  unfold Tbl.set
  split
  · exact Tbl.filter_wf h
  · rename_i hv
    exact Tbl.put_wf hv h

end Sys2Proof.Machine
end

