-- ==== Sys2Proof/Laws/Io.lean ====
section
/-! SUPPORT. Sys2Proof/Laws/Io.lean: what the operations on registers, events, logs and queues change, and what they leave. -/
namespace Sys2Proof.Machine
namespace Io

/-! Registers: read after write. -/

@[simp] theorem reg_setReg_self (io : Io) (a : Nat) (w : Word) : (io.setReg a w).reg a = w := Tbl.get_set_self _ _ _ _

theorem reg_setReg_ne (io : Io) {a b : Nat} (w : Word) (h : b ≠ a) : (io.setReg a w).reg b = io.reg b :=
  Tbl.get_set_ne _ _ _ _ h

theorem reg_setFld_ne (io : Io) {a b : Nat} (hi lo v : Nat) (h : b ≠ a) : (io.setFld a hi lo v).reg b = io.reg b :=
  reg_setReg_ne io _ h

theorem reg_setFlag_ne (io : Io) {a b : Nat} (i : Nat) (x : Bool) (h : b ≠ a) : (io.setFlag a i x).reg b = io.reg b :=
  reg_setReg_ne io _ h

theorem reg_evt_ne (io : Io) {base b : Nat} (i : Nat) (h : b ≠ base + 0x80) : (io.evt base i).reg b = io.reg b :=
  reg_setReg_ne io _ h

theorem reg_count_ne (io : Io) {a b : Nat} (h : b ≠ a) : (io.count a).reg b = io.reg b := reg_setReg_ne io _ h

@[simp] theorem reg_count_self (io : Io) (a : Nat) : (io.count a).reg a = incSat (io.reg a) := reg_setReg_self io a _

/-- A field reads as written. -/
theorem fld_setFld_self (io : Io) {a hi lo v : Nat} (h1 : lo ≤ hi) (h2 : hi < 32) :
    (io.setFld a hi lo v).fld a hi lo = v % 2 ^ (hi - lo + 1) := by
  unfold fld setFld
  rw [reg_setReg_self]
  exact bits_setBits_self h1 h2

/-- A flag reads as written. -/
theorem flag_setFlag_self (io : Io) {a i : Nat} (b : Bool) (h : i < 32) : (io.setFlag a i b).flag a i = b := by
  unfold flag setFlag
  rw [fld_setFld_self io (Nat.le_refl i) h]
  cases b <;> simp [b2n]

/-- An event bit reads 1 once it is set. -/
theorem flag_evt_self (io : Io) {base i : Nat} (h : i < 32) : (io.evt base i).flag (base + 0x80) i = true :=
  flag_setFlag_self io true h

/-! Errors: a log takes the record, no register and no queue changes. -/

@[simp] theorem errRec_regs (io : Io) (b : Block) (n : Nat) (e : ErrRec) : (io.errRec b n e).regs = io.regs := by
  unfold errRec; dsimp only; (repeat' split) <;> rfl

@[simp] theorem errRec_reg (io : Io) (b : Block) (n : Nat) (e : ErrRec) (a : Nat) : (io.errRec b n e).reg a = io.reg a := by
  simp [reg]

@[simp] theorem errRec_queues (io : Io) (b : Block) (n : Nat) (e : ErrRec) : (io.errRec b n e).queues = io.queues := by
  unfold errRec; dsimp only; (repeat' split) <;> rfl

@[simp] theorem errRec_out (io : Io) (b : Block) (n : Nat) (e : ErrRec) : (io.errRec b n e).out = io.out := by
  unfold errRec; dsimp only; (repeat' split) <;> rfl

@[simp] theorem errRec_clk (io : Io) (b : Block) (n : Nat) (e : ErrRec) : (io.errRec b n e).clk = io.clk := by
  unfold errRec; dsimp only; (repeat' split) <;> rfl

@[simp] theorem errRec_bus (io : Io) (b : Block) (n : Nat) (e : ErrRec) : (io.errRec b n e).bus = io.bus := by
  unfold errRec; dsimp only; (repeat' split) <;> rfl

@[simp] theorem errRec_stage (io : Io) (b : Block) (n : Nat) (e : ErrRec) : (io.errRec b n e).stage = io.stage := by
  unfold errRec; dsimp only; (repeat' split) <;> rfl

/-- The log holds the record as R591 to R597 record it. -/
@[simp] theorem errRec_logs (io : Io) (b : Block) (n : Nat) (e : ErrRec) :
    (io.errRec b n e).logs = Tbl.set io.logs ErrLog.init (b.logKey n) ((Tbl.get io.logs ErrLog.init (b.logKey n)).record e).1 := by
  unfold errRec; dsimp only; (repeat' split) <;> rfl

@[simp] theorem access_regs (io : Io) (b : Block) (n code : Nat) (who : Who) (a v : Nat) : (io.access b n code who a v).regs = io.regs :=
  errRec_regs _ _ _ _

@[simp] theorem accessAt_regs (io : Io) (code : Nat) (who : Who) (a v : Nat) : (io.accessAt code who a v).regs = io.regs := by
  unfold accessAt
  split <;> exact errRec_regs _ _ _ _

@[simp] theorem accessAt_reg (io : Io) (code : Nat) (who : Who) (a v b : Nat) : (io.accessAt code who a v).reg b = io.reg b := by
  simp [reg]

@[simp] theorem accessAt_queues (io : Io) (code : Nat) (who : Who) (a v : Nat) : (io.accessAt code who a v).queues = io.queues := by
  unfold accessAt
  split <;> exact errRec_queues _ _ _ _

@[simp] theorem accessAt_out (io : Io) (code : Nat) (who : Who) (a v : Nat) : (io.accessAt code who a v).out = io.out := by
  unfold accessAt
  split <;> exact errRec_out _ _ _ _

@[simp] theorem accessAt_clk (io : Io) (code : Nat) (who : Who) (a v : Nat) : (io.accessAt code who a v).clk = io.clk := by
  unfold accessAt
  split <;> exact errRec_clk _ _ _ _

@[simp] theorem drive_reg (io : Io) (dev : String) (num : Nat) (data : List Nat) (a : Nat) : (io.drive dev num data).reg a = io.reg a := rfl

/-! Queues. -/

@[simp] theorem queue_setQueue_self (io : Io) (n : Nat) (q : Queue) : (io.setQueue n q).queue n = q := by
  unfold setQueue queue
  dsimp only
  split <;> split <;> exact Tbl.get_set_self _ _ _ _

theorem queue_setQueue_ne (io : Io) {n k : Nat} (q : Queue) (h : k ≠ n) : (io.setQueue n q).queue k = io.queue k := by
  unfold setQueue queue
  dsimp only
  split <;> split <;> exact Tbl.get_set_ne _ _ _ _ h

/-- Of the registers, only QUE.EVT_STAT. -/
theorem reg_setQueue_ne (io : Io) {n a : Nat} (q : Queue) (h : a ≠ 0x40020080) : (io.setQueue n q).reg a = io.reg a := by
  unfold setQueue
  dsimp only
  split <;> split <;> first
    | rfl
    | exact reg_evt_ne _ _ h
    | exact (reg_evt_ne _ _ h).trans (reg_evt_ne _ _ h)

end Io
end Sys2Proof.Machine
end

