-- ==== Sys2Proof/Laws/Memory.lean ====
section
/-! SUPPORT. Sys2Proof/Laws/Memory.lean: the laws of the memories: read after write, and that every memory operation keeps the
canonical form. -/
namespace Sys2Proof.Machine

theorem Memory.wf_iff {m : MemSt} :
    Memory.wf m = true ↔ m.spm.wf (fun _ => 0) = true ∧ m.dram.wf (fun _ => 0) = true ∧ m.flash.wf (fun _ => 0xFF) = true := by
  simp only [Memory.wf, Bool.and_eq_true, and_assoc]

theorem Memory.wf_reset : Memory.wf State.reset.mem = true := by decide

theorem memWrite_wf {d : Byte} : ∀ {bs : List Byte} {a : Nat} {m : Tbl Byte},
    m.wf (fun _ => d) = true → (memWrite m d a bs).wf (fun _ => d) = true
  | [], _, _, h => h
  | b :: r, a, m, h => memWrite_wf (bs := r) (a := a + 1) (m := Tbl.set m d a b) (Tbl.set_wf (d := fun _ => d) h)

/-- Bytes outside what is written read as before. -/
theorem memWrite_get_out {d : Byte} : ∀ {bs : List Byte} {a x : Nat} {m : Tbl Byte},
    (x < a ∨ a + bs.length ≤ x) → (memWrite m d a bs).get d x = m.get d x
  | [], _, _, _, _ => rfl
  | b :: r, a, x, m, hx => by
    have hx' : x < a + 1 ∨ a + 1 + r.length ≤ x := by
      simp only [List.length_cons] at hx
      omega
    have hne : x ≠ a := by
      simp only [List.length_cons] at hx
      omega
    rw [memWrite, memWrite_get_out hx']
    exact Tbl.get_set_ne m d d b hne

/-- Bytes written read as written. -/
theorem memRead_memWrite {d : Byte} : ∀ {bs : List Byte} {a : Nat} {m : Tbl Byte},
    memRead (memWrite m d a bs) d a bs.length = bs
  | [], _, _ => rfl
  | b :: r, a, m => by
    have h0 : (memWrite (Tbl.set m d a b) d (a + 1) r).get d a = b := by
      rw [memWrite_get_out (Or.inl (Nat.lt_succ_self a))]
      exact Tbl.get_set_self m d a b
    simp only [List.length_cons, memRead, memWrite, h0, memRead_memWrite]

theorem memRead_length {d : Byte} {m : Tbl Byte} : ∀ {n a : Nat}, (memRead m d a n).length = n
  | 0, _ => rfl
  | n + 1, a => by simp [memRead, memRead_length]

theorem writeBehind_wf {a2 n2 : Nat} : ∀ {bs : List Byte} {a : Nat} {m : Tbl Byte},
    m.wf (fun _ => 0) = true → (writeBehind m a bs a2 n2).wf (fun _ => 0) = true
  | [], _, _, h => h
  | _ :: _, _, _, h => by
    unfold writeBehind
    exact writeBehind_wf (by split; exact h; exact Tbl.set_wf (d := fun _ => 0) h)

theorem spmCycle_wf {gang : Bool} {m : Tbl Byte} {pa pb : Option (Bool × Nat × Nat × Nat)} (h : m.wf (fun _ => 0) = true) :
    (spmCycle gang m pa pb).1.wf (fun _ => 0) = true := by
  dsimp only [spmCycle]
  repeat' split
  all_goals first
    | exact h
    | exact memWrite_wf h
    | exact memWrite_wf (memWrite_wf h)
    | exact writeBehind_wf h
    | exact memWrite_wf (writeBehind_wf h)

/-- The scratchpad keeps its form. -/
theorem spmAccess_wf {pa pb : Option SpAcc} {m : MemSt} {io : Io} (h : Memory.wf m = true) :
    Memory.wf (spmAccess pa pb m io).1 = true := by
  rw [Memory.wf_iff] at h ⊢
  refine ⟨?_, h.2⟩
  dsimp only [spmAccess]
  exact spmCycle_wf (spmCycle_wf h.1)

/-- A test of a region changes no byte. -/
theorem mitten_wf {bad : Option Nat} {m : MemSt} {io : Io} (h : Memory.wf m = true) : Memory.wf (mitten bad m io).1 = true := by
  unfold mitten
  split <;> exact h

/-- The DRAM keeps its form. -/
theorem dramAccess_wf {who : Who} {boot write : Bool} {o size data ecc : Nat} {m : MemSt} {io : Io} (h : Memory.wf m = true) :
    Memory.wf (dramAccess who boot write o size data ecc m io).1 = true := by
  have hw : ∀ {bs : List Byte} {x : List Nat}, Memory.wf { m with dram := memWrite m.dram 0 o bs, dramBad := x } = true := by
    intro bs x
    rw [Memory.wf_iff] at h ⊢
    exact ⟨h.1, memWrite_wf h.2.1, h.2.2⟩
  dsimp only [dramAccess]
  repeat' split
  all_goals first
    | exact h
    | exact hw

theorem dramScrub_wf {ecc word : Nat} {m : MemSt} {io : Io} (h : Memory.wf m = true) : Memory.wf (dramScrub ecc word m io).1 = true := by
  unfold dramScrub
  split <;> exact h

/-- The flash keeps its form. -/
theorem flEffect_wf {err : Bool} {op addr : Nat} {s : State} (h : Memory.wf s.mem = true) :
    Memory.wf (State.flEffect err op addr s).mem = true := by
  have hw : ∀ {a : Nat} {bs : List Byte}, Memory.wf { s.mem with flash := memWrite s.mem.flash 0xFF a bs } = true := by
    intro a bs
    rw [Memory.wf_iff] at h ⊢
    exact ⟨h.1, h.2.1, memWrite_wf h.2.2⟩
  have hk : ∀ {p : Nat → Byte → Bool}, Memory.wf { s.mem with flash := s.mem.flash.keep p } = true := by
    intro p
    rw [Memory.wf_iff] at h ⊢
    exact ⟨h.1, h.2.1, Tbl.keep_wf h.2.2⟩
  unfold State.flEffect
  cases err
  · simp only [Bool.false_eq_true, if_false]
    split
    · exact h
    · exact hw
    · exact hk
  · simp only [if_true]
    by_cases ho : op = 1
    · simp only [ho, if_true]
      exact h
    · simp only [ho, if_false]
      exact hw

end Sys2Proof.Machine
end

