-- ==== Sys2Proof/Machine/Lines.lean ====
section
/-! DEFINITION. Sys2Proof/Machine/Lines.lean: the interrupt lines of the blocks, the sources of the interrupt controller, and the
timer of the application cores (R668 to R671). -/
namespace Sys2Proof.Machine

/-- The base of a block's window (R673); `n`: the CAN controller. -/
def Block.window (b : Block) (n : Nat) : Nat :=
  match b with
  | .sys => 0x40000000 | .cfg => 0x40010000 | .que => 0x40020000 | .spm => 0x40030000 | .drc => 0x40040000
  | .alloc => 0x40100000 | .lease => 0x40110000 | .ctle => 0x40120000 | .thrm => 0x40130000 | .pnt => 0x40140000
  | .sess => 0x40200000 | .xcr => 0x40210000 | .fab => 0x40300000 | .can => 0x40310000 + n * 0x1000 | .t1s => 0x40320000
  | .spn => 0x40330000 | .host => 0x40340000 | .mtr => 0x40400000 | .hlm => 0x40500000 | .gnt => 0x40600000
  | .mir => 0x40700000 | .lsw => 0x40800000 | .cot => 0x40810000 | .aon => 0x40F00000

/-- The blocks of sources 1 to 40, in the order of R669. -/
def plicBlocks : List Block :=
  [.sys, .cfg, .que, .spm, .drc, .alloc, .lease, .ctle, .thrm, .pnt, .sess, .xcr, .fab, .t1s, .spn, .host, .mir, .lsw, .cot, .aon]

namespace State

/-- The event line of a block (R668). -/
def eventLine (s : State) (b : Block) (n : Nat) : Bool :=
  s.io.reg (b.window n + 0x80) &&& s.io.reg (b.window n + 0x84) != 0

/-- The error line of a block (R668). -/
def errorLine (s : State) (b : Block) (n : Nat) : Bool :=
  let l := Tbl.get s.io.logs ErrLog.init (b.logKey n)
  !l.recs.isEmpty || l.second || l.ovf

/-- Source k of the application cores' interrupt controller (R669). -/
def plicSource (s : State) (k : Nat) : Bool :=
  if k = 0 then false
  else if k ≤ 40 then
    match plicBlocks[(k - 1) / 2]? with
    | some b => if k % 2 = 1 then s.eventLine b 0 else s.errorLine b 0
    | none => false
  else if k ≤ 56 then if k % 2 = 1 then s.eventLine .can ((k - 41) / 2) else s.errorLine .can ((k - 41) / 2)
  else if k ≤ 64 then s.io.flag (Reg.CAN.HP_CTL (k - 57)) 31
  else if k ≤ 80 then !(s.io.queue (k - 65)).empty && s.io.flag 0x40020084 (k - 65)
  else false

/-- mtime of the core-local interruptor (R671). -/
def mtime (s : State) : Nat := s.now / 40

end State
end Sys2Proof.Machine
end

