-- ==== Sys2Proof/Tests/Slice0.lean ====
section
/-! SUPPORT. Sys2Proof/Tests/Slice0.lean: tests of single commands, ill-formed terms, and witnesses for the statements. -/
set_option Elab.async false
namespace Sys2Proof.Tests
open Sys2Proof Sys2Proof.Machine

/-! Helpers: small states near reset. -/

/-- The next state. -/
def nx (o : Out) : State :=
  match o with
  | .next t => t
  | .fault _ => State.reset
  | .refused _ => State.reset

/-- The state right after reset. -/
abbrev z : State := State.reset

/-- A register set. -/
def putR (a : Nat) (w : Word) (s : State) : State := { s with io := s.io.setReg a w }

/-- Site time set. -/
def atT (t : Nat) (s : State) : State := { s with io := { s.io with clk := { s.io.clk with now := t } } }

/-- A message with nothing wrong in its header. -/
def msg (ty sub src dst time seq : Nat) (p : List Byte) : AtkMsg :=
  ⟨1, ty, sub, 0, src, dst, seq, p.length, 0, time, true, 48 + p.length, true, p, ⟨1, 0, 0, false, 0, 0⟩⟩

/-- Messages are received, and the key of messages of type `ty` from node `src` is held. -/
def rx (ty src : Nat) (s : State) : State :=
  let t := putR Reg.FAB.CTRL 1 s
  { t with io := { t.io with keys := Tbl.set t.io.keys KeyGen.init (keySlot ty src) ⟨true, 0, none, 0⟩ } }

/-- A standby unit. -/
def standby (s : State) : State := putR Reg.MIR.CFG 1 (putR Reg.MIR.STAT 0x40000000 s)

/-- The mirror link runs: start-up is complete and the pair key is held. -/
def linked (s : State) : State :=
  let t := putR Reg.MIR.CFG 1 s
  { t with mir := { t.mir with started := true },
           io := { t.io with keys := Tbl.set t.io.keys KeyGen.init (0x20000 + (3 - t.io.ownId)) ⟨true, 0, none, 0⟩ } }

/-- A node takes a message whose TIME is the node's own, whatever its replay window. -/
theorem nodeTakes_at_its_time (n : NetSt) (node : Nat) (m : AtkMsg)
    (h : (m.version == 1 && m.rsvZero && m.payload.length == m.len && m.recvLen == 48 + m.len && (m.dst == node || m.dst == 0xFFFF) &&
      m.tagOk && (Tbl.get n.nodeStreams Stream.init (nodeStream node m.ty m.src)).takes m.seq m.time m.time) = true) :
    nodeTakes n node m.time m = true := by
  unfold nodeTakes AtkMsg.timeOk
  simp only [Bool.and_eq_true] at h ⊢
  simp_all

/-- Every word that queue `q` holds, priority and payload. -/
def qWords (q : Nat) (s : State) : List Nat :=
  let x := s.io.queue q
  ((x.fill.map QPkt.body).flatten ++ x.cur ++ x.drain.flatten).map fun w => w.toNat % 2 ^ 60

/-! Ill-formed commands: one for each check of WellFormed. -/

theorem wf_refuses_numbers :
    (Instr.wf (.registerWrite (.core 4) 0x40020084 0) || Instr.wf (.registerWrite (.core 0) 0x40020085 0) ||
     Instr.wf (.loReadLatch .host 0x10000000000) || Instr.wf (.unmappedAccess .dma true 0x10000000000 0) ||
     Instr.wf (.shedHoldExpiry 256) || Instr.wf (.closeTimeout 768) || Instr.wf (.ackTimeout 1024) ||
     Instr.wf (.holderForget 65536 0 0) || Instr.wf (.evalMiss 1024) || Instr.wf (.genEnable (.core 0) 320 0) ||
     Instr.wf (.observerFault 512) || Instr.wf (.coolCmdSend 64) || Instr.wf (.headTxAt 256 0) || Instr.wf (.ptpMessage 0 4 none)) = false := by
  decide +kernel

theorem wf_refuses_numbers_of_later_blocks :
    (Instr.wf (.canRxAck (.core 0) 8 0) || Instr.wf (.meshSack 1024 0 0 false) || Instr.wf (.channelAbsent 264) || Instr.wf (.checkClear 256) ||
     Instr.wf (.tamperSensed 10) || Instr.wf (.inputDemand 32) || Instr.wf (.mirrorLaneChange 2 true) || Instr.wf (.queueFlush (.core 0) 16) ||
     Instr.wf (.bankOwnerWrite (.core 0) 32 0) || Instr.wf (.dramScrub 3 0) || Instr.wf (.pwmPeriodStart 24) || Instr.wf (.slewDone 2)) = false := by
  decide +kernel

theorem wf_refuses_data :
    (Instr.wf (.scratchpadAccess (some ⟨0, .core 0, true, 0, 3, 0, 0⟩) none) || KuSrc.wf (.mbx (.core 9)) ||
     MeshFc.wf ⟨true, 1024, 0, 0, 0, false, 0, false⟩ || CanFrame.wf ⟨0, false, 0x800, false, false, false, 0, 0, []⟩ ||
     ToneMap.wf ⟨16, 0, false, 0, []⟩ || AtkMsg.wf (msg 256 0 0 0 0 0 [])) = false := by
  decide +kernel

/-- Well-formed commands at the ends of their ranges. -/
theorem wf_takes_the_ends :
    (Instr.wf (.registerWrite (.core 3) 0x40F00084 0) && Instr.wf (.closeTimeout 767) && Instr.wf (.holderForget 65535 1023 0) &&
     Instr.wf (.genEnable .dma 319 0) && Instr.wf (.tamperSensed 9) && Instr.wf (.pwmPeriodStart 23) && Instr.wf (.dramScrub 2 7)) = true := by
  decide +kernel

/-! Witnesses: the block as a whole and its registers. -/

/-- A waiting command, and none waiting: held in reset, and running. -/
theorem witness_StepRunsTheCommandInFront :
    nx (step { z with pending := [.pllLock, .holdoffEnd] }) = nx (exec .pllLock { z with pending := [.holdoffEnd] }) ∧
    (nx (step z)).now = 5 ∧ z.pending = [] ∧ z.boot.held = false ∧ z.io.clk.rate = 0 ∧ z.io.clk.frac < 1000000000 ∧
    (nx (step { z with boot := { z.boot with held := true } })).now = 0 := by
  decide +kernel

/-- The form holds at reset, and of a memory with bytes at the two ends of the scratchpad. -/
theorem witness_MemoryFormIsKept :
    Memory.wf z.mem = true ∧
    Memory.wf { z.mem with spm := [(0, 1), (0xFFFFFF, 0xFF)], flash := [(0, 0)] } = true ∧
    Memory.wf { z.mem with spm := [(1, 1), (0, 1)] } = false ∧ Memory.wf { z.mem with dram := [(7, 0)] } = false := by
  decide +kernel

/-- QUE.EVT_STAT is described, with every field of its two maps; DRC.SCRUB_CFG has bits of no field. -/
theorem witness_WriteFollowsFieldTypes :
    (regDesc 0x40020080).isSome = true ∧
    (regDesc Reg.DRC.SCRUB_CFG).map (fun d => (d.whole, d.fields.map fun f => (f.hi, f.lo))) = some (false, [(31, 31), (7, 0)]) := by
  decide +kernel

/-- The host writes SYS.RST_CTL; the host reads LEASE.STAT; the last byte before the register windows. -/
theorem witness_AccessesNotGrantedDoNothing :
    (blockAt 0x40000014, blockAt 0x40110008) = (some (.sys, 0, 0x14), some (.lease, 0, 8)) ∧
    (regDesc 0x40000014).isSome = true ∧ mayWrite .host 0x40000014 = false ∧
    (regDesc 0x40110008).isSome = true ∧ mayRead .host 0x40110008 = false ∧
    mappedAt 0x3FFFFFFC = false ∧ mappedAt 0x180000000 = false ∧
    (nx (exec (.registerWrite .host 0x40000014 0xD1E50001) z)).io.logs ≠ [] ∧
    (nx (exec (.unmappedAccess (.core 0) false 0x3FFFFFFC 0) z)).io.bus = 0 := by
  decide +kernel

/-- DRC.SCRUB_CFG; the EVT_STAT of the first and of the last block. -/
theorem witness_RegisterWritesSetTheirFields :
    (blockAt Reg.DRC.SCRUB_CFG, blockAt 0x40000080, blockAt 0x40F00084) = (some (.drc, 0, 0), some (.sys, 0, 0x80), some (.aon, 0, 0x84)) ∧
    (regDesc Reg.DRC.SCRUB_CFG).map RegDesc.pair = some 0 ∧ mayWrite (.core 3) Reg.DRC.SCRUB_CFG = true ∧
    (regDesc 0x40000080).isSome = true ∧ mayWrite .sepia 0x40000080 = true ∧ (regDesc 0x40F00084).isSome = true ∧
    mayWrite (.core 0) 0x40F00084 = true ∧
    (nx (exec (.registerWrite (.core 3) Reg.DRC.SCRUB_CFG 0x800000A8) z)).io.reg Reg.DRC.SCRUB_CFG = 0x800000A8 ∧
    (nx (exec (.registerWrite (.core 3) Reg.DRC.SCRUB_CFG 0x800000A9) z)).io.reg Reg.DRC.SCRUB_CFG = 0x80000018 ∧
    (nx (exec (.registerWrite .sepia 0x40000080 2) (putR 0x40000080 3 z))).io.reg 0x40000080 = 1 := by
  decide +kernel

/-- SYS.SITE_TIME: its halves belong together; DRC.CE_CNT has no half and clears. -/
theorem witness_ReadsLatchAndClear :
    blockAt 0x40000008 = some (.sys, 0, 8) ∧ (regDesc 0x40000008).map RegDesc.pair = some 1 ∧
    (regDesc 0x4000000C).map RegDesc.pair = some 2 ∧ mayRead .host 0x40000008 = true ∧ mayRead .host 0x4000000C = true ∧
    (regDesc Reg.DRC.CE_CNT).map RegDesc.pair = some 0 ∧ mayRead .sepia Reg.DRC.CE_CNT = true ∧
    (nx (exec (.rcFieldRead .host 0x4000000C 0) (atT 0 (nx (exec (.loReadLatch .host 0x40000008) (atT 0x300000007 z)))))).io.bus = 3 ∧
    (nx (exec (.rcFieldRead .sepia Reg.DRC.CE_CNT 1) (putR Reg.DRC.CE_CNT 9 z))).io.bus = 9 ∧
    (nx (exec (.rcFieldRead .sepia Reg.DRC.CE_CNT 1) (putR Reg.DRC.CE_CNT 9 z))).io.reg Reg.DRC.CE_CNT = 1 := by
  decide +kernel

/-- SESS.MAC_BASE, the pair below EVT_STAT. -/
theorem witness_PairTakesEffectWithItsHighHalf :
    (blockAt 0x4020000C, (regDesc 0x4020000C).map RegDesc.pair, (regDesc 0x40200010).map RegDesc.pair) = (some (.sess, 0, 12), some 1, some 2) ∧
    mayWrite (.core 0) 0x4020000C = true ∧ mayWrite (.core 0) 0x40200010 = true ∧
    (nx (exec (.registerWrite (.core 0) 0x4020000C 7) z)).io.regs = z.io.regs ∧
    (let t := nx (exec (.registerWrite (.core 0) 0x40200010 1) (nx (exec (.registerWrite (.core 0) 0x4020000C 7) z)))
     (t.io.reg 0x4020000C, t.io.reg 0x40200010) = (7, 1)) := by
  decide +kernel

/-! Witnesses and examples: allocation and routing. -/

/-- At reset; and a block whose tick of 250 us has already run. -/
theorem witness_TickRunsItsStepsInOrder :
    let ev : TickEv := ⟨⟨[], [], [], []⟩, [], false, false, false, 47999, 0⟩
    let s0 : State := { z with boot := { z.boot with tick := 1 } }
    let s4 := State.step5Start 0 ev.allocUe (State.steps1to4 0 ev s0.placed)
    (z.live, z.io.active, z.boot.tick, z.tickNum) = (true, true, 0, 0) ∧ z.mir.pend.isNone = true ∧ z.mir.started = false ∧
    mirState z.io ≠ 2 ∧
    s4.alloc.ue = false ∧ (allocStep5 0 true (s4.dispIns 0) (s4.srcIns 0) s4.alloc s4.io).ok = true ∧ s0.tickNum < s0.boot.tick := by
  decide +kernel

/-- A tick that starts at 250 us and is not at step 4 by its cycle 48 000; eight in a row. -/
theorem witness_AbandonedTicks :
    let s := atT 490000 { z with boot := { z.boot with tick := 1 } }
    let u := putR Reg.SYS.TICK_STAT 0x00080000 z
    (s.live, s.io.active, s.boot.tick, s.tickNum) = (true, true, 1, 1) ∧ s.mir.pend.isNone = true ∧ 1 * tickNs + 240000 ≤ s.now ∧
    (nx (exec .tickAbandon s)).boot.tick = 2 ∧ paired u.io = false ∧ u.io.fld Reg.SYS.TICK_STAT 23 16 = 8 ∧
    (nx (exec .renewSuspend u)).io.reg 0x40000080 = 0x20 := by
  decide +kernel

/-- A site of one node, no source, no cabinet and no dispenser, whose swap is asked for at reset and takes effect at 100 us; the last
word of the model. -/
theorem witness_SiteModelCommands :
    let good : Tbl Byte := [(0, 7), (4, 1), (0x40, 0xFF), (0x41, 0xFF)]
    let swap := { z with alloc := { z.alloc with modelP := good, swapAt := some 0 } }
    let last := putR Reg.ALLOC.MODEL_ADDR 0x27FF8 z
    modelCode good = 0 ∧ z.io.flag Reg.ALLOC.MODEL_CTL 1 = false ∧ modelCode z.alloc.modelP ≠ 0 ∧
    (nx (exec .modelSwapEffect swap)).io.reg Reg.ALLOC.MODEL_VER = 7 ∧
    last.io.fld Reg.ALLOC.MODEL_ADDR 17 0 = 0x27FF8 ∧
    (nx (exec (.modelDataAccess (.core 3) true 0x01020304) last)).alloc.modelP = [(0x27FF8, 4), (0x27FF9, 3), (0x27FFA, 2), (0x27FFB, 1)] ∧
    (putR Reg.ALLOC.MODEL_CTL 2 z).io.flag Reg.ALLOC.MODEL_CTL 1 = true := by
  decide +kernel

/-- A route in each state with a timer, at the instant its timer ends; a report for the last cabinet of a model of 768. -/
theorem witness_CabinetsFollowTheirReports :
    let at_ := fun (st : RState) => { z with alloc := { z.alloc with route := [(767, { Route.init with st := st, deadline := some 0 })] } }
    let q := { z with alloc := { z.alloc with route := [(767, { Route.init with query := some 0 })] } }
    (routeOf (nx (exec (.closeTimeout 767) (at_ .closing))).alloc 767).st = .fault ∧
    (routeOf (nx (exec (.drainTimeout 767) (at_ .draining))).alloc 767).st = .fault ∧
    (routeOf (nx (exec (.openTimeout 767) (at_ .opening))).alloc 767).st = .fault ∧
    (routeOf (nx (exec (.queryTimeout 767) q)).alloc 767).st = .fault ∧ (routeOf q.alloc 767).st ≠ .fault ∧
    (routeOf z.alloc 0).deadline = none ∧ (routeOf z.alloc 0).query = none := by
  decide +kernel

theorem witness_CabinetsFollowTheirReports_messages :
    let m := msg 8 3 0x2000 4 0 1 [0xFF, 2, 5, 0, 2, 0, 0, 0, 9, 0, 0, 0]
    let r : Route := ⟨.closing, some 5, none, some 9, 9, none, false, 0, 0⟩
    let s := rx 8 0x2000 { z with alloc := { z.alloc with model := [(8, 0), (9, 3)], route := [(767, r)] } }
    let c := msg 8 2 0x1FFF 4 0 1 (0xFF :: 2 :: List.replicate 30 0)
    let u0 := rx 8 0x1FFF { z with alloc := { z.alloc with model := [(8, 0), (9, 3), (cabO 767 + 12, 0xFF), (cabO 767 + 13, 0x1F)] } }
    let u := standby u0
    s.io.flag Reg.FAB.CTRL 0 = true ∧ atkReject s.io s.io.active m = none ∧ (parseReport m.payload).cab < nCab s.alloc.model ∧
    (parseReport m.payload).st = 2 ∧ (parseReport m.payload).disp = some 5 ∧
    (routeOf (nx (exec (.routeReport m) s)).alloc 767).st = .bound ∧
    u.io.active = false ∧ atkReject u.io u.io.active c = none ∧ State.cabLayout c.payload = true ∧ cabAtk u.alloc.model 767 = 0x1FFF ∧
    (Tbl.get (nx (exec (.cabStatus c) u)).alloc.cab CabIn.init 767).seen = true := by
  decide +kernel

/-- A cabinet in FAULT and one that is not; the least and the greatest node of the matrix; the first pass; a hold that ends now. -/
theorem witness_RoutingCommandsAndPass :
    let f := { z with alloc := { z.alloc with route := [(767, { Route.init with st := .fault })] } }
    let p := putR Reg.ALLOC.CTRL 2 (putR Reg.ALLOC.ROUTE_NODE 0x00012000 z)
    let h := { z with alloc := { z.alloc with shed := [(255, ⟨true, 0, false⟩)] } }
    (routeOf (nx (exec (.routeClr (.core 0) 0x2FF) f)).alloc 767).st = .free ∧ (routeOf z.alloc 767).st ≠ .fault ∧
    (nx (exec (.matrixIdWrite (.core 0) 0x00012000) z)).io.reg Reg.ALLOC.ROUTE_NODE = 0x00012000 ∧
    (nx (exec (.matrixIdWrite (.core 0) 0x00647FFF) z)).io.reg Reg.ALLOC.ROUTE_NODE = 0x00647FFF ∧
    z.io.flag Reg.ALLOC.STAT 0 = false ∧ z.alloc.placed = false ∧
    (nx (exec (.priceColdReset (.core 0)) z)).alloc.cold = true ∧
    p.io.flag Reg.ALLOC.CTRL 1 = true ∧ matrixId p.io ≠ 0 ∧ p.alloc.lastPass < p.now / 1000000000 + 1 ∧
    (nx (exec .routingPass p)).alloc.lastPass = 1 ∧
    (Tbl.get h.alloc.shed Shed.init 255).shed = true ∧ (nx (exec (.shedHoldExpiry 255) h)).alloc.shed = [(255, ⟨true, 0, false⟩)] := by
  decide +kernel

/-! Witnesses and examples: leases and their holders. -/

/-- Targets 0 and 256 of a model of one dispenser and one cabinet, at the last renewal tick of 32 bits. -/
theorem witness_RenewalGrantsEveryTarget :
    let s := putR Reg.LEASE.CTRL 1 (putR (Reg.LEASE.TGT 0) 0x01F44281 (putR (Reg.LEASE.TGT 256) 0x01F44281 z))
    let a := { s.alloc with model := [(8, 1), (10, 1)] }
    let r := (leaseRenew 20400 false true a [] s.lease s.io).1
    mayGrant true s.io = true ∧ (nCab a.model, nDisp a.model) = (1, 1) ∧ s.io.flag (Reg.LEASE.TGT 256) 0 = true ∧
    (chainOf r 0).seq = 1 ∧ (chainOf r 256).lid = 1 ∧ (chainOf r 1).seq = 0 ∧ r.count = 2 := by
  decide +kernel

/-- Chapter 03's worked example: the grant of tick 20 400 to cabinet 1, at 820 V and 274 kW. -/
theorem test_grant_of_the_cabinet_cut_off :
    let a := { AllocSt.init with model := [(cabO 1 + 12, 1), (cabO 1 + 13, 0x10)], pc := [(1, 274000)],
                                 route := [(1, { Route.init with st := .bound, disp := some 1 })] }
    let l := { LeaseSt.init with count := 0x31A2C, fresh := false, chain := [(257, { Chain.init with seq := 0xB4D })] }
    let inp : Tbl DispIn := [(1, { DispIn.init with v := 820000, iMax := some 450000 })]
    mkGrant 20400 false false a inp l (putR Reg.LEASE.EPOCH 7 z).io 257 =
      ⟨0x31A2C, 0xB4E, 5101000000, 5121000000, 0x4001, 0x1001, 274000, 350854, 50000, 10, 0, 7⟩ := by
  decide +kernel

/-- The same example: the third miss in a row writes NOACK at priority 0xC. -/
theorem test_third_miss_writes_noack :
    let s := atT 5117200000 { z with lease := { z.lease with chain := [(257, { Chain.init with miss := 2, pend := [(9, 5117200000)] })] } }
    qWords 1 (nx (exec (.ackTimeout 257) s)) = [0xC62401000000003] := by
  decide +kernel

/-- An acknowledgement of each kind of result, from a node with a key; a newer epoch; a grant not acknowledged at its deadline and one
ns before; the end of the hold-off; WIND_DOWN to 0; the last target. -/
theorem witness_LeaseBookkeepingCommands :
    let ack := fun (r e : Byte) => msg 2 0 0x1000 4 0 1 [7, 0, 0, 0, 0, 0, 0, 0, 0, 0x40, r, 1, 0, 0, 0, 0, 0, 0, 0, 0, 0, 0, 0, 0, e, 0, 0, 0]
    let s := rx 2 0x1000 z
    let n := putR Reg.LEASE.EPOCH 0x10000 s
    let p := { z with lease := { z.lease with chain := [(1023, { Chain.init with pend := [(7, 0), (8, 1)] })] } }
    let h := atT 5 { z with lease := { z.lease with holdUntil := some 5 } }
    (atkReject s.io s.io.active (ack 0 0)).isNone = true ∧ (ackLayout (ack 0 0).payload && ackLayout (ack 1 0).payload && ackLayout (ack 0x15 0).payload) = true ∧
    ackTarget (ack 0 0).payload = 256 ∧ epochNewer 0 (leaseEpoch s.io) = false ∧ s.io.flag Reg.LEASE.STAT 4 = false ∧
    epochNewer (u16 (ack 0 1).payload 24) (leaseEpoch n.io) = true ∧ n.io.flag Reg.LEASE.EPOCH 16 = true ∧
    (nx (exec (.leaseAck (ack 0 1)) n)).io.flag Reg.LEASE.STAT 4 = true ∧
    (chainOf (nx (exec (.leaseAck (ack 0x15 0)) s)).lease 256).result = 0x15 ∧
    (chainOf (nx (exec (.ackTimeout 1023) p)).lease 1023).pend = [(8, 1)] ∧
    (nx (exec .holdoffEnd h)).lease.holdUntil = none ∧ (nx (exec .holdoffEnd (atT 4 h))).lease.holdUntil = some 5 ∧
    (nx (exec (.windDownWrite (.core 0) 1) (putR Reg.LEASE.CTRL 3 z))).io.reg Reg.LEASE.CTRL = 1 ∧
    (nx (exec (.tblSelWrite (.core 0) 1023) p)).io.reg Reg.LEASE.TBL_SEL = 1023 := by
  decide +kernel

/-- A grant at the ends of R98: START 5 ms ahead. -/
def grantAtTheEnds : AtkMsg :=
  msg 1 0 3 0x1000 0 0 (le 4 1 ++ le 4 9 ++ le 8 5000000 ++ le 8 10000000 ++ le 2 0x4000 ++ le 2 0x1000 ++ zeros 12 ++ le 2 1 ++ zeros 6)

/-- Its node takes it, another does not; it meets R98, and not for another target; EPOCH differences of 0x7FFF and 0x8000. -/
theorem witness_HolderAcceptsByR98 :
    nodeTakes z.net 0x1000 0 grantAtTheEnds = true ∧ nodeTakes z.net 0x1001 0 grantAtTheEnds = false ∧
    grantFails grantAtTheEnds.payload 0x1000 0x4000 true 0 Holder.init = [] ∧ grantFails grantAtTheEnds.payload 0x1000 0x4001 true 0 Holder.init = [0x13] ∧
    (Tbl.get (holderReceive 0x1000 0x4000 true 0 0 0 grantAtTheEnds.payload z.lease z.io).1.holders Holder.init (holderKey 0x1000 0x4000)).last = some (0, 9) ∧
    (let g := parseGrant grantAtTheEnds.payload
     grantNewer { g with epoch := 0x7FFF } (some (0, 0)) = true ∧ grantNewer { g with epoch := 0x8000 } (some (0, 0)) = false) :=
  ⟨nodeTakes_at_its_time _ _ grantAtTheEnds (by decide +kernel), by decide +kernel, by decide +kernel, by decide +kernel, by decide +kernel, by decide +kernel⟩

/-- A holder in each state, at the instant its transition falls due. -/
theorem witness_HolderMovesByR104 :
    let g : Grant := ⟨1, 9, 5, 10, 0x4000, 0x1000, 7, 0, 0, 63, 0, 1⟩
    let at_ := fun (x : Holder) => { z with lease := { z.lease with holders := [(holderKey 0x1000 0x4000, x)] } }
    let st := fun (t : State) => (Tbl.get t.lease.holders Holder.init (holderKey 0x1000 0x4000)).st
    let run := { Holder.init with st := .inForce, cur := some g }
    newestStarted 5 [g] = some g ∧ newestStarted 4 [g] = none ∧
    st (nx (exec (.holderLeaseStart 0x1000 0x4000 5) (at_ { Holder.init with wait := [g] }))) = .inForce ∧
    st (nx (exec (.holderLeaseExpiry 0x1000 0x4000 10) (at_ run))) = .rundown ∧ st (nx (exec (.holderLeaseExpiry 0x1000 0x4000 9) (at_ run))) = .inForce ∧
    st (nx (exec (.holderRundownEnd 0x1000 0x4000 63000010) (at_ { run with st := .rundown, downAt := 63000010 }))) = .noLease ∧
    st (nx (exec (.holderTimeLoss 0x1000 0x4000 9) (at_ run))) = .rundown ∧
    (Tbl.get (nx (exec (.holderForget 0x1000 0x4000 1000000000) (at_ { Holder.init with last := some (1, 9) }))).lease.holders
      Holder.init (holderKey 0x1000 0x4000)).last = none ∧
    (Tbl.get (nx (exec (.holderForget 0x1000 0x4000 999999999) (at_ { Holder.init with last := some (1, 9) }))).lease.holders
      Holder.init (holderKey 0x1000 0x4000)).last = some (1, 9) ∧ run.limits = (7, 0) := by
  decide +kernel

/-! Witnesses and examples: control. -/

/-- Nothing goes wrong in the evaluation round. -/
def calm : CtlEv := ⟨[], [], [], []⟩

/-- Slot 1023 alone is enabled, every 20 frames, phase 19; due in frame 19; with its output limits as they reset, and inverted. -/
theorem witness_FrameEvaluatesTheDueSlot :
    let s := atT 999999 (putR Reg.CTLE.CTRL 1 (putR (Reg.CTLE.CTL 1023) 0x94980000 z))
    let bad : State := { s with ctle := { s.ctle with slot := [(1023, { Slot.init with act := { Coef.init with outMin := 1, outMax := 0 } })] } }
    s.ctle.lastFrame ≤ s.now / 50000 ∧ enabledGens s.io = [] ∧ enabledSlots s.io = [1023] ∧ tickBound s.io 1023 = false ∧
    sinkKind s.io 1023 = 0 ∧ s.io.flag Reg.CTLE.CTRL 0 = true ∧ s.io.flag (Reg.CTLE.CTL 1023) 18 = false ∧
    dueAt (slotDiv s.io 1023) (slotPhase s.io 1023) (s.now / 50000) = true ∧
    (slotPv s.measure s.ctle s.io 1023).old 950000 0 = false ∧ ((slotOf s.ctle 1023).settle 950000).fault = false ∧
    (slotOf (nx (exec (.ctleFrame calm) s)).ctle 1023).evalCnt = 1 ∧ (nx (exec (.ctleFrame calm) s)).ctle.lastFrame = 20 ∧
    (slotOf (nx (exec (.ctleFrame calm) bad)).ctle 1023).invLim = true ∧
    (slotPv s.measure s.ctle (putR (Reg.CTLE.PV_SRC 1023) 0x90000000 s).io 1023).old 950000 0 = true ∧ rnd16 32768 = 1 ∧ rnd16 (-32768) = -1 := by
  decide +kernel

/-- Chapter 04's worked example: slot 1 at 7.5 s. -/
theorem test_slot_of_the_current_ramp :
    let a : Coef := { Coef.init with kp := 0x8000, ki := 0x51F, kf := 0x10000, outMin := 0, outMax := 450000, iMin := -20000, iMax := 20000 }
    let c := { z.ctle with slot := [(1, { Slot.init with act := a, i := 185 * 65536 })], gen := [(1, { Gen.init with x := 140000 })] }
    let s := putR Reg.CTLE.CTRL 1 (putR (Reg.CTLE.CTL 1) 0xA5040000 (putR (Reg.CTLE.PV_SRC 1) 0x10000001
      (putR (Reg.CTLE.SP_SRC 1) 0x10000001 (putR (Reg.CTLE.SINK 1) 0x10000001 (atT 7500000000 z)))))
    let y := slotOf (evaluate (fun _ => ⟨138600, some 7499000000, false⟩) calm 7500000000 1 c s.io).1 1
    (y.out, y.err, y.pv, y.i, y.sat) = (140913, 1400, 138600, 0xD50188, 0) := by
  decide +kernel

/-- The same example: the generator's arrival, and its position at 7.5 s. -/
theorem test_generator_of_the_current_ramp :
    let g := { Gen.init with t0 := 7000000000 }.replanAt 7000000000 (400000, 2000000, 20000000) 300000
    g.arrival = 8050000000 ∧ fxRound (g.motion 7500000000).x = 140000 ∧ fxRound (g.motion 7500000000).v = 400000 ∧ g.ovr = false := by
  decide +kernel

/-- Slot 1023: enabled, at the ends of DIV, with a phase that does not fit, and as the 225th slot of a frame; disabled; its coefficients; frozen
and committed; its integrator; its missed evaluations. -/
theorem witness_SlotCommands :
    let k := 1023
    let on := putR (Reg.CTLE.CTL k) 0x81000000 z
    let frozen := putR (Reg.CTLE.CTL k) 0xC1000000 z
    let lo := fun (s : State) => { s with io := { s.io with stage := [(0x40120158, some 7)] } }
    let miss := fun (n : Nat) => { z with ctle := { z.ctle with slot := [(k, { Slot.init with missRun := n })] } }
    slotEn (nx (exec (.slotEnable (.core 0) k 0x94980000) z)).io k = true ∧ slotEn (nx (exec (.slotEnable (.core 0) k 0x81000000) z)).io k = true ∧
    slotEn (nx (exec (.slotEnable (.core 0) k 0x81080000) z)).io k = false ∧
    slotEn (nx (exec (.slotDisable (.core 0) k 0x01000000) on)).io k = false ∧ sinkKind on.io k ≠ 8 ∧
    (slotOf (nx (exec (.shadowWrite (.core 0) k 0 5) z)).ctle k).pend = [(40, .word 0 5)] ∧
    (slotOf (nx (exec (.shadowWrite (.core 0) k 8 8) z)).ctle k).pend.length = 1 ∧
    slotFrozen (nx (exec (.freezeSet (.core 0) k 0xC1000000) on)).io k = true ∧
    (slotOf (nx (exec (.freezeCommit (.core 0) k 0x81000000) frozen)).ctle k).actVer = 1 ∧
    (slotOf (nx (exec (.integratorWrite (.core 0) k true 0xFFFFFFFF) (lo z))).ctle k).i = -4294967289 ∧
    (slotOf (nx (exec (.integratorWrite (.core 0) k true 1) (lo on))).ctle k).i = 0 ∧
    (slotOf (nx (exec (.integratorWrite (.core 0) k true 0) (lo frozen))).ctle k).iSh = some 7 ∧
    (slotOf (nx (exec (.evalMiss k) (miss 2))).ctle k).missRun = 3 ∧ (slotOf (nx (exec (.missAlarm k) (miss 4))).ctle k).alarmed = true ∧
    (slotOf (nx (exec (.missAlarm k) (miss 3))).ctle k).alarmed = false := by
  decide +kernel

/-- 224 slots in every frame, and one more: it is not admitted (R150). -/
theorem witness_SlotCommands_admission :
    let s : State := { z with io := { z.io with regs := (List.range 224).map fun i => (Reg.CTLE.CTL i, (0x81000000 : Word)) } }
    let io1 := s.io.setReg (Reg.CTLE.CTL 1023) 0x81000000
    admitted (loads io1 (enabledSlots io1)) = false ∧ phaseOk io1 1023 = true ∧ sinkHeld io1 1023 = false := by
  decide +kernel

/-- Generator 319, off and on; of a source that ALLOC owns; a receiver, with a message it takes and at VALID_UNTIL. -/
theorem witness_GeneratorsAndSetpoints :
    let owned := { z with alloc := { z.alloc with model := [(6, 64), (srcO 63 + 2, 1)] } }
    let on := putR (Reg.CTLE.GCTL 319) 0x80000000 { z with ctle := { z.ctle with gen := [(319, { Gen.init with a0 := 9 * fx1 })] } }
    let m := msg 8 4 3 0x1000 7 0 (le 2 65535 ++ zeros 16)
    let rx_ := { z with ctle := { z.ctle with rx := [(0x1000 * 65536 + 65535, ⟨5, 10, 65535, none⟩)] } }
    let rxOf := fun (t : State) => Tbl.get t.ctle.rx SetpRx.init (0x1000 * 65536 + 65535)
    genEn (nx (exec (.genEnable (.core 0) 319 0x80000000) z)).io 319 = true ∧
    (nx (exec (.genTargetWrite (.core 0) 319 7) z)).io.reg (Reg.CTLE.TARGET 319) = 7 ∧
    allocOwns owned.alloc.model 319 = true ∧ (nx (exec (.genTargetWrite (.core 0) 319 7) owned)).io.reg (Reg.CTLE.TARGET 319) = 0 ∧
    (nx (exec (.genLimitWrite (.core 0) 319 1 8) on)).io.flag 0x40120080 8 = true ∧
    (nx (exec (.genLimitWrite (.core 0) 319 2 0) z)).io.reg (Reg.CTLE.JMAX 319) = z.io.reg (Reg.CTLE.JMAX 319) ∧
    (m.version == 1 && m.payload.length == m.len && m.dst == 0x1000) = true ∧ nodeTakes z.net 0x1001 7 m = false ∧
    (rxOf (nx (exec (.setpointExpiry 0x1000 65535 10) rx_))).zeroAt = some 65535000010 ∧
    (rxOf (nx (exec (.setpointExpiry 0x1000 65535 9) rx_))).zeroAt = none := by
  decide +kernel

theorem witness_GeneratorsAndSetpoints_taken : nodeTakes z.net 0x1000 7 (msg 8 4 3 0x1000 7 0 (le 2 65535 ++ zeros 16)) = true :=
  nodeTakes_at_its_time _ _ (msg 8 4 3 0x1000 7 0 (le 2 65535 ++ zeros 16)) (by decide +kernel)

/-! Witnesses and examples: thermal observers and circuits. -/

/-- Observer 3 of chapter 05's worked example. -/
def truckCable : State :=
  [(0, 0x84030000), (0x3C, 0x17F0E8), (0x40, 0x102), (0x4C, 0x23280000), (0x50, 0x27100032), (0x54, 0x2DC6C0), (0x58, 0x16E360),
   (0x5C, 0xCCCD), (0x60, 0xFA0), (0x64, 0xF924), (0x68, 0x635), (0x70, 0xA7), (0x78, 0x3C2E4), (0x7C, 0xCBC7), (0x80, 0x14CD),
   (0x88, 0x1F6C), (0x90, 0x21E8DC), (0x94, 0x4B54), (0x98, 0x84E), (0xA0, 0xAC5E), (0xA8, 0x81F8A8)].foldl
    (fun s e => putR (bankKey (0x40130100 + e.1) 3) (BitVec.ofNat 32 e.2) s) z

/-- Eleven seconds in, and the fallback credit of 1200 A. -/
theorem test_credits_of_the_truck_cable :
    let x := credits truckCable.io 3 3500 3500 { Obs.init with t1 := 0x56E3D7, t2 := 0x2E0CCD }
    rCred truckCable.io 3 = 2001375 ∧ (x.cred1, x.cred10, x.cred60) = (2929000, 1696000, 1519000) ∧
    fallbackCred truckCable.io 3 = 1200000 ∧ obsEn truckCable.io 3 = true ∧ enabledObs truckCable.io = [3] := by
  decide +kernel

/-- Before the burst both shorter credits are cut to I_ABS. -/
theorem test_credits_before_the_burst :
    let x := credits truckCable.io 3 3500 3500 { Obs.init with t1 := 48 * 65536 + 43254, t2 := 38 * 65536 + 47186 }
    (x.cred1, x.cred10, x.cred60) = (3000000, 3000000, 1727000) := by
  decide +kernel

/-- The first step of the cable: an observer without a point starts in FALLBACK at its fallback credit. -/
theorem witness_StepPublishesCredits :
    let t := nx (exec (.thrmStep []) (atT 999999 truckCable))
    (atT 999999 truckCable).thrm.lastStep ≤ 0 ∧ t.thrm.lastStep = 1 ∧ (obsOf t.thrm 3).st ≠ .normal ∧ (obsOf t.thrm 3).cred60 = 1200000 := by
  decide +kernel

/-- The last observer and the last circuit in each state that a clause needs; a CCTL that takes an actuator, and one whose channel another has. -/
theorem witness_ThermalCommands :
    let obs := fun (x : Obs) => { z with thrm := { z.thrm with obs := [(511, x)] } }
    let circ := fun (x : Circ) => { z with thrm := { z.thrm with circ := [(63, x)] } }
    let run := circ { Circ.init with lastOn := some 0, active := true, runon := true }
    let routed := putR (Reg.THRM.CCTL 63) 0xC0000000 z
    let x0 := { z with thrm := { z.thrm with rx := [(0x1000 * 65536 + 65535, ⟨true, 1, 2, 10, 3, 4, false⟩)] } }
    let rxOf := fun (t : State) => Tbl.get t.thrm.rx CoolRx.init (0x1000 * 65536 + 65535)
    (obsOf (nx (exec (.observerFault 511) (obs { Obs.init with resFail := 3 }))).thrm 511).st = .fault ∧
    (obsOf (nx (exec (.observerFault 511) (obs { Obs.init with resFail := 2 }))).thrm 511).st = .normal ∧
    (obsOf (nx (exec (.recoverExpiry 511) (obs { Obs.init with st := .recovering }))).thrm 511).st = .normal ∧
    (obsOf (nx (exec (.recoverExpiry 511) (obs { Obs.init with st := .recovering, timer := 1 }))).thrm 511).st = .recovering ∧
    (circOf (nx (exec (.circRunonEnd 63) (atT 300000000000 run))).thrm 63).active = false ∧
    (circOf (nx (exec (.circRunonEnd 63) (atT 299999999999 run))).thrm 63).active = true ∧
    coolRouted routed.io 63 = true ∧ (circOf (nx (exec (.coolCmdSend 63) routed)).thrm 63).sentWin = 1 ∧ coolWin routed.io 63 = 1 ∧
    (nx (exec (.circEnable (.core 0) 63 0xA0170000) z)).io.reg (Reg.THRM.CCTL 63) = 0xA0170000 ∧
    (nx (exec (.circEnable (.core 0) 63 0xA0170000) (putR (Reg.THRM.CCTL 0) 0xA0170000 z))).io.reg (Reg.THRM.CCTL 63) = 0x20170000 ∧
    (rxOf (nx (exec (.coolCmdExpiry 0x1000 65535 10) x0))).loss = true ∧ (rxOf (nx (exec (.coolCmdExpiry 0x1000 65535 9) x0))).loss = false := by
  decide +kernel

theorem witness_ThermalCommands_taken : nodeTakes z.net 0x1000 7 (msg 6 0 3 0x1000 7 0 (zeros 24)) = true :=
  nodeTakes_at_its_time _ _ (msg 6 0 3 0x1000 7 0 (zeros 24)) (by decide +kernel)

/-! Witnesses and examples: the point plane. -/

/-- Chapter 06's string profile 0, its cell profile 1, and its string before the block. -/
def warmString : SProf := ⟨300000, 200000, 2900, 3100, 3450, 3600, -2000, 0, 4000, 5500, 0, 1500, 300, 5, 50, 0⟩
def cellProfile : Prof := ⟨2500, 3650, 2800, 3550, 2000, 10, 500, 1, true⟩
def stringBefore : RNode := { RNode.init with vMin := 3296, vMax := 3440, tMin := 2830, tMax := 4310, vStr := 741400, lastTime := 9000000000 }

/-- At pass 901, and with a cell in a hard violation. -/
theorem test_limits_of_the_warm_string :
    stringLimits 9008000000 warmString { stringBefore with vMax := 3480, tMax := 4350 } = (161994, 90941) ∧
    stringLimits 9008000000 warmString { stringBefore with hardN := 1 } = (0, 0) := by
  decide +kernel

/-- The last point, of a key of node 0x2041, in bucket 0 slot 0 of its key; `st` its STATUS. -/
def lastPoint (st : Nat) : State :=
  let key := 0x2041000000000007
  let p := { z.pnt with
    pts := [(33554431, ⟨100, 3440, 5, key, st, 1, none, false⟩)], prof := [(1, some cellProfile)],
    slots := [(bucketOf (0, 0) 0 key * 8, some ⟨false, 33554431, fprint (0, 0) key⟩)] }
  putR Reg.PNT.CTRL 7 { z with pnt := p }

/-- A block of one sample of that key, 3480 mV at 1 ms from node `src`. -/
def oneSample (src seq : Nat) : AtkMsg :=
  msg 3 0 src 4 0 1 ([1, 0, 1, 0] ++ zeros 4 ++ le 8 1000000 ++ zeros 8 ++ le 8 0x2041000000000007 ++ le 4 3480 ++ le 4 seq ++ zeros 8)

/-- The sample in each of its cases: FIFO full; another node's; 1 ms and 1 ns ahead; unknown; out of order; taken. -/
theorem witness_SamplesAreJudgedOneByOne :
    let s := rx 3 0x2041 (lastPoint 32769)
    let fresh := rx 3 0x2041 (lastPoint 32768)
    let m := oneSample 0x2041 6
    s.io.flag Reg.FAB.CTRL 0 = true ∧ atkReject s.io s.io.active m = none ∧ s.io.flag Reg.PNT.CTRL 0 = true ∧
    blockSamples m.payload = some [⟨0x2041000000000007, 3480, 6, 1000000, false⟩] ∧ lookupKey s.pnt 0x2041000000000007 = some 33554431 ∧
    (nx (exec (.pointBlock 512 m) s)).io.reg Reg.PNT.BLK_DROP_CNT = 1 ∧ (ptOf (nx (exec (.pointBlock 511 m) s)).pnt 33554431).value = 3480 ∧
    (nx (exec (.pointBlock 0 (oneSample 0x2042 6)) (rx 3 0x2042 s))).io.reg Reg.PNT.REJ_NODE_CNT = 1 ∧
    (nx (exec (.pointBlock 0 (oneSample 0x2041 5)) s)).io.reg Reg.PNT.REJ_SEQ_CNT = 1 ∧
    (nx (exec (.pointBlock 0 (oneSample 0x2041 5)) fresh)).io.reg Reg.PNT.REJ_SEQ_CNT = 0 ∧
    (nx (exec (.pointBlock 0 m) (rx 3 0x2041 (putR Reg.PNT.CTRL 1 z)))).io.reg Reg.PNT.UNKNOWN_CNT = 1 := by
  decide +kernel

/-- A sample 1 ms and 1 ns ahead of site time. -/
theorem witness_SamplesAreJudgedOneByOne_ahead :
    let m := msg 3 0 0x2041 4 0 1 ([1, 0, 1, 0] ++ zeros 4 ++ le 8 1000001 ++ zeros 8 ++ le 8 0x2041000000000007 ++ le 4 3480 ++ le 4 6 ++ zeros 8)
    (nx (exec (.pointBlock 0 m) (rx 3 0x2041 (lastPoint 32769)))).io.reg Reg.PNT.REJ_TIME_CNT = 1 := by
  decide +kernel

/-- The arguments of a point command. -/
def pntArg (key a0 a1 a2 a3 : Nat) (s : State) : State :=
  putR Reg.PNT.CMD_KEY_LO (w32 key) (putR Reg.PNT.CMD_KEY_HI (w32 (key / 2 ^ 32)) (putR (Reg.PNT.CMD_ARG 0) (w32 a0)
    (putR (Reg.PNT.CMD_ARG 1) (w32 a1) (putR (Reg.PNT.CMD_ARG 2) (w32 a2) (putR (Reg.PNT.CMD_ARG 3) (w32 a3) s)))))

/-- Each point command on the last point, the last nodes of a level; a key that is not there. -/
theorem witness_PointCommands :
    let key := 0x2041000000000007
    let empty := { z with pnt := { z.pnt with prof := [(1, some cellProfile)] } }
    let res := fun (t : State) => t.io.fld Reg.PNT.CMD_STAT 23 16
    let add := pntArg key 33554431 1 1 0x1FFFFF empty
    let nod := { z with pnt := { z.pnt with nodes := [(1118463, some RNode.init)] } }
    res (nx (exec (.addRange (.core 0)) add)) = 0 ∧ lookupKey (nx (exec (.addRange (.core 0)) add)).pnt key = some 33554431 ∧
    (freeSlot empty.pnt (bucketOf empty.pnt.salts 0 key) = some 0 ∧ empty.pnt.stash.length < rehashAt add.io) ∧
    (nx (exec (.delRange (.core 0)) (pntArg key 0 1 0 0 (lastPoint 32769)))).pnt.pts = [] ∧
    (nx (exec (.lookup (.core 0)) (pntArg key 0 0 0 0 (lastPoint 32769)))).io.reg Reg.PNT.CMD_RES = 33554431 ∧
    (pntExec 3 (pntArgs (pntArg 1 0 0 0 0 z).io) z.pnt z.io).1.code = 5 ∧
    res (nx (exec (.setProfile (.core 0)) (pntArg 0 33554431 1 1 0 (lastPoint 32769)))) = 0 ∧
    res (nx (exec (.defNodes (.core 0)) (pntArg 0 1118463 1 63 0x1FFFFF z))) = 0 ∧
    res (nx (exec (.defNodes (.core 0)) (pntArg 0 1118463 1 64 0x1FFFFF z))) ≠ 0 ∧
    (nx (exec (.delNodes (.core 0)) (pntArg 0 1118463 1 0 0 nod))).pnt.nodes = [] := by
  decide +kernel

/-- A stash of one entry; a rehash asked for and ended; a point 500 ms and 1 ns old; a pass with a string in a hard violation; profiles
committed and refused at the last place. -/
theorem witness_PointPlaneUpkeep :
    let key := 0x2041000000000007
    let stash := { z with pnt := { z.pnt with stash := [⟨key, 3, false⟩] } }
    let mid := { z with pnt := { z.pnt with prev := some (1, 2) } }
    let str := putR Reg.PNT.CTRL 7 { z with pnt := { z.pnt with nodes := [(1048576, some { RNode.init with hardN := 1 })] } }
    let win := putR (Reg.PNT.PROF_WIN 1) 3650 (putR (Reg.PNT.PROF_WIN 3) 3550 z)
    let swin := [(2, 2900), (3, 3100), (4, 3450), (5, 3600), (6, 0x0000F830), (7, 0x157C0FA0), (8, 0x05DC0000), (9, 0x3205012C)].foldl
      (fun s e => putR (Reg.PNT.SPROF_WIN e.1) (BitVec.ofNat 32 e.2) s) z
    freeSlot stash.pnt (bucketOf stash.pnt.salts 0 key) = some 0 ∧ (nx (exec .stashRetry stash)).pnt.stash = [] ∧
    (nx (exec (.rehashRequest (.core 0)) z)).pnt.prev = some (0, 0) ∧ (nx (exec .rehashEnd mid)).pnt.prev = none ∧
    (nx (exec (.pressClr (.core 0)) (putR Reg.PNT.STAT 0x20 z))).io.flag Reg.PNT.STAT 5 = false ∧
    nextDefined (lastPoint 32769).pnt 0 = some (33554431, false) ∧
    (ptOf (nx (exec (.sweepVisit ⟨false, [], []⟩) (atT 500000101 (lastPoint 32769)))).pnt 33554431).status = 32769 + 64 ∧
    (ptOf (nx (exec (.sweepVisit ⟨false, [], []⟩) (atT 500000100 (lastPoint 32769)))).pnt 33554431).status = 32769 ∧
    (nx (exec (.rollupPass []) str)).pnt.lastPass = 1 ∧ (nx (exec .rollLate str)).io.flag Reg.PNT.STAT 3 = true ∧
    (profOf (nx (exec (.profSelWrite (.core 0) 0x80000FFF) win)).pnt 0xFFF).map Prof.hardHi = some 3650 ∧
    (profOfWords fun k => z.io.reg (Reg.PNT.PROF_WIN k)) = none ∧
    (sprofOf (nx (exec (.sprofSelWrite (.core 0) 0x800000FF) swin)).pnt 0xFF).map SProf.staleMs = some 300 ∧
    (sprofOfWords fun k => z.io.reg (Reg.PNT.SPROF_WIN k)) = none ∧
    (nx (exec (.rdIdxWrite (.core 0) 33554431) (lastPoint 32769))).io.reg (Reg.PNT.RD_DATA 3) = 5 ∧
    (nx (exec (.nodeSelWrite (.core 0) 1048576) str)).io.reg (Reg.PNT.NODE_WIN 0) = 0x7FFFFFFF := by
  decide +kernel

/-! Witnesses and examples: vehicle sessions and heads. -/

/-- Dispenser `d`, enabled for ISO 15118-20 DC over PLC, with session `x` and the head's report `h`; SESS runs. -/
def outlet (d : Nat) (x : Sess) (h : HeadIn) : State :=
  putR Reg.SESS.CTRL 1 (putR (Reg.SESS.DCTL d) 0x84020000 { z with sess := { z.sess with disp := [(d, x)], heads := [(d, h)] } })

/-- A report whose node holds site time. -/
def report : HeadIn := { HeadIn.init with seen := true, timeHeld := true }

/-- The capacitances of chapter 07's worked example. -/
def caps (s : State) : State :=
  putR (Reg.SESS.C_OUT 4) 400000 (putR (Reg.SESS.C_CABLE 4) 20000 (putR (Reg.SESS.C_EV_MAX 4) 2000000 (putR (Reg.SESS.C_Y 4) 1000 s)))

/-- The worked example: the capacitances in series, and the energies of the gates. -/
theorem test_gates_of_dispenser_4 :
    let io := (caps z).io
    let x := { Sess.init with ev := { EvVals.init with preMv := 798000 } }
    ser 400000 20000 = 19048 ∧ ser 420000 2000000 = 347108 ∧
    gateEval 1 io 4 x { report with vOut := 12000 } = (2, true) ∧ gateEval 2 io 4 x { report with vCable := 760000 } = (251, false) ∧
    gateEval 2 io 4 x { report with vCable := 772000 } = (118, true) ∧ gateEval 2 io 4 x { report with vCable := 796500 } = (1, true) ∧
    gateEval 3 io 4 x { report with vCable := 3000 } = (1, true) := by
  decide +kernel

/-- The worked example: ENERGY, its STATE record, GATE; and with the contactor voltages 38 V apart. -/
theorem witness_EnergyStartsOnlyThroughGate2 :
    let x := { Sess.init with st := .precharge, proto := 3, ev := { EvVals.init with preMv := 798000 } }
    let s := caps (outlet 4 x { report with vCable := 796500 })
    let bad := caps (outlet 4 x { report with vCable := 760000 })
    let t := nx (exec (.energyStartRequest 4) s)
    (s.live = true ∧ s.io.active = true ∧ s.io.flag Reg.SESS.CTRL 0 = true ∧ s.io.flag (Reg.SESS.DCTL 4) 31 = true) ∧
    headFresh s.sess s.io 4 = true ∧ x.fwStop = false ∧
    (sesOf t.sess 4).st = .energy ∧ (sesOf t.sess 4).gate = 0x00010200 ∧ (qWords 6 t).contains 0x8B1046050000000 = true ∧
    (sesOf (nx (exec (.energyStartRequest 4) bad)).sess 4).st = .fault ∧ (sesOf (nx (exec (.energyStartRequest 4) bad)).sess 4).cause = 0xC := by
  decide +kernel

/-- Dispenser 255 in each state from which a request is taken, and in one from which it is not. -/
theorem witness_VehicleRequestsMoveTheSession :
    let s := fun (x : Sess) => outlet 255 x report
    let at_ := fun (st : SState) => s { Sess.init with st := st, proto := 3 }
    let st := fun (t : State) => (sesOf t.sess 255).st
    let u := EvUpd.none
    (at_ .link).live = true ∧ (at_ .link).io.flag (Reg.SESS.DCTL 255) 31 = true ∧ (at_ .link).io.fld (Reg.SESS.DCTL 255) 23 22 = 0 ∧
    headFresh (at_ .link).sess (at_ .link).io 255 = true ∧
    st (nx (exec (.linkUp 255) (s { Sess.init with st := .plugged, linkRb := true }))) = .link ∧
    (nx (exec (.sdpRequest 255 true) (at_ .link))).io.evts.length = 1 ∧ (nx (exec (.sdpRequest 255 false) (at_ .link))).io.evts.length = 0 ∧
    st (nx (exec (.sapRequest 255 [(3, 1)]) (s { Sess.init with st := .link, ctx := [0] }))) = .setup ∧
    st (nx (exec (.sapRequest 255 [(3, 1)]) (at_ .link))) = .link ∧ st (nx (exec (.sapRequest 255 []) (at_ .setup))) = .fault ∧
    (sesOf (nx (exec (.slowPathRequest 255 65535 [1] u none) (at_ .setup))).sess 255).slow.length = 1 ∧
    st (nx (exec (.slowPathRequest 255 0 [] u none) (at_ .energy))) = .fault := by
  decide +kernel

theorem witness_VehicleRequestsMoveTheSession_power :
    let s := fun (x : Sess) => outlet 255 x report
    let at_ := fun (st : SState) => s { Sess.init with st := st, proto := 3 }
    let st := fun (t : State) => (sesOf t.sess 255).st
    let u := EvUpd.none
    let en := { Sess.init with st := .setup, energyEn := true }
    let far := putR (Reg.SESS.C_OUT 255) 4000000 (putR (Reg.SESS.C_CABLE 255) 4000000 (outlet 255 en { report with vOut := 1000000 }))
    st (nx (exec (.cableCheckRequest 255 u) (s en))) = .cableCheck ∧ st (nx (exec (.cableCheckRequest 255 u) (at_ .setup))) = .fault ∧
    st (nx (exec (.cableCheckRequest 255 u) far)) = .fault ∧
    st (nx (exec (.prechargeRequest 255 5) (s { Sess.init with st := .cableCheck, isoOk := true }))) = .precharge ∧
    st (nx (exec (.prechargeRequest 255 5) (at_ .cableCheck))) = .fault ∧
    st (nx (exec (.fastPathRequest 255 .loop u) (at_ .energy))) = .energy ∧ st (nx (exec (.fastPathRequest 255 .loop u) (at_ .setup))) = .fault ∧
    st (nx (exec (.chargeStandby 255) (at_ .energy))) = .paused ∧
    st (nx (exec (.chargeStandby 255) (s { Sess.init with st := .energy, proto := 1 }))) = .fault ∧
    st (nx (exec (.stopRequest 255) (at_ .paused))) = .stopping ∧ st (nx (exec (.stopRequest 255) (at_ .setup))) = .fault ∧
    st (nx (exec (.sessionEndRequest 255) (at_ .discharge))) = .ended ∧ (sesOf (nx (exec (.sessionEndRequest 255) (at_ .stopping))).sess 255).endRx = true := by
  decide +kernel

/-- A ClientHello with a leaf key takes the lowest free context. -/
theorem witness_VehicleRequestsMoveTheSession_tls :
    let s := outlet 255 { Sess.init with st := .link } report
    let k : State := { s with hlm := { s.hlm with slots := [(0, some ⟨1, true, 0⟩)] } }
    leafKeys k = true ∧ k.io.flag Reg.XCR.CTRL 0 = true ∧ (sesOf (nx (exec (.clientHello 255 .hello) k)).sess 255).ctx = [0] ∧
    (0 ∉ ctxUsed k.sess) := by
  decide +kernel

/-- All 512 contexts in use. -/
theorem witness_VehicleRequestsMoveTheSession_full :
    ∀ j, j < 512 → j ∈ ctxUsed { z.sess with disp := [(0, { Sess.init with ctx := List.range 512 })] } := by
  intro j h
  simpa [ctxUsed] using h

/-- Q7 records at the ends of their ranges; deadlines met and 1 ns before; a report out of date; certificates at their greatest length. -/
theorem witness_FirmwareAndTimersOfSessions :
    let s := fun (x : Sess) => outlet 255 x report
    let at_ := fun (st : SState) => s { Sess.init with st := st }
    let st := fun (t : State) => (sesOf t.sess 255).st
    let w := s { Sess.init with st := .setup, slow := [⟨65535, 7, [], 9⟩] }
    let rej := fun (t : State) => t.io.reg Reg.SESS.Q7_REJ_CNT
    (sesOf (nx (exec (.txMsg 0xC0FF0000070000FFFF [] true) w)).sess 255).slow.length = 1 ∧
    (sesOf (nx (exec (.txMsg 0xC0FF000007FFFF [] true) w)).sess 255).slow = [] ∧
    (sesOf (nx (exec (.txMsg 0xC0FF000007FFFF [] false) w)).sess 255).slow.length = 1 ∧ rej (nx (exec (.txMsg 0xC0FF000007FFFE [] true) w)) = 1 ∧
    (sesOf (nx (exec (.cmdEnergyEn 255 1) w)).sess 255).floor = true ∧ rej (nx (exec (.cmdEnergyEn 255 0xFFFFFFFF) w)) = 1 ∧
    (sesOf (nx (exec (.cmdEnergyDis 255 0) (s { Sess.init with energyEn := true }))).sess 255).energyEn = false ∧
    rej (nx (exec (.cmdStop 255 1) w)) = 1 ∧ rej (nx (exec (.cmdResetFault 255 0xFFFFFFFF) w)) = 1 ∧
    st (nx (exec (.cmdStop 255 0) (at_ .energy))) = .stopping ∧ (sesOf (nx (exec (.cmdStop 255 0) (at_ .plugged))).sess 255).fwStop = true ∧
    st (nx (exec (.cmdResetFault 255 0) (at_ .fault))) = .idle ∧ st (nx (exec (.cmdResetFault 255 0) (s { Sess.init with st := .fault, lockRb := 1 }))) = .fault ∧
    st (nx (exec (.fwTimeout 255 65535) (atT 9 w))) = .fault ∧ st (nx (exec (.fwTimeout 255 65535) (atT 8 w))) = .setup := by
  decide +kernel

theorem witness_FirmwareAndTimersOfSessions_timers :
    let s := fun (x : Sess) => outlet 255 x report
    let st := fun (t : State) => (sesOf t.sess 255).st
    let stop := s { Sess.init with st := .stopping, tmr := { STimers.init with stop := some 9 } }
    let fast := putR Reg.SESS.CFG 0x01000000 (s { Sess.init with st := .energy })
    let frag : State := { z with sess := { z.sess with frags := [((255 * 8 + 3) * 65536 + 65535, some ⟨[1], 0⟩)] } }
    (sesOf stop.sess 255).timer 6 = some (9, 0xA) ∧ st (nx (exec (.sessionTimeout 255 6) (atT 9 stop))) = .fault ∧
    st (nx (exec (.sessionTimeout 255 6) (atT 8 stop))) = .stopping ∧
    st (nx (exec (.headStatusStale 255) (atT 8000001 (s { Sess.init with st := .energy })))) = .fault ∧
    headFresh fast.sess (atT 8000000 fast).io 255 = true ∧ (sesOf (nx (exec (.fastReport 255) fast)).sess 255).fastWin = 1 ∧
    (nx (exec (.certDataWrite (.core 0) 0x04030201) z)).sess.xcr.stage = [(0, 1), (1, 2), (2, 3), (3, 4)] ∧
    (Tbl.get (nx (exec (.certCommit (.core 0) 0x20000001 true) z)).sess.xcr.stores [] 0).length = 8192 ∧
    (nx (exec (.certCommit (.core 0) 0x00010001 false) z)).io.flag Reg.XCR.CERT_CTL 1 = true ∧
    (nx (exec (.fragmentTimeout 255 3 65535) (atT 2000000 frag))).sess.frags = [] ∧
    (nx (exec (.fragmentTimeout 255 3 65535) (atT 1999999 frag))).sess.frags ≠ [] := by
  decide +kernel

/-- The model names head 0xFFF for dispenser 255, whose head's messages arrive; `x` its session. -/
def headed (ty : Nat) (x : Sess) : State :=
  let s := rx ty 0xFFF (outlet 255 x report)
  { s with alloc := { s.alloc with model := [(11, 1), (dispO 255 + 10, 0xFF), (dispO 255 + 11, 0x0F)] } }

/-- A VTUN message of dispenser 255's head. -/
def vtun (ch fl : Byte) (data : List Byte) : AtkMsg :=
  msg 5 0 0xFFF 4 0 1 ([ch, fl, 255, 0] ++ le 2 data.length ++ [0xFF, 0xFF] ++ zeros 8 ++ data)

/-- PILOT, CTL and vehicle frames in the states that the clauses name. -/
theorem witness_HeadMessagesMoveTheSession :
    let at_ := fun (st : SState) => headed 5 { Sess.init with st := st }
    let ses := fun (t : State) => sesOf t.sess 255
    let pilot := fun (b : Byte) => vtun 4 0 ([b] ++ zeros 7)
    let ctl := fun (op rb : Byte) => vtun 6 0 ([op, 0, 7, 0, rb] ++ zeros 11)
    let f := headed 5 { Sess.init with st := .energy }
    let held : State := { f with sess := { f.sess with frags := [((255 * 8 + 2) * 65536 + 65535, some ⟨[1], 0⟩)] } }
    atkReject (at_ .idle).io true (pilot 1) = none ∧ vtunOk (at_ .idle).alloc.model 0xFFF (pilot 1).payload = true ∧
    (ses (nx (exec (.pilotReport (pilot 1)) (at_ .idle)))).st = .plugged ∧ (ses (nx (exec (.pilotReport (pilot 5)) (at_ .energy)))).cause = 3 ∧
    (ses (nx (exec (.pilotReport (pilot 2)) (at_ .energy)))).pilot = 2 ∧ (ses (nx (exec (.pilotReport (pilot 0)) (at_ .ended)))).st = .idle ∧
    (ses (nx (exec (.ctlResponse (ctl 1 3)) (headed 5 { Sess.init with st := .cableCheck, ctl := [(7, 1)] })))).closed = some true ∧
    (ses (nx (exec (.ctlResponse (ctl 2 0)) (headed 5 { Sess.init with st := .stopping, ctl := [(7, 2)] })))).st = .discharge ∧
    (ses (nx (exec (.ctlResponse (ctl 2 0)) (at_ .energy)))).st = .energy ∧
    (ses (nx (exec (.vehicleFrame 9 (vtun 1 0 [1, 2])) (at_ .energy)))).tcp.rx = 9 ∧
    (qWords 6 (nx (exec (.vehicleFrame 0 (vtun 3 0 (zeros 16))) (at_ .energy)))).length ≠ 0 ∧
    (nx (exec (.vehicleFrame 9 (vtun 2 1 [1])) f)).sess.frags.length = 1 ∧ (nx (exec (.vehicleFrame 9 (vtun 2 2 [1])) held)).sess.frags = [] := by
  decide +kernel

/-- HEAD_STATUS in the states that the clauses name; 500 kOhm is R293's least by reset. -/
theorem witness_HeadMessagesMoveTheSession_status :
    let ses := fun (t : State) => sesOf t.sess 255
    let hs := fun (fl : Byte) (iso vy : Nat) => msg 8 1 0xFFF 4 0 1 ([255, fl, 0, 0] ++ zeros 20 ++ le 2 vy ++ zeros 6 ++ le 4 iso ++ zeros 12)
    let cy := putR (Reg.SESS.C_Y 255) 4000000 (headed 8 { Sess.init with st := .energy, run := { SRuns.init with y := 2 } })
    let m := hs 6 500 0
    let h := parseHead 0 m.payload
    atkReject (headed 8 Sess.init).io true m = none ∧ headLayout m.payload = true ∧ dispHead (headed 8 Sess.init).alloc.model 255 = 0xFFF ∧
    h.timeHeld = true ∧ h.imd = true ∧ h.iso = 500 ∧
    (ses (nx (exec (.headStatus m) (headed 8 { Sess.init with st := .cableCheck })))).isoOk = true ∧
    (ses (nx (exec (.headStatus (hs 6 499 0)) (headed 8 { Sess.init with st := .cableCheck })))).isoOk = false ∧
    (ses (nx (exec (.headStatus (hs 4 0 10000)) cy))).cause = 0x12 ∧
    (ses (nx (exec (.headStatus m) (headed 8 { Sess.init with st := .stopping, run := { SRuns.init with resid := 1 } })))).openSent = true ∧
    (ses (nx (exec (.headStatus m) (headed 8 { Sess.init with st := .energy, closed := some true, run := { SRuns.init with contra := 1 } })))).cause = 0x11 ∧
    (ses (nx (exec (.headStatus (hs 0 0 0)) (headed 8 { Sess.init with st := .energy })))).cause = 0xD := by
  decide +kernel

/-- A head with and without its coil supplied; frames due and 1 ns early; fragments; loss of control and its 100 ms. -/
theorem witness_HeadsObeyTheirCommands :
    let at_ := fun (h : HeadSt) => { z with sess := { z.sess with head := [(255, h)] } }
    let hd := fun (t : State) => headOf t.sess 255
    let one : HeadTx := ⟨1, 9, [5]⟩
    let p := fun (fl : Byte) (at_ : Nat) => [3, fl, 255, 0, 1, 0, 0xFF, 0xFF] ++ le 8 at_ ++ [7]
    let lost := at_ { HeadSt.init with lost := true, lowSince := some 0, lock := 1 }
    (hd (nx (exec (.pilotCommand 255 9 50 1 3) z))).lock = 1 ∧ (hd (nx (exec (.ctlClose 255 9 7) z))).closed = z.coilOf 255 ∧
    (hd (nx (exec (.ctlOpen 255 9 7) (at_ { HeadSt.init with closed := true })))).closed = false ∧
    (hd (nx (exec (.headTxAt 255 9) (at_ { HeadSt.init with tx := [one] })))).tx = [] ∧
    (hd (nx (exec (.headTxAt 255 8) (at_ { HeadSt.init with tx := [one, one] })))).tx.length = 2 ∧
    (nx (exec (.vtunToHead 9 (p 0 9)) z)).io.evts.length = 1 ∧ (hd (nx (exec (.vtunToHead 8 (p 0 9)) z))).tx.length = 1 ∧
    (hd (nx (exec (.vtunToHead 8 (p 1 9)) z))).frag.length = 1 ∧
    (nx (exec (.vtunToHead 9 (p 2 9)) (at_ { HeadSt.init with frag := [(3 * 65536 + 65535, some ⟨[6], 0⟩)] }))).io.evts.length = 1 ∧
    (hd (nx (exec (.headControlLoss 255 2000000000 true) (at_ { HeadSt.init with closed := true })))).lost = true ∧
    (hd (nx (exec (.headControlLoss 255 1999999999 true) (at_ { HeadSt.init with closed := true })))).lost = false ∧
    (hd (nx (exec (.headControlLoss 255 100000000 true) lost))).lock = 0 ∧ (hd (nx (exec (.headControlLoss 255 99999999 true) lost))).lock = 1 := by
  decide +kernel

/-! Witnesses and examples: networks. -/

/-- One message for each check of R324 that can fail first, and one that passes. -/
theorem witness_FailedChecksChangeOnlyTheirCounter :
    let s := rx 8 0x1000 (atT 1000000000 z)
    let m := msg 8 1 0x1000 4 1000000000 5 [1]
    let why := fun (m : AtkMsg) => atkReject s.io true m
    s.io.flag Reg.FAB.CTRL 0 = true ∧ why m = none ∧ why { m with flags := 2 } = some (Reg.FAB.FORMAT_CNT, none) ∧
    why { m with sub := 4 } = some (Reg.FAB.FORMAT_CNT, none) ∧ why { m with dst := 2 } = some (Reg.FAB.DST_DROP_CNT, none) ∧
    why { m with src := 0x1001 } = some (Reg.FAB.NOKEY_CNT, some 3) ∧ why { m with tagOk := false } = some (Reg.FAB.TAG_FAIL_CNT, some 0) ∧
    why { m with time := 1001000000 } = none ∧ why { m with time := 1001000001 } = some (Reg.FAB.TIME_REJ_CNT, some 2) ∧
    atkReject { s.io with streams := [(streamKey 8 0x1000, ⟨true, 5, 0, 999999999⟩)] } true m = some (Reg.FAB.SEQ_REJ_CNT, some 1) ∧
    (nx (exec (.atkaiDiscard { m with tagOk := false }) s)).io.reg 0x40300080 = 1 := by
  decide +kernel

/-- A node of the fabric and its key. -/
def wired (s : State) : State :=
  let t := putR Reg.FAB.CTRL 0x11 (putR (Reg.FAB.PORT_STAT 0) 1 s)
  { t with io := { t.io with nodes := [(8191, { NodeEnt.init with id := 0x1000, path := 1 })], keys := [(0x1000, ⟨true, 3, none, 0⟩)] } }

/-- An application message; a stream and a key at their ends; Q11 messages that are refused, have no path, and are sent; frames of a port
that is up and one that is down; the last node entry; a ring that is full and one of 64 entries. -/
theorem witness_MessagesFramesAndRing :
    let app := msg 0xFF 0 0x1000 4 0 1 [1, 2]
    let str := fun (t : Nat) => atT t { z with io := { z.io with streams := [(streamKey 8 9, ⟨true, 1, 0, 0⟩)] } }
    let key := fun (t : Nat) => atT t { z with io := { z.io with keys := [(9, ⟨true, 1, some 7, 0⟩)] } }
    let node : State := { z with net := { z.net with nodeStreams := [(nodeStream 5 8 9, ⟨true, 1, 0, 0⟩)] } }
    atkReject (rx 0xFF 0x1000 z).io true app = none ∧ (qWords 10 (nx (exec (.appMessage app) (rx 0xFF 0x1000 z)))).length ≠ 0 ∧
    (nx (exec (.streamForget 8 9 none) (str 2000000000))).io.streams = [] ∧ (nx (exec (.streamForget 8 9 none) (str 1999999999))).io.streams ≠ [] ∧
    (nx (exec (.streamForget 8 9 (some (5, 2000000000))) node)).net.nodeStreams = [] ∧
    (Tbl.get (nx (exec (.keyGenExpiry 9) (key 1000000000))).io.keys KeyGen.init 9).prev = none ∧
    (Tbl.get (nx (exec (.keyGenExpiry 9) (key 999999999))).io.keys KeyGen.init 9).prev = some 7 ∧
    (nx (exec (.atkTx 0x7F 0 0x1000 []) (wired z))).io.reg Reg.FAB.Q11_REJ_CNT = 1 ∧
    (nx (exec (.atkTx 0xFF 0 0x1001 []) (wired z))).io.reg Reg.FAB.TX_NOPATH_CNT = 1 ∧
    (nx (exec (.atkTx 8 0x80 0x1000 [7]) (wired z))).io.out.map (fun o => (o.ty, o.sub, o.dst, o.keyGen, o.payload)) = [(8, 0x80, 0x1000, 3, [7])] ∧
    portUp (wired z).net (wired z).io 0 = true ∧ portUp (wired z).net (wired z).io 1 = false ∧
    (nx (exec (.ethTx 0 [1]) (wired z))).io.evts.length = 1 ∧ (qWords 10 (nx (exec (.ethFrameReceive 0 .other [1]) (wired z)))).length ≠ 0 ∧
    (nx (exec (.fabNodeSel (.core 0) 8191) (wired z))).io.reg (Reg.FAB.NODE_WIN 0) = 0x1000 := by
  decide +kernel

theorem witness_MessagesFramesAndRing_ring :
    let ring := fun (left : Nat) => putR Reg.HOST.RING_SIZE 64 { z with net := { z.net with ringLeft := left }, io := { z.io with stage := [(Reg.HOST.OUT_LO, some 1)] } }
    ringFull z.io = true ∧ ringFull (ring 0).io = false ∧ (nx (exec (.hostOutWrite (.core 0) 0) z)).io.flag Reg.HOST.OUT_STAT 0 = true ∧
    (nx (exec (.hostOutWrite (.core 0) 0) (ring 0))).net.ringLeft = 1 ∧ (nx (exec (.hostOutWrite (.core 0) 0) (ring 1))).net.msix = 1 ∧
    (nx (exec (.hostOutWrite (.core 0) 0) (ring 2))).net.msix = 0 := by
  decide +kernel

/-- PTP before the first commit, with its grandmaster lost; TIME_SYNC due on controller 7; segments, ports, links at their last numbers. -/
theorem witness_SiteTimeAndLinks :
    let f := putR Reg.FAB.CTRL 9 z
    let run : State := { f with boot := { f.boot with committed := true } }
    let ts : State := let t := putR (Reg.CAN.TS_MS 7) 100 (putR (Reg.CAN.CTRL 7) 1 f); { t with net := { t.net with ts := [(7, ⟨some (5, 6), 0⟩)] } }
    let nt : State := { z with net := { z.net with nodeTime := [(5, ⟨some 0, some 0, 100, true⟩)] } }
    let seg := putR (Reg.T1S.SEG_CFG 7) 0x80000000 z
    let down := { z with net := { z.net with fabDownAt := some 0 } }
    f.io.flag Reg.FAB.CTRL 3 = true ∧ f.io.fld Reg.FAB.CTRL 2 1 = 0 ∧ f.running = false ∧ run.running = true ∧ f.mtr.hmi = [] ∧
    (nx (exec (.ptpMessage (-5) 15 none) f)).now = 5 ∧
    (nx (exec (.grandmasterLoss false) (putR Reg.FAB.PTP_STAT 0x80000000 f))).io.flag 0x40300080 6 = true ∧
    (Tbl.get (nx (exec (.timeSyncSend 7 3) ts)).net.ts TsMedium.init 7).nextAt = 100000000 ∧ ts.io.linkUp 3 7 = true ∧
    (Tbl.get (nx (exec (.timeHoldLoss 5) (atT 300000000 nt))).net.nodeTime NodeTime.init 5).held = false ∧
    (Tbl.get (nx (exec (.timeHoldLoss 5) (atT 299999999 nt))).net.nodeTime NodeTime.init 5).held = true ∧
    (nx (exec (.plcaBeaconConflict 7) seg)).net.t1sQuiet = [7] ∧ (putR (Reg.T1S.SEG_CFG 7) 0x80010000 z).io.fld (Reg.T1S.SEG_CFG 7) 20 16 ≠ 0 ∧
    (nx (exec (.plcaChg 7 true true) z)).io.reg (Reg.T1S.SEG_STAT 7) = 3 ∧
    (nx (exec (.fabricLinkChange 3 true true) z)).io.flag (Reg.FAB.PORT_STAT 3) 0 = true ∧
    (nx (exec (.fabricLinkChange 3 false false) (putR Reg.FAB.CTRL 0x80 z))).net.fabDownAt = some 0 ∧
    (atT 2000000 down).io.active = true ∧ (nx (exec .fabricLost (atT 1999999 down))).mir = z.mir ∧
    (nx (exec (.pcieLinkChange true 4 4 3) z)).io.reg Reg.HOST.PCIE_STAT = 0x49 ∧ (nx (exec (.mgmtLinkChange true) z)).net.mgmtUp = true := by
  decide +kernel

/-- The node takes a TIME_SYNC of its own time, and has one. -/
theorem witness_SiteTimeAndLinks_node :
    nodeTakes z.net 5 7 (msg 0xB 0 1 0xFFFF 7 0 (zeros 16)) = true :=
  nodeTakes_at_its_time _ _ (msg 0xB 0 1 0xFFFF 7 0 (zeros 16)) (by decide +kernel)

/-- A controller 7 that runs, with one filter of an action: every frame of no extended identifier matches. -/
def can7 (action : Nat) (x : CanSt) : State :=
  let s := putR (Reg.CAN.CTRL 7) 0xD (putR (Reg.CAN.FLT_CFG 7 0) (BitVec.ofNat 32 (0xE0000000 + action * 0x8000000)) (putR (Reg.CAN.FLT_MASK 7 0) 0 z))
  { s with net := { s.net with can := [(7, x)] } }

/-- A frame of 64 bytes with a first segment. -/
def fdFrame : CanFrame := ⟨1, false, 0x7FF, false, true, false, 0, 0, 0x80 :: 0x37 :: List.replicate 62 7⟩

/-- Receive: each action; the queue with one entry free and with none; segments in and out of order. -/
theorem witness_CanControllers_receive :
    let r := fun (s : State) (f : CanFrame) => nx (exec (.canFrameReceive 7 f true) s)
    let x := fun (t : State) => canOf t.net 7
    let full := { CanSt.init with rx := (List.range 64).map fun e => (e, some fdFrame) }
    let part := { CanSt.init with seg := [(0x7FF, some ⟨1, 0x37, [1], 0⟩)] }
    canTakes (can7 0 CanSt.init).io 7 fdFrame = true ∧ fltAction (can7 0 CanSt.init).io 7 fdFrame = some 0 ∧
    rxFree { full with rx := full.rx.take 63 } = some 63 ∧ (x (r (can7 0 { full with rx := full.rx.take 63 }) fdFrame)).rx.length = 64 ∧
    (x (r (can7 0 full) fdFrame)).ovrRun = 1 ∧ (x (r (can7 1 CanSt.init) fdFrame)).hp = some fdFrame ∧
    (Tbl.get (x (r (can7 2 CanSt.init) fdFrame)).seg none 0x7FF).map CanSeg.next = some 1 ∧
    (x (r (can7 2 part) { fdFrame with data := [2, 0x37] })).seg = [] ∧
    (r (can7 3 CanSt.init) fdFrame).io.reg (Reg.CAN.RX_CNT 7) = 1 := by
  decide +kernel

/-- No filter is enabled: the frame is missed. -/
theorem witness_CanControllers_missed :
    fltAction (putR (Reg.CAN.CTRL 7) 0xD z).io 7 fdFrame = none := by
  decide +kernel

/-- Chapter 08's worked example: two frames of 64 and 48 bytes make the message of 96 bytes and 12 bytes of fill. -/
theorem test_two_segments_of_a_grant :
    let t := canSegment 2 ⟨1, true, 0x14A7A, false, true, false, 0, 0, 0x80 :: 0x37 :: zeros 62⟩ z.net z.io
    let u := canSegment 2 ⟨1, true, 0x14A7A, false, true, false, 0, 0, 0x41 :: 0x37 :: zeros 46⟩ t.1.1 t.1.2
    t.2 = none ∧ u.2.map List.length = some 108 ∧ (canOf u.1.1 2).seg = [] := by
  decide +kernel

/-- Entries, transmissions, errors, at entry 31: ready, cancelled in each phase, sent, lost, in error with and without attempts left. -/
theorem witness_CanControllers_transmit :
    let x := fun (t : State) => canOf t.net 7
    let one := fun (y : CanTx) => can7 0 { CanSt.init with tx := [(31, y)] }
    let ready := { CanTx.init with ready := true }
    (canTx (x (nx (exec (.canTxReady (.core 0) 7 31) (one CanTx.init)))) 31).ready = true ∧
    canNext 7 (one ready).net (one ready).io = some 31 ∧
    (x (nx (exec (.canTxCancel (.core 0) 7 31 none .waiting) (one ready)))).tx = [] ∧
    (canTx (x (nx (exec (.canTxCancel (.core 0) 7 31 (some 31) .won) (one ready)))) 31).cancel = true ∧
    (x (nx (exec (.canTxCancel (.core 0) 7 31 (some 31) .completed) (one ready)))).tx = [] ∧ canSends (one ready).io 7 = true ∧
    (x (nx (exec (.canTxComplete 7 (some 31) .sent) (one ready)))).tx = [] ∧
    (x (nx (exec (.canTxComplete 7 (some 31) .lost) (one { ready with cancel := true })))).tx = [] ∧
    (x (nx (exec (.canTxComplete 7 (some 31) .lost) (one ready)))).tx ≠ [] ∧
    (nx (exec (.canBusError 7 (some 31) false) (one ready))).io.fld (Reg.CAN.STAT 7) 24 16 = 8 ∧
    (x (nx (exec (.canBusError 7 (some 31) false) (putR (Reg.CAN.TX_CTL 7 31) 0x10000000 (one { ready with attempts := 1 }))))).tx = [] ∧
    (canTx (x (nx (exec (.canBusError 7 (some 31) false) (putR (Reg.CAN.TX_CTL 7 31) 0xF0000000 (one { ready with attempts := 99 }))))) 31).attempts = 100 ∧
    (x (nx (exec (.canTxFlush (.core 0) 7 none .waiting) (one ready)))).tx = [] := by
  decide +kernel

/-- Restricted operation; bus-off and its 128 sequences; a full entry acknowledged, and an empty one; a segment out of time. -/
theorem witness_CanControllers_errors :
    let rom := putR (Reg.CAN.CTRL 7) 0x11 (putR (Reg.CAN.STAT 7) 0x80000000 z)
    let near := putR (Reg.CAN.STAT 7) 0x40F80000 (can7 0 CanSt.init)
    let off := putR (Reg.CAN.STAT 7) 0x61000000 (can7 0 CanSt.init)
    let ent := can7 0 { CanSt.init with rx := [(63, some fdFrame)], seg := [(0x7FF, some ⟨1, 0x37, [1], 0⟩)] }
    (nx (exec (.canBusError 7 none true) rom)).io.reg (Reg.CAN.ERR_FRAME_CNT 7) = 1 ∧
    (nx (exec (.canBusError 7 none false) near)).io.fld (Reg.CAN.STAT 7) 31 29 = 3 ∧
    (nx (exec (.canBusOffRecovery 7 127) off)).io.fld (Reg.CAN.STAT 7) 7 0 = 127 ∧
    (nx (exec (.canBusOffRecovery 7 128) off)).io.fld (Reg.CAN.STAT 7) 31 16 = 0 ∧
    (canOf (nx (exec (.canRxAck (.core 0) 7 63) ent)).net 7).rx = [] ∧ Tbl.get (canOf ent.net 7).rx none 62 = none ∧
    (canOf (nx (exec (.canSegmentTimeout 7 0x7FF) (atT 10000000 ent))).net 7).seg = [] ∧
    (canOf (nx (exec (.canSegmentTimeout 7 0x7FF) (atT 9999999 ent))).net 7).seg ≠ [] := by
  decide +kernel

/-! Witnesses and examples: the power-line mesh. -/

/-- The mesh runs and is coordinated by this unit, address 0; neighbour 7 is `n`. -/
def mesh (n : Nbr) : State :=
  putR Reg.SPN.CTRL 3 { z with spn := { z.spn with nbr := [(7, n)] } }

/-- A map of 8800 bits at rate 5/6, short guard. -/
def map3 : ToneMap := ⟨3, 2, false, 8800, []⟩

/-- Chapter 09's worked example: M of three maps. -/
theorem test_metrics_of_the_links :
    let n := { Nbr.init with st := 2 }
    linkM z.io { n with tx := some map3 } = 727 ∧ linkM z.io { n with tx := some ⟨2, 1, false, 6912, []⟩ } = 727 ∧
    linkM z.io { n with tx := some ⟨5, 0, false, 3960, []⟩ } = 773 ∧ linkM z.io { n with st := 3 } = 0xFFFF := by
  decide +kernel

/-- The same example: the path through repeater 7 stands at 14 s, and RT_WIN shows it. -/
theorem test_path_through_the_repeater :
    let s := atT 14000000000 (putR Reg.SPN.CTRL 3 { z with spn := { z.spn with metric := [(7, 727), (21, 1449), (7 * 1024 + 21, 773)], joined := [(7, 0x1007), (21, 0x115)], paths := [(21, [7, 21])] } })
    let t := nx (exec (.registerWrite (.core 0) Reg.SPN.RT_SEL 21) (nx (exec .meshRoutePass s)))
    (t.io.reg (Reg.SPN.RT_WIN 0), t.io.reg (Reg.SPN.RT_WIN 1), t.io.reg (Reg.SPN.RT_WIN 2)) = (0x400705DC, 0x000703FF, 0x03FF03FF) := by
  decide +kernel

/-- Thresholds: 1 dB carries one bit, 28.5 dB carries ten. -/
theorem test_bits_of_a_carrier : (carBits 255 0, carBits 256 0, carBits 7296 0, carBits 7296 1) = (0, 1, 10, 9) := by decide +kernel

/-- Frames, SACKs, repeats and tone maps from neighbour 7 in its states. -/
theorem witness_MeshLinks :
    let n1 := { Nbr.init with st := 1 }
    let fc : MeshFc := ⟨true, 0, 7, 0, 255, false, 0, false⟩
    let pb : MeshPb := ⟨0, true, true, 0, 0, false, 7, 0, 0, 0, [1]⟩
    let x : MeshTx := ⟨7, 5, ⟨7, 0, false, 0, 0, 0, 0, [1], 8, 3⟩, [0, 1], 0, false⟩
    let busy := fun (n : Nbr) (a : Nat) => let s := mesh n; { s with spn := { s.spn with tx := [{ x with attempts := a }] } }
    let st := fun (t : State) => (nbrOf t.spn 7).st
    (mesh n1).spn.taken = (mesh n1).io.out.length ∧ (mesh n1).io.fld Reg.SPN.CFG 23 10 = 0 ∧ ownMesh (mesh n1).io = 0 ∧
    (nx (exec (.meshDataFrame { fc with crcOk := false } [pb] 0 true) (mesh n1))).io.reg Reg.SPN.FC_ERR_CNT = 1 ∧
    (nx (exec (.meshDataFrame fc [{ pb with crcOk := false }] 0 true) (mesh n1))).io.evts = [⟨"MESH_SACK", 7, [255, 0, 0]⟩] ∧
    (nx (exec (.meshDataFrame fc [pb] 0 false) (mesh n1))).io.reg Reg.SPN.RX_FRAME_CNT = 1 ∧
    st (nx (exec (.meshSack 7 5 1 true) (mesh { n1 with st := 2 }))) = 1 ∧
    (nx (exec (.meshSack 7 5 3 false) (busy n1 0))).spn.tx = [] ∧
    (nx (exec (.meshSack 7 5 1 false) (busy n1 0))).spn.tx.map MeshTx.left = [[1]] ∧
    (nx (exec (.meshSack 7 5 1 false) (busy n1 99))).io.reg Reg.SPN.DROP_CNT = 1 ∧
    (nbrOf (nx (exec (.meshSackTimeout 7 5) (busy { n1 with st := 2 } 0))).spn 7).noSack = 1 ∧
    st (nx (exec (.meshSackTimeout 7 5) (busy { n1 with st := 2, noSack := 99 } 0))) = 1 ∧
    st (nx (exec (.nbrLost 7) (atT 6000000000 (mesh n1)))) = 3 ∧ st (nx (exec (.nbrLost 7) (atT 5999999999 (mesh n1)))) = 1 := by
  decide +kernel

/-- Tone maps: acknowledged, out of time, due after eight frames and after a SACK with TM_BAD; every carrier is masked off. -/
theorem witness_MeshLinks_maps :
    let n1 := { Nbr.init with st := 1 }
    let off := fun (n : Nbr) => (List.range 37).foldl (fun s i => putR (Reg.SPN.MASK i) 0xFFFFFFFF s) (mesh n)
    let nb := fun (t : State) => nbrOf t.spn 7
    let frc := putR Reg.SPN.CTRL 0x13 (mesh n1)
    (nb (nx (exec (.tmUpdate 7 map3 true) (mesh n1)))).st = 2 ∧ (nb (nx (exec (.tmUpdate 7 map3 true) frc))).st = 1 ∧
    (nb (nx (exec (.tmAck 7 3 true) (mesh { n1 with rxNew := some map3 })))).rx = some map3 ∧
    (nb (nx (exec (.oldTmiExpiry 7) (atT 9 (mesh { n1 with rxOld := some (3, 9) }))))).rxOld = none ∧
    (nb (nx (exec (.oldTmiExpiry 7) (atT 8 (mesh { n1 with rxOld := some (3, 9) }))))).rxOld = some (3, 9) ∧
    (nb (nx (exec (.tmUpdateDue 7 [9000] 4001) (off { n1 with eighth := some 0 })))).rxNew = some ⟨1, 2, true, 8, [10]⟩ ∧
    (nb (nx (exec (.tmUpdateDue 7 [9000] 4000) (off { n1 with badAt := some 0 })))).updAt = some 0 ∧
    (nb (nx (exec (.tmRefresh (.core 0) [(7, [9000], 0)]) (off n1)))).updAt = some 0 ∧
    (nb (nx (exec (.forceRobust (.core 0)) (mesh { n1 with st := 2 })))).st = 1 ∧
    (nx (exec .meshLdOvc z)).io.reg Reg.SPN.LD_OVC_CNT = 1 ∧
    (nx (exec .meshSyncLost (putR Reg.SPN.STAT 4 z))).io.flag Reg.SPN.STAT 2 = false ∧ (putR Reg.SPN.STAT 6 z).io.flag Reg.SPN.STAT 1 = true := by
  decide +kernel

/-- Reports, routes, joining and beacons at their last numbers; a unit without a partner coordinates. -/
theorem witness_MeshRouting :
    let s := mesh { Nbr.init with st := 1 }
    let reg : State := { s with io := { s.io with nodes := [(0, { NodeEnt.init with id := 0x115, path := 4, ip := 1023 })] } }
    let quiet := putR Reg.SPN.CTRL 1 z
    isCoord s.spn s.io = true ∧ isCoord quiet.spn quiet.io = false ∧ quiet.io.flag Reg.SPN.CTRL 1 = false ∧
    (nx (exec (.nbrReport 1023 [(1023, 0x10000)] true) s)).spn.metric = [(1023 * 1024 + 1023, 0xFFFF)] ∧
    (nx (exec (.nbrReportSend []) quiet)).spn.repWin = 1 ∧ (nx (exec .meshRoutePass s)).spn.passWin = 1 ∧
    hopOf (nx (exec (.routeSet 1023 [(1023, 7)] true true) s)).spn 1023 1023 = some 7 ∧
    (nx (exec (.joinReq 1023 0x115 true) reg)).spn.joined = [(1023, 0x115)] ∧ (nx (exec (.joinReq 1022 0x115 true) reg)).spn.joined = [] ∧
    s.io.node 0x115 = none ∧ (nx (exec .beaconSend s)).spn.beacons = 1 ∧
    (nx (exec (.beacon 0 9 0 true) (putR Reg.SPN.STAT 2 s))).spn.conflict = true ∧ (nx (exec (.beacon 0 9 0 true) s)).spn.conflict = false := by
  decide +kernel

/-! Witnesses and examples: legal metering. -/

/-- Chapter 10's worked example: STD_OFS 3600 s, ABSENT_MS 1000, GRACE_MS 300, point 0 of element 0, dispenser 4's head 0x0504 of 400 kW. -/
def legalParams : Tbl Byte :=
  [(4, 0x10), (5, 0x0E), (0xA, 0xE8), (0xB, 3), (0xC, 100), (0x10, 150), (0x14, 0x2C), (0x15, 1), (0x24, 8), (0x2C, 8), (0x40, 1),
   (0x100, 4), (0x101, 5), (0x102, 1), (0x104, 0x80), (0x105, 0x1A), (0x106, 6), (0x108, 9)]

/-- The example's calendar: tariff 1 until 18:00, tariff 2 from then on; one billing date, 15 March. -/
def calendar : List Byte :=
  le 4 7 ++ zeros 12 ++ [1, 1, 1, 1] ++ zeros 44 ++ [0, 1, 72, 2] ++ List.replicate 28 0xFF ++ zeros 8 ++ [1, 1, 0, 0] ++ [3, 15, 0, 0] ++ zeros 114

/-- Sepia meters at a local meter time given in ms, in the interval given. -/
def meters (m iv : Nat) (f : MtrSt → MtrSt) : State :=
  let now := (m - 3600000 + 37000) * 1000000
  let s := atT now z
  { s with mtr := f { MtrSt.init with running := true, lp := legalParams, active := calendar, clk := { LClock.init with tai := 37 },
                                      iv := ⟨true, iv, 2, now, now, 0⟩ } }

def t1800 : Nat := 1931277600000

/-- The metering head's block: SEQ, MEAS_TIME, CTR_ID, E_IMP. -/
def block (s : State) (seq ctr imp : Nat) : AtkMsg :=
  msg 4 0 0x0504 4 s.io.now seq ([4, 0] ++ le 2 ctr ++ zeros 4 ++ le 8 (s.io.now - 50000000) ++ le 8 imp ++ zeros 8 ++ zeros 8 ++ le 8 9)

/-- Channel 4. -/
def withCh (x : MtrCh) (s : State) : State := { s with mtr := { s.mtr with ch := [(4, x)] } }

/-- The example's times: the interval, the civil day, the tariffs, the energy of a full second at 320 kW that R404 lets pass. -/
theorem test_meter_times :
    t1800 / 900000 = 2145864 ∧ dayOf 2031 3 14 = 22352 ∧ t1800 / 86400000 = 22352 ∧ calFormatOk calendar = true ∧
    tariffAt calendar t1800 = 2 ∧ tariffAt calendar (t1800 - 900000) = 1 ∧
    plausible 400000 1000000000 (400000 * 1010000 / 3600000) = true ∧ plausible 400000 1000000000 112224 = false ∧
    billingAt calendar 1931299200000 = true ∧ billingAt calendar t1800 = false ∧
    checkText [0x3F, 0x9A, 0x07, 0xC2, 0x58, 0xD1, 0xE4, 0xB6] = [0x33, 0x46, 0x39, 0x41, 0x20, 0x30, 0x37, 0x43, 0x32, 0x20, 0x35, 0x38, 0x44, 0x31, 0x20, 0x45, 0x34, 0x42, 0x36] := by
  decide +kernel

/-- The example's first block after the restart: totals, tariff 2, CARRY, the CHANNEL record, and CSTAT before and after. -/
theorem test_block_after_the_cut :
    let r : MBlock := ⟨1, (t1800 - 3600100 + 37000) * 1000000, 0, 48215331, 0, false⟩
    let x := { MtrCh.init with st := 2, ref := some r, e := { MEnergy.init with imp := 31910196, tarImp := [(1, 12447207)] } }
    let open_ : MtrCh := { x with txn := some ⟨1, 0, none, [], 0, [], [], none, none, none⟩ }
    let s := putR Reg.MTR.CH_SEL 4 (rx 4 0x0504 (meters (t1800 + 182150) 2145864 id))
    let t := nx (exec (.meterBlock (block s 0x1F3A2 0 48222442)) (withCh x s))
    let y := chOf t.mtr 4
    mtrView (withCh open_ s).mtr s.io 0x40400400 = some 0x40000102 ∧ mtrView t.mtr t.io 0x40400400 = some 0x20000022 ∧
    mtrView t.mtr t.io 0x40400414 = some 0 ∧ mtrView t.mtr t.io 0x40400410 = some 0x01E704FB ∧
    (y.e.tarImp, y.ref.map MBlock.imp) = ([(1, 12447207), (2, 7111)], some 48222442) ∧ qWords 8 t = [0x85D01040001F3A2] := by
  decide +kernel

/-- Blocks: refused, first, in the interval and after it, backward, beyond the bound, of a new counter, on STANDBY; an absence; a ledger delta. -/
theorem witness_BlocksEnterOnce :
    let s := rx 4 0x0504 (meters (t1800 + 1000000) 2145865 id)
    let r : MBlock := ⟨1, s.io.now - 1050000000, 7, 1000, 0, false⟩
    let have_ := fun (s : State) => withCh { MtrCh.init with st := 1, ref := some r } s
    let m := block s 5 7 1500
    let run := fun (m : AtkMsg) (s : State) => nx (exec (.meterBlock m) s)
    let ch := fun (t : State) => chOf t.mtr 4
    let ok := fun (m : AtkMsg) (t : State) => (ch t).ref = some (parseBlock m)
    s.live = true ∧ s.io.active = true ∧ atkReject s.io true m = none ∧ blockOk s.mtr m = true ∧ blockOk s.mtr { m with src := 9 } = false ∧
    (ch (run { m with payload := m.payload.take 40 ++ zeros 8 } s)).refused = 1 ∧ ok m (run m s) ∧ ok m (run m (have_ s)) ∧
    (ch (run m (have_ s))).e.imp = 500 ∧ (ch (run m (have_ { s with mtr := { s.mtr with iv := { s.mtr.iv with iv := 2145864 } } }))).e.nextImp = 500 ∧
    (ch (run (block s 5 7 999) (have_ s))).st = 3 ∧ (ch (run (block s 5 7 113223) (have_ s))).e.imp = 112223 ∧
    (ch (run (block s 5 7 113224) (have_ s))).st = 3 ∧ (ch (run (block s 5 8 1500) (have_ s))).e.imp = 0 := by
  decide +kernel

theorem witness_BlocksEnterOnce_absence :
    let s := meters (t1800 + 1000000) 2145865 id
    let x := { MtrCh.init with st := 1, acceptedAt := s.io.now - 1000000000 }
    let sb := standby (rx 4 0x0504 s)
    let m := block sb 5 7 1500
    let d := fun (seq : Nat) => (⟨seq, 255, { MtrCh.init with st := 1 }, some [3]⟩ : LedgerDelta)
    sb.io.active = false ∧ atkReject sb.io true m = none ∧ (nx (exec (.meterBlock m) sb)).mtr.kept.length = 1 ∧
    (chOf (nx (exec (.channelAbsent 4) (withCh x s))).mtr 4).st = 2 ∧
    (chOf (nx (exec (.channelAbsent 4) (withCh { x with acceptedAt := x.acceptedAt + 1 } s))).mtr 4).st = 1 ∧
    (mirFrame ⟨0, 0, 0, 0, 0, true, [], 0⟩ ((linked sb).mir, (linked sb).io)).2 = true ∧
    (nx (exec (.ledgerDelta ⟨0, 0, 0, 0, 0, true, [], 0⟩ (d 1)) (linked sb))).mtr.tids = [3] ∧
    (nx (exec (.ledgerDelta ⟨0, 0, 0, 0, 0, true, [], 0⟩ (d 2)) (linked sb))).mtr.sync = false := by
  decide +kernel

/-- MBX_DATA. -/
def data (bs : List Byte) (s : State) : State :=
  (List.range ((bs.length + 3) / 4)).foldl (fun s i => putR (Reg.MTR.MBX_DATA i) (w32 (u32 bs (4 * i))) s) s

/-- Site time held with L behind by 12 ms (the example), ahead within an hour and beyond; the end of a slew; the early warning. -/
theorem witness_LegalClockAndCalendars :
    let off := fun (d : Int) => putR Reg.FAB.PTP_STAT 0x80000000 (meters (t1800 + 180000) 2145864 fun y => { y with clk := { y.clk with d := d } })
    let held := fun (d : Int) => nx (exec .legalTimeHeld (off d))
    let slew := fun (d : Int) => nx (exec .legalSlewEnd (meters 5000000 0 fun y => { y with clk := { y.clk with d := d, slew := some 0 } }))
    let low := fun (v l : Nat) => (nx (exec (.supplyEarlyWarning v l) (meters t1800 2145863 id))).mtr.clk.saved
    (off 0).sepia = true ∧ (held 0).mtr.clk.held = true ∧ qWords 8 (held (-12000000)) = [0x85C20000000000C] ∧
    (held (-12000000)).mtr.clk.d = 0 ∧ (held 3600000000000).mtr.clk.slew.isSome = true ∧ (held 3600000000001).mtr.clk.fault = true ∧
    (slew 287400000).mtr.clk.slew = none ∧ (slew 287400001).mtr.clk.slew = some 0 ∧
    low 38499 0 = 1931274037000000000 ∧ low 38500 2000 = 1931274037000000000 ∧ low 38500 1999 = 0 ∧
    (nx (exec .legalTimeSave (meters t1800 2145863 id))).mtr.clk.saved = 1931274037000000000 := by
  decide +kernel

/-- An interval closes at its end plus GRACE_MS and not before, with its entry; a pending calendar comes in; 00:00 on 15 March bills. -/
theorem witness_LegalClockAndCalendars_interval :
    let x : MtrCh := { MtrCh.init with st := 1, e := { MEnergy.init with imp := 31910196, imp0 := 31903085, nextImp := 5 } }
    let at_ := fun (m : Nat) => withCh x (meters m 2145863 fun y => { y with iv := { y.iv with tariff := 1, openL := y.iv.openL - 899000000000, acc := 899000000000 } })
    let t := nx (exec .intervalClose (at_ (t1800 + 300)))
    let b := nx (exec .intervalClose (withCh x (meters (1931299200000 + 300) 2145887 id)))
    let y := chOf t.mtr 4
    (at_ t1800).mtr.iv.on = true ∧ chCfg (at_ t1800).mtr 4 = true ∧ (nx (exec .intervalClose (at_ (t1800 + 299)))).mtr.iv.iv = 2145863 ∧
    (t.mtr.iv.iv, t.mtr.iv.tariff, y.maxImp, y.unarch) = (2145864, 2, 28, 1) ∧ y.ring = [⟨31910196, 0, 2145863, 1, 0, 899, 28, 0⟩] ∧
    (y.e.imp, y.e.tarImp) = (31910201, [(2, 5)]) ∧ qWords 8 t = [0x45800000020BE47] ∧ ((chOf b.mtr 4).maxImp, b.mtr.iv.iv) = (0, 2145888) ∧
    (nx (exec .intervalClose (meters (t1800 + 300) 2145863 fun y => { y with pending := calendar, active := [] }))).mtr.active = calendar := by
  decide +kernel

/-- The mailbox: adjustments at their limit and beyond, across the end of an interval; a calendar taken and refused. -/
theorem witness_LegalClockAndCalendars_mailbox :
    let s := fun (d : Nat) => putR (Reg.MTR.MBX_ARG 0) (w32 d) (meters (t1800 + 899900) 2145864 id)
    let adj := fun (d : Nat) => nx (exec (.civilAdj (.core 3)) (s d))
    let load := fun (ok : Bool) (n : Nat) (a : List Byte) =>
      (nx (exec (.calLoad (.core 3) ok) (data calendar (putR (Reg.MTR.MBX_ARG 0) (w32 n) (meters t1800 2145864 fun y => { y with active := a }))))).io.reg Reg.MTR.MBX_STAT
    let st := fun (t : State) => t.io.reg Reg.MTR.MBX_STAT
    (adj 99).mtr.iv.iv = 2145864 ∧ (adj 100).mtr.iv.iv = 2145865 ∧ (adj 0xFFFFFF9C).mtr.clk.adj = -100 ∧ st (adj 101) = 0x40060500 ∧
    st (adj 100) = 0x40000500 ∧ load true 226 [] = 0x40000300 ∧ load false 226 [] = 0x40030300 ∧ load true 225 [] = 0x40050300 ∧
    load true 226 calendar = 0x400A0300 ∧ st (nx (exec (.calCancel (.core 0)) (s 0))) = 0x40000400 := by
  decide +kernel

/-- Samples of point 0, good, failing and stopped; the seal; calibration words; a reference run. -/
theorem witness_LocalElementsAndSeal :
    let s := fun (x : MtrCh) => let t := meters t1800 2145864 id; { t with mtr := { t.mtr with ch := [(256, x)] } }
    let raw : List (Int × Int) := [(65536, 65536)]
    let p := fun (bad : List Nat) (x : MtrCh) => chOf (nx (exec (.metrologySample raw bad) (s x))).mtr 256
    let x := { MtrCh.init with st := 1 }
    (s x).sepia = true ∧ chCfg (s x).mtr 256 = true ∧ chCfg (s x).mtr 257 = false ∧ (p [] x).pw = 2 ^ 64 ∧
    (p [0] { x with pw := 5, badPw := 6 }).st = 1 ∧ (p [0] { x with pw := 5, badPw := 7 }).st = 4 ∧ (p [] { x with st := 4 }).pw = 0 ∧
    (chOf (nx (exec (.meterPointFault 0) (s { x with badPw := 8 }))).mtr 256).st = 4 ∧
    (chOf (nx (exec (.meterPointFault 0) (s { x with badPw := 7 }))).mtr 256).st = 1 := by
  decide +kernel

theorem witness_LocalElementsAndSeal_calibration :
    let s := meters t1800 2145864 id
    let op := putR Reg.MTR.SEAL 0x80000000 { s with hlm := { s.hlm with lc := 3 } }
    let full := { op with mtr := { op.mtr with sealCnt := 32 } }
    let cal := fun (who : Who) (s : State) => (nx (exec (.calWrite who 7 4 5) s)).io.reg (Reg.MTR.CAL_PH_CORR 7)
    let q := rx 0xA 9 s
    let m := fun (p : List Byte) => msg 0xA 0 9 4 q.now 1 p
    let ann := fun (at_ : Nat) => m ([7, 1, 0, 0] ++ le 4 3 ++ le 8 at_ ++ le 8 (at_ + 1000000000) ++ zeros 8)
    let res := m ([7, 2, 0, 0] ++ le 4 3 ++ zeros 16 ++ le 8 1)
    let ready : State := { q with mtr := { q.mtr with calRun := [(7, some ⟨3, 0, 1, some 0, some 1⟩)] } }
    (nx (exec .sealOpen s)).mtr.perm.length = 1 ∧ (nx (exec .sealClose op)).io.flag Reg.MTR.SEAL 31 = false ∧ (nx (exec .sealOpen op)).mtr.perm = [] ∧
    cal .sepia op = 5 ∧ cal .sepia s = 0 ∧ cal .sepia full = 0 ∧ cal (.core 0) op = 0 ∧ (nx (exec (.calWrite .sepia 7 4 5) full)).mtr.roll.length = 1 ∧
    atkReject q.io true (ann (q.now + 10000000)) = none ∧ (nx (exec (.calRefAnnounce (ann (q.now + 10000000))) q)).mtr.calRun.length = 1 ∧
    (nx (exec (.calRefAnnounce (ann (q.now + 9999999))) q)).mtr.calRun = [] ∧ atkReject q.io true res = none ∧
    (nx (exec (.calRefResult res) ready)).mtr.calRun = [] := by
  decide +kernel

/-- The mailbox of channel 4: a transaction opens, is asked to close, and every command that fails. -/
theorem witness_TransactionsArchiveTokens :
    let k : Txn := ⟨9, 0, none, [], 0, [], [], none, none, none⟩
    let x := fun (k : Option Txn) => { MtrCh.init with st := 1, txn := k }
    let s := fun (a0 a1 : Nat) (k : Option Txn) => withCh (x k) (putR (Reg.MTR.MBX_ARG 1) (w32 a1) (putR (Reg.MTR.MBX_ARG 0) (w32 a0) (meters t1800 2145864 id)))
    let st := fun (i : Instr) (s : State) => (nx (exec i s)).io.reg Reg.MTR.MBX_STAT
    let page : Page := ⟨1, 4, 2 ^ 32 + 4, 96, 0, 0, [0xAB]⟩
    let arch := fun (s : State) => { s with mtr := { s.mtr with arch := { s.mtr.arch with pages := [page] } } }
    (s 4 0 none).live = true ∧ st (.txnOpen (.core 0)) (s 5 0 none) = 0x40020100 ∧ st (.txnOpen (.core 0)) (s 4 0 (some k)) = 0x40070100 ∧
    (chOf (nx (exec (.txnOpen (.core 0)) (s 4 0 none))).mtr 4).txn.isSome = true ∧ st (.txnClose (.core 0)) (s 4 0 none) = 0x40070200 ∧
    st (.txnClose (.core 0)) (s 4 0 (some k)) = 0x40000200 ∧ (chOf (nx (exec (.prepay (.core 0)) (s 4 1 none))).mtr 4).prepay = true ∧
    st (.prepay (.core 0)) (s 4 2 none) = 0x40020700 ∧ st (.display (.core 0)) (s 0x400F04 0 none) = 0x40090600 ∧
    st (.display (.core 0)) (s 0x401004 0 none) = 0x40000600 ∧ st (.display (.core 0)) (s 0x411004 0 none) = 0x40020600 ∧
    st (.archRead (.core 0)) (arch (s 4 0 none)) = 0x40080800 ∧ mbxArg (s 4 1 none).io 0 + mbxArg (s 4 1 none).io 1 * 2 ^ 32 = page.seq := by
  decide +kernel

/-- Readings, a close at a block and one from the mark; both need METER_KEY for a record. -/
theorem witness_TransactionsArchiveTokens_close :
    let s := rx 4 0x0504 (meters (t1800 + 1000000) 2145865 fun y => { y with key := some 1 })
    let r : MBlock := ⟨1, s.io.now - 1050000000, 7, 1000, 0, false⟩
    let m := block s 5 7 1500
    let rd : Reading := ⟨0, 0, 0, 0⟩
    let k : Txn := ⟨9, s.io.now - 50000000, none, [], 0, [], [], none, none, none⟩
    let have_ := fun (k : Txn) => withCh { MtrCh.init with st := 1, ref := some r, txn := some k } s
    let t := nx (exec (.meterBlock m) (have_ { k with start := some rd, closeAt := some k.at_ }))
    let auto_ := fun (since : Nat) => let u := have_ { k with mark := some (r, [], []) }; { u with sess := { u.sess with disp := [(4, { Sess.init with since := since })] } }
    let a := fun (since : Nat) => (nx (exec (.txnAutoClose 4) (auto_ since))).mtr.arch.txns.length
    atkReject s.io true m = none ∧ ivOf s.mtr (legalAt s.mtr s.io (parseBlock m).meas) = 2145865 ∧ s.mtr.key.isSome = true ∧
    ((chOf (nx (exec (.meterBlock m) (have_ k))).mtr 4).txn.bind Txn.start).map Reading.imp = some 1500 ∧
    (t.mtr.arch.txns.length, (chOf t.mtr 4).txn) = (1, none) ∧ (sesOf (auto_ 0).sess 4).st = .idle ∧
    r.meas = s.io.now - 1050000000 ∧ a (s.io.now - 2000000000) = 1 ∧ a (s.io.now - 1999999999) = 0 ∧ a r.meas = 0 := by
  decide +kernel

/-- The archive: a page of seven records; nothing due; a bad page; a region that is full; the write done and failed. -/
theorem witness_TransactionsArchiveTokens_archive :
    let arch := fun (f : ArchSt → ArchSt) => meters t1800 2145864 fun y => { y with key := some 1, arch := f { y.arch with txns := List.replicate 7 (9, []) } }
    let due := fun (k : Nat) (ok : Bool) (s : State) => (nx (exec (.archivePageDue k 4 ok) s)).mtr.arch
    let page : Page := ⟨2, 0xFFFF, 5, 7, 0, 0, []⟩
    let wrote := fun (k : Nat) (ok : Bool) => (nx (exec (.archiveWriteDone ok) (arch fun a => { a with busy := some { page with kind := k } }))).mtr.arch
    let held := fun (l : Int) => arch fun a => { a with pages := [{ page with writeL := l }] }
    let now : Int := legalNow (arch id).mtr (arch id).io
    (archDue 2 4 ((arch id).mtr, (arch id).io)).isSome = true ∧ (archDue 1 4 ((arch id).mtr, (arch id).io)).isSome = false ∧
    (due 2 true (arch id)).busy.isSome = true ∧ (due 2 false (arch id)).fault = true ∧ (due 2 true (held (now - 34560000000000000))).full = 2 ∧
    (due 2 true (held (now - 34560000000000001))).busy.isSome = true ∧ (wrote 2 true).txns = [] ∧ (wrote 2 false).fault = true ∧ (wrote 1 true).seq = 1 := by
  decide +kernel

/-- Tokens of 2^62 each side of their limits; the lock; a check value asked for and cleared. -/
theorem witness_TransactionsArchiveTokens_tokens :
    let hmi := fun (field : Nat) (d : List Byte) (s : State) =>
      msg 5 0 0x0504 4 s.io.now 1 ([5, 0, 4, 0] ++ le 2 (4 + d.length) ++ zeros 10 ++ [1, BitVec.ofNat 8 d.length, BitVec.ofNat 8 field, 0] ++ d)
    let digits := fun (n : Nat) => (List.range 20).map fun i => BitVec.ofNat 8 (0x30 + n / 10 ^ (19 - i) % 10)
    let at_ := fun (k : TokLock) =>
      let s := putR Reg.SESS.CTRL 1 (withCh { MtrCh.init with st := 1, lock := k } (rx 5 0x0504 (meters t1800 2145864 fun y => { y with tids := [77] })))
      { s with alloc := { s.alloc with model := [(10, 5), (dispO 4 + 10, 4), (dispO 4 + 11, 5)] } }
    let s := at_ TokLock.init
    let tok := fun (n : Nat) (ok : Bool) => nx (exec (.tokenEntry (hmi 1 (digits n) s) ok) s)
    let r := fun (t : State) => (qWords 8 t).map fun w => (w / 2 ^ 34 % 16, w % 2 ^ 24)
    let credit := fun (t : State) => (chOf t.mtr 4).e.credit
    let good := 2 ^ 62 + 78 * 2 ^ 38 + 3 * 2 ^ 22
    atkReject s.io true (hmi 1 (digits 0) s) = none ∧ State.hmiEntry 1 (hmi 1 (digits good) s) (received (hmi 1 (digits good) s) s) = some (4, digits good) ∧
    (r (tok good true)).contains (0, 78) = true ∧ credit (tok good true) = 300000 ∧ credit (tok (good - 2 ^ 62) true) = 30000 ∧
    r (tok good false) = [(2, 78)] ∧ r (tok (good + 2 ^ 62) true) = [(6, 78)] ∧ r (tok (good - 2 ^ 38) true) = [(3, 77)] ∧ r (tok (2 ^ 66) true) = [(1, 0)] ∧
    r (nx (exec (.tokenEntry (hmi 1 (digits good) s) true) (at_ ⟨[], s.io.now + 1, 0, 0⟩))) = [(5, 0)] := by
  decide +kernel

theorem witness_TransactionsArchiveTokens_display :
    let s := meters t1800 2145864 fun y => { y with check := [0x3F, 0x9A] }
    let ask := { putR Reg.SESS.CTRL 1 (rx 5 0x0504 s) with alloc := { s.alloc with model := [(10, 5), (dispO 4 + 10, 4), (dispO 4 + 11, 5)] } }
    let m := msg 5 0 0x0504 4 s.io.now 1 ([5, 0, 4, 0] ++ le 2 4 ++ zeros 10 ++ [1, 0, 2, 0])
    let lock := fun (u : Nat) => nx (exec (.tokenUnlock 4) (withCh { MtrCh.init with st := 1, lock := ⟨[], u, 60, 0⟩ } s))
    let clr := fun (due : Nat) => (nx (exec (.checkClear 255) { s with mtr := { s.mtr with clear := [(255, due)] } })).mtr.clear.length
    atkReject ask.io true m = none ∧ State.hmiEntry 2 m (received m ask) = some (4, []) ∧
    (nx (exec (.checkRequest m) ask)).mtr.clear = [(4, s.io.now + 30000000000)] ∧ (clr s.io.now, clr (s.io.now + 1)) = (0, 1) ∧
    (chOf (lock s.io.now).mtr 4).lock.until_ = 0 ∧ (chOf (lock (s.io.now + 1)).mtr 4).lock.until_ = s.io.now + 1 := by
  decide +kernel

/-! Witnesses and examples: Helmet. -/

/-- Chapter 11's worked example: HLM.STAT after the tamper of source 4, and KU_LAST of two updates. -/
theorem test_helmet_words :
    let p : List Byte := [1, 1, 7]
    let last := fun (r : Nat) => (kuRecord p true r [] (z.hlm, z.io)).2.reg Reg.HLM.KU_LAST
    w32 (hlmStat { z.hlm with lc := 4, prog := 0xF, wipeDone := true, keysLost := true } (putR Reg.HLM.TMP_STAT 0x01000010 z).io) = 0x44DF0000 ∧
    last 0 = 0x00010700 ∧ last 5 = 0x05010700 := by
  decide +kernel

/-- A part with an identity, a slot and a key, each of its life-cycle states, and the arguments of a command. -/
def part (lc a0 a1 : Nat) : State :=
  let s := putR (Reg.HLM.MBX_ARG 1) (w32 a1) (putR (Reg.HLM.MBX_ARG 0) (w32 a0) z)
  { s with hlm := { s.hlm with lc := lc, ident := some ⟨1, 2, []⟩, slots := [(63, some ⟨6, true, 3⟩)] },
           io := { s.io with keys := [(0x7FFF, ⟨true, 1, none, 0⟩)] } }

theorem witness_HelmetServesItsMailbox :
    let st := fun (i : Instr) (s : State) => (nx (exec i s)).io.reg Reg.HLM.MBX_STAT
    let bad := fun (s : State) => { s with hlm := { s.hlm with rngBad := some 0 } }
    let e : SramReq := ⟨5, some 7⟩
    let q : SramReq := ⟨5, none⟩
    (part 1 0 0).live = true ∧ (part 1 0 0).hlm.ident.isSome = true ∧ st (.getId (.core 0)) z = 0x400C0100 ∧
    st (.attest (.core 0) []) z = 0x400C0200 ∧ st (.hlmStatus (.core 0)) z = 0x40000500 ∧ st (.random (.core 0) []) (part 1 0 0) = 0x400A0300 ∧
    st (.random (.core 0) []) (part 1 4097 0) = 0x400A0300 ∧ st (.random (.core 0) []) (bad (part 1 4096 0)) = 0x40090300 ∧
    st (.attest (.core 0) []) (part 1 3 0) = 0x400A0200 ∧ hSlot (part 1 1 63).hlm 63 = some ⟨6, true, 3⟩ ∧ st (.attest (.core 0) []) (part 1 1 62) = 0x400C0200 ∧
    (Tbl.get (part 1 1 0x7FFF).io.keys KeyGen.init 0x7FFF).held = true ∧ st (.attest (.core 0) []) (part 1 1 64) = 0x400C0200 ∧
    (sramRun [⟨some e, some q⟩] (z.hlm, z.io)).2.reg Reg.HLM.SRAM_STALL_CNT = 1 ∧
    st (.ownerFuse (.core 0)) (part 1 4 0) = 0x400A1100 ∧ st (.ownerFuse (.core 0)) (part 2 3 0) = 0x40061100 ∧
    (nx (exec (.ownerFuse (.core 0)) (part 1 3 0))).hlm.prog = 8 ∧
    st (.ownerFuse (.core 0)) (nx (exec (.ownerFuse (.core 0)) (part 1 3 0))) = 0x40081100 ∧
    st (.provision (.core 0) true) (part 1 0 0) = 0x40061000 ∧ st (.provision (.core 0) false) z = 0x40041000 ∧
    st (.provision (.core 0) true) (bad z) = 0x40091000 ∧ (nx (exec (.provision (.core 0) true) z)).hlm.state = 1 ∧
    st (.returnPart (.core 0) true) (part 2 0 0) = 0x40061200 ∧ (nx (exec (.returnPart (.core 0) true) z)).hlm.state = 4 := by
  decide +kernel

/-- A key update for the part, from the owner of slot 0, whose key is 57 zeros: OP, CLASS, counter 1, target, KEY_LEN, LC_TARGET. -/
def update (h : HlmSt) (op cls tgt len lct : Nat) : List Byte :=
  [1, BitVec.ofNat 8 op, BitVec.ofNat 8 cls, 0] ++ le 2 tgt ++ zeros 2 ++ le 8 1 ++ h.devHash ++ zeros 57 ++ zeros 75 ++ le 2 len ++ le 2 lct ++ zeros 210

/-- The part's slots 0 and 1 are the owners', and its counter is 0. -/
def owned (lc : Nat) : HlmSt := { (part lc 0 0).hlm with prog := 3, owners := [(0, hash32 (zeros 57))] }

/-- One update of each operation passes R482. -/
theorem update_accepted (io : Io) (hk : io.keys = []) (lc op cls tgt len lct : Nat)
    (h : (lc, op, cls, tgt, len, lct) ∈ [(1, 1, 1, 0x100, 32, 0), (3, 2, 6, 63, 0, 0), (1, 3, 4, 0, 0, 0), (3, 4, 0, 0, 0, 2), (2, 5, 0, 1, 0, 0), (1, 6, 0, 0, 0, 0)]) :
    kuResult (owned lc) io (update (owned lc) op cls tgt len lct) true true = 0 := by
  have hd : ((update (owned lc) op cls tgt len lct).drop 16).take 32 = (owned lc).devHash := rfl
  have ho : hash32 (((update (owned lc) op cls tgt len lct).drop 48).take 57) = Tbl.get (owned lc).owners [] 0 := rfl
  have h0 : u8 (update (owned lc) op cls tgt len lct) 3 = 0 := rfl
  have hi : (owned lc).ident.isSome = true := rfl
  have hv : (owned lc).valid 0 = true := show (bitsN 3 0 0 == 1 && bitsN 0 0 0 == 0) = true by decide +kernel
  have hio : ∀ p, kuTargetOk io p = kuTargetOk z.io p := by
    intro p
    unfold kuTargetOk linkCnt meterCnt
    rw [hk]
    rfl
  simp only [List.mem_cons, List.not_mem_nil, or_false, Prod.mk.injEq] at h
  rcases h with h | h | h | h | h | h <;> obtain ⟨rfl, rfl, rfl, rfl, rfl, rfl⟩ := h
  all_goals
    simp only [kuResult, hio, hd, ho, h0, hi, hv, beq_self_eq_true, Bool.and_self, Bool.not_true, Bool.false_eq_true, if_false]
    decide +kernel

/-- A key of a run of registers, found. -/
theorem get_run (f : Nat → Word) (d : Word) (b k : Nat) :
    ∀ n m, k < n → Tbl.get ((List.range' m n).map fun i => (b + i * 4, f i)) d (b + (m + k) * 4) = f (m + k) := by
  intro n
  induction n generalizing k with
  | zero => intro m h; omega
  | succ n ih =>
    intro m h
    rw [List.range'_succ, List.map_cons]
    by_cases hk : k = 0
    · subst hk; simp [Tbl.get]
    · obtain ⟨j, rfl⟩ : ∃ j, k = j + 1 := ⟨k - 1, by omega⟩
      have e : m + (j + 1) = m + 1 + j := by omega
      have hne : b + (m + 1 + j) * 4 ≠ b + m * 4 := by omega
      simp only [Tbl.get, e, hne, if_false]
      exact ih j (m + 1) (by omega)

/-- Four bytes through a word. -/
theorem le_word (a b c d : Byte) : le 4 (w32 (leN [a, b, c, d] 0 4)).toNat = [a, b, c, d] := by
  have ha := a.isLt
  have hb := b.isLt
  have hc := c.isLt
  have hd := d.isLt
  simp only [le, leN, w32, byteAt, BitVec.toNat_ofNat, List.cons.injEq, and_true]
  refine ⟨?_, ?_, ?_, ?_⟩ <;> apply BitVec.eq_of_toNat_eq <;> simp <;> omega

/-- The words of a list of bytes give it back. -/
theorem le_words : ∀ (k : Nat) (p : List Byte), p.length = 4 * k → ((List.range k).flatMap fun i => le 4 (w32 (u32 p (4 * i))).toNat) = p := by
  intro k
  induction k with
  | zero => intro p h; simp at h; simp [h]
  | succ k ih =>
    intro p h
    match p, h with
    | a :: b :: c :: d :: r, h =>
      have e : ∀ i, u32 (a :: b :: c :: d :: r) (4 * (i + 1)) = u32 r (4 * i) := by
        intro i
        simp [u32, leN, byteAt, show 4 * (i + 1) = 4 * i + 4 by omega, Nat.add_assoc]
      have e0 : u32 (a :: b :: c :: d :: r) (4 * 0) = leN [a, b, c, d] 0 4 := by simp [u32, leN, byteAt]
      rw [List.range_succ_eq_map, List.flatMap_cons, e0, le_word, List.flatMap_map]
      simp only [Nat.succ_eq_add_one, e, List.cons_append, List.nil_append]
      rw [ih r (by simp at h; omega)]

/-- MBX_DATA that holds an update, and its length in MBX_ARG0. -/
def mailed (p : List Byte) (s : State) : State :=
  { s with io := { s.io with regs := (Reg.HLM.MBX_ARG 0, 394) :: (List.range' 0 99).map fun i => (Reg.HLM.MBX_DATA i, w32 (u32 (p ++ [0, 0]) (4 * i))) } }

/-- Such an update is the one that R482 judges. -/
theorem mailed_bytes (p : List Byte) (s : State) (h : p.length = 394) :
    hlmBytes (mailed p s).io (min 4096 (hlmArg (mailed p s).io 0)) = p := by
  have ha : hlmArg (mailed p s).io 0 = 394 := rfl
  have hr : ∀ i, i < 99 → (mailed p s).io.reg (Reg.HLM.MBX_DATA i) = w32 (u32 (p ++ [0, 0]) (4 * i)) := by
    intro i hi
    have e := get_run (fun i => w32 (u32 (p ++ [0, 0]) (4 * i))) (regReset (Reg.HLM.MBX_DATA i)) 0x40501000 i 99 0 hi
    rw [Nat.zero_add] at e
    show Tbl.get _ _ _ = _
    simp only [mailed, Tbl.get]
    rw [if_neg (by simp only [Reg.HLM.MBX_DATA, Reg.HLM.MBX_ARG]; omega)]
    exact e
  rw [ha]
  show (((List.range 99).flatMap fun i => le 4 ((mailed p s).io.reg (Reg.HLM.MBX_DATA i)).toNat).take 394) = p
  have e : ((List.range 99).flatMap fun i => le 4 ((mailed p s).io.reg (Reg.HLM.MBX_DATA i)).toNat)
      = (List.range 99).flatMap fun i => le 4 (w32 (u32 (p ++ [0, 0]) (4 * i))).toNat := by
    rw [List.flatMap_def, List.flatMap_def]
    exact congrArg List.flatten (List.map_congr_left fun i hi => by rw [hr i (List.mem_range.mp hi)])
  rw [e, le_words 99 _ (by simp [h])]
  simp [← h]

theorem update_length (lc op cls tgt len lct : Nat) : (update (owned lc) op cls tgt len lct).length = 394 := by
  have hz : ∀ n, (zeros n).length = n := fun n => List.length_replicate
  have hd : (owned lc).devHash.length = 32 := by show (List.map _ _).length = 32; rw [List.length_map, List.length_range]
  simp only [update, List.length_append, hz, hd, le, List.length_cons, List.length_nil]

theorem witness_KeyUpdatesFollowR482 (lc op cls tgt len lct : Nat)
    (h : (lc, op, cls, tgt, len, lct) ∈ [(1, 1, 1, 0x100, 32, 0), (3, 2, 6, 63, 0, 0), (1, 3, 4, 0, 0, 0), (3, 4, 0, 0, 0, 2), (2, 5, 0, 1, 0, 0), (1, 6, 0, 0, 0, 0)]) :
    let p := update (owned lc) op cls tgt len lct
    let s := { mailed p z with hlm := owned lc }
    s.live = true ∧ kuResult s.hlm s.io (hlmBytes s.io (min 4096 (hlmArg s.io 0))) true true = 0 := by
  refine ⟨show z.live = true by decide +kernel, ?_⟩
  show kuResult (owned lc) (mailed _ z).io (hlmBytes (mailed _ z).io (min 4096 (hlmArg (mailed _ z).io 0))) true true = 0
  rw [mailed_bytes _ z (update_length lc op cls tgt len lct)]
  exact update_accepted _ rfl lc op cls tgt len lct h

/-- An update that came as a message; tamper of each level with the part running, off, and from an image; what senses; VBAT; the RNG. -/
theorem witness_TamperDestroysTheKeys :
    let m := msg 9 0 9 4 0 1 ([1, 6] ++ zeros 392)
    let s := fun (cfg : Nat) => putR Reg.HLM.TMP_CFG (w32 cfg) (part 2 0 0)
    let t := fun (src : Nat) (s : State) => nx (exec (.tamperSensed src) s)
    let off := fun (s : State) => { s with boot := { s.boot with held := true } }
    let image := fun (s : State) => { s with boot := { s.boot with chosen := true } }
    let rng := fun (now : Nat) => (nx (exec .rngRecover (atT now { z with hlm := { z.hlm with rngBad := some 0 } }))).hlm.rngBad
    atkReject (rx 9 9 z).io true m = none ∧ kuOp m.payload = 6 ∧ (nx (exec (.kuTamperAck (.atk m) true true) (rx 9 9 z))).io.reg Reg.HLM.KU_LAST = 0x02060001 ∧
    tamperLevel (s 0).io 4 = none ∧ tamperLevel (s 0x100000).io 4 = some 0 ∧ tamperLevel (s 0x100100).io 4 = some 1 ∧
    tamperLevel (s 0x100200).io 4 = some 2 ∧ tamperLevel (s 0).io 8 = some 2 ∧ tamperLevel (s 0).io 9 = none ∧
    (t 4 (s 0x100000)).io.reg Reg.HLM.TMP_STAT = 0x01000010 ∧ (t 4 (s 0x100100)).hlm.keysLost = true ∧ (t 4 (s 0x100200)).hlm.ident = none ∧
    (t 4 (t 4 (s 0x100000))).io.reg Reg.HLM.TMP_STAT = 0x01000010 ∧ (off (s 0x100100)).live = false ∧ (t 4 (off (s 0x100100))).hlm.pend = true ∧
    (t 4 (image (s 0x100100))).io.flag Reg.SYS.RST_CAUSE RstCause.warmTamper.bit = true ∧
    (nx (exec .vbatLoss { s 0 with boot := { (s 0).boot with vbat := true } })).hlm.keysLost = true ∧
    (nx (exec (.vbatSwitchover 29999) z)).boot.vbat = true ∧ (nx (exec (.vbatSwitchover 32001) z)).boot.vbat = false ∧
    z.sepia = true ∧ rng 1000000000 = none ∧ rng 999999999 = some 0 := by
  decide +kernel

/-- A command that blows a fuse. -/
theorem witness_FusesOnlyBlow :
    ∃ t, exec (.returnPart (.core 0) true) z = .next t ∧ z.hlm.returned = false ∧ t.hlm.returned = true := by
  refine ⟨_, rfl, ?_⟩
  decide +kernel

/-! Witnesses and examples: Gauntlet. -/

/-- Chapter 12's worked example: door input 6, feedback input 9, pair 5, dispensers 20 and 22 with profile 1; pair 5 is in state `st`. -/
def door (st : PState) (low : Bool) (now : Nat) : State :=
  let disp := fun (d : Nat) (s : State) => putR (Reg.GNT.DISP_CFG d) 0x94010002 s
  let s := putR (Reg.GNT.IN_CFG 9) 0xA0000000 (putR (Reg.GNT.IN_MASK 6) 0x20 (putR (Reg.GNT.IN_CFG 6) 0x94140A14 (atT now z)))
  let t := putR (Reg.GNT.OUT_CFG 5) 0xA9000000 (putR (Reg.GNT.ENV0 1) 0x00C81400 (putR (Reg.GNT.ENV1 1) 0x00C80032 (disp 20 (disp 22 s))))
  { t with gnt := { t.gnt with
    pair := [(5, { Pair.init with st := st })], inp := if low then [(6, { Inp.init with low := true, dem := true })] else [],
    disp := [(20, { GDisp.init with last := some (now, 600000) }), (22, { GDisp.init with last := some (now, 1200000) })] } }

/-- The demand, the safe stop ended by current, the acknowledgement and the light tests: the records of Q9, and OUT_STAT. -/
theorem test_guard_door :
    let t := nx (exec (.inputDemand 6) (door .on false 50001000000))
    let late : GntSt × Io := (t.gnt, { t.io with clk := { t.io.clk with now := 50018000000 } })
    let off := stopReport 22 50018000000 50000 (stopReport 20 50018000000 0 (stopReport 22 50016000000 0 (stopReport 20 50016000000 50000 late)))
    let a := door .locked false 53100000000
    let a := putR Reg.GNT.ACK_MASK 0x20 { a with gnt := { a.gnt with winEnd := 53100000001 } }
    let b := nx (exec (.ackCmd (.core 0) 0x5AFE0001) a)
    let c := nx (exec (.pairTestsPass 5) b)
    let on : GntSt := { c.gnt with pair := [(5, { pairOf c.gnt 5 with cause := 1 })] }
    let q := fun (l : List Nat) (s : State) => l.all fun w => (qWords 9 s).contains w
    ((pairOf t.gnt 5).stop.map fun s => (s.tStop, s.ds.map StopD.i0)) = some (200, [600000, 1200000]) ∧
    q [0xC08290001060000, 0x4092B4000000000, 0x40C2800000000C8] t = true ∧
    (pairOf off.1 5).st = .locked ∧ q [0x40C2C0000000011, 0x409286000000000] { t with io := off.2 } = true ∧
    b.io.reg (Reg.GNT.ACK_REFUSE 0) = 0 ∧ q [0x40B000000000020, 0x409290000000000, 0x4092A2000000000] c = true ∧
    gntView on c.io (Reg.GNT.OUT_STAT 5) = some 0x5C010000 ∧
    (nx (exec (.ackCmd (.core 0) 0x5AFE0001) { a with gnt := { a.gnt with inp := (door .locked true 0).gnt.inp } })).io.reg (Reg.GNT.ACK_REFUSE 0) = 0x200000 := by
  decide +kernel

/-- Input `n` with configuration `cfg` acts on pair 31, which is ON. -/
def input (n cfg : Nat) (x : Inp) (now : Nat) : State :=
  let s := putR (Reg.GNT.OUT_CFG 31) 0x80000000 (putR (Reg.GNT.IN_MASK n) 0x80000000 (putR (Reg.GNT.IN_CFG n) (w32 cfg) (atT now z)))
  { s with gnt := { s.gnt with die := 0x80000000, inp := [(n, x)], pair := [(31, { Pair.init with st := .on })] } }

/-- Input 31 of each use and reaction: demands, closings, glitches, test pulses, and the discrepancy time of inputs 30 and 31. -/
theorem witness_SafetyInputsAndOutputs :
    let low : Inp := { Inp.init with low := true, dem := true }
    let run := fun (i : Instr) (s : State) => nx (exec i s)
    let st := fun (s : State) => (pairOf s.gnt 31).st
    let flt := fun (s : State) => (inpOf s.gnt 31).fault
    let gl : Inp := { Inp.init with glitch := [1, 2] }
    let two := fun (now : Nat) => input 30 0x98140A14 { low with alone := some 0 } now
    (input 31 0x80000000 low 0).live = true ∧ inEn (input 31 0x80000000 low 0).io 31 = true ∧
    (inUseOf (input 31 0x80000000 low 0).io 31, inUseOf (input 31 0xA0000000 low 0).io 31, inUseOf (input 31 0xC0000000 low 0).io 31) = (0, 1, 2) ∧
    maskPairs (input 31 0x80000000 low 0).io (Reg.GNT.IN_MASK 31) = [31] ∧
    st (run (.inputDemand 31) (input 31 0xA0000000 Inp.init 0)) = .on ∧ st (run (.inputDemand 31) (input 31 0x80000000 Inp.init 0)) = .locked ∧
    (run (.inputDemand 31) (input 31 0x80000000 Inp.init 0)).gnt.die = 0 ∧ st (run (.inputDemand 31) (input 31 0x84000000 Inp.init 0)) = .stopping ∧
    (inpOf (run (.safetyInputClosed 31) (input 31 0x80000000 low 0)).gnt 31).low = false ∧
    (inpOf (run (.inputGlitch 31) (input 31 0x80000014 { gl with glitch := [1] } 3)).gnt 31).glitch = [1, 3] ∧
    flt (run (.inputGlitch 31) (input 31 0x80000014 gl 20000000)) = 5 ∧ flt (run (.inputGlitch 31) (input 31 0x80000014 gl 20000001)) = 0 ∧
    flt (run (.testPulse 31 true []) (input 31 0x90000000 Inp.init 0)) = 2 ∧ flt (run (.testPulse 31 false []) (input 31 0x90000000 Inp.init 0)) = 0 ∧
    flt (run (.testPulse 31 false [0]) (putR (Reg.GNT.IN_CFG 0) 0x80000000 (input 31 0x90000000 Inp.init 0))) = 3 ∧
    inPair (two 0).io 31 = some 30 ∧ flt (run (.discTimeout 31) (two 20000000)) = 4 ∧ flt (run (.discTimeout 31) (two 19999999)) = 0 := by
  decide +kernel

/-- Pair 31 in each state; its tests; a coil in over-current; a weld seen when its time is over. -/
theorem witness_SafetyInputsAndOutputs_outputs :
    let s := fun (st : PState) (at_ now : Nat) =>
      let t := putR (Reg.GNT.OUT_CFG 31) 0xA9640000 (input 9 0xA0000000 { Inp.init with low := true } now)
      { t with gnt := { t.gnt with pair := [(31, { Pair.init with st := st, testAt := at_, openAt := at_ })] } }
    let st := fun (i : Instr) (s : State) => (pairOf (nx (exec i s)).gnt 31).st
    pairEn (s .on 1 9).io 31 = true ∧ st (.darkTest 31 true 7) (s .on 1 10000000001) = .on ∧ st (.darkTest 31 false 7) (s .on 1 10000000001) = .faulted ∧
    st (.lightTest 31 true 19) (s .closing 0 0) = .closing ∧ st (.lightTest 31 true 20) (s .closing 0 0) = .faulted ∧
    st (.lightTest 31 false 0) (s .locked 0 0) = .faulted ∧ st (.pairTestsPass 31) (s .closing 0 0) = .on ∧ st (.pairTestsPass 31) (s .locked 0 0) = .locked ∧
    st (.coilOvercurrent 31 9) (s .stopping 0 0) = .locked ∧ (s .locked 5 9).fb 31 = true ∧ feedback (s .locked 5 9).gnt (s .locked 5 9).io 31 = false ∧
    (pairOf (nx (exec (.weldCheck 31) (s .locked 5 100000005))).gnt 31).cause = 0xE ∧ (pairOf (nx (exec (.weldCheck 31) (s .locked 5 100000004))).gnt 31).cause = 0 := by
  decide +kernel

/-- Stale heads, safe stops and escalations, each at the instant it falls due. -/
theorem witness_StopsEscalationsAcknowledgements :
    let run := fun (i : Instr) (s : State) => nx (exec i s)
    let s := fun (f : GntSt → GntSt) (now : Nat) =>
      let t := putR (Reg.GNT.DISP_CFG 255) 0xFC000002 (input 31 0x80000000 Inp.init now)
      { t with gnt := f { t.gnt with disp := [(255, { GDisp.init with last := some (0, 0), armed := true })] } }
    let p := fun (t : State) => (pairOf t.gnt 31).st
    let stop := fun (g : GntSt) => { g with pair := [(31, { Pair.init with st := .stopping, stop := some ⟨0, 200, []⟩ })] }
    let esc := fun (l : List Nat) (react : Nat) => let t := putR Reg.GNT.SF_CFG3 (w32 react) (s id 0); { t with io := { t.io with esc := l } }
    let pair_ := putR Reg.MIR.CFG 1 (putR Reg.MIR.STAT 0x60000000 (s id 0))
    p (run (.gntHeadStale 255) (s id 8000001)) = .locked ∧ p (run (.gntHeadStale 255) (s id 8000000)) = .on ∧
    p (run (.safeStopTimeout 31) (s stop 200000000)) = .locked ∧ p (run (.safeStopTimeout 31) (s stop 199999999)) = .stopping ∧
    p (run .escalation (esc [5] 0)) = .on ∧ p (run .escalation (esc [5] 1)) = .stopping ∧ p (run .escalation (esc [5] 2)) = .locked ∧
    qWords 9 (run .escalation (esc [5] 3)) ≠ [] ∧ (run .escalation (esc [22, 1] 0)).gnt.halted = true ∧ paired (esc [22] 0).io = false ∧
    (esc [] 0).io.escOver = 0 ∧ (run .lockstepFail (s id 0)).gnt.halted = true ∧ mirState pair_.io = 3 ∧ mirState (run .lockstepFail pair_).io = 4 := by
  decide +kernel

/-- The acknowledgement's press, window and write; the safety lane and its timeout, and a halted Gauntlet. -/
theorem witness_StopsEscalationsAcknowledgements_lane :
    let run := fun (i : Instr) (s : State) => nx (exec i s)
    let s := fun (f : GntSt → GntSt) (now : Nat) => let t := putR Reg.GNT.SF_CFG3 0x100 (input 31 0x80000000 Inp.init now); { t with gnt := f t.gnt }
    let pressed := fun (g : GntSt) => { g with press := some 0 }
    let ack := fun (v : Word) (w : Nat) => run (.ackCmd (.core 3) v) (s (fun g => { g with winEnd := w, pair := [] }) 5)
    let p := fun (t : State) => (pairOf t.gnt 31).st
    (s id 0).live = true ∧ (run .safeAckPress (s id 7)).gnt.press = some 7 ∧ (run .safeAckPress (s pressed 7)).gnt.press = some 0 ∧
    (run .ackStuck (s pressed 5000000001)).gnt.stuck = true ∧ (run .ackStuck (s pressed 5000000000)).gnt.stuck = false ∧
    (run .safeAckRelease (s pressed 100000000)).gnt.winEnd = 1100000000 ∧ (run .safeAckRelease (s pressed 99999999)).gnt.winEnd = 0 ∧
    (run .safeAckRelease (s pressed 5000000000)).gnt.winEnd = 6000000000 ∧ (run .safeAckRelease (s pressed 5000000001)).gnt.winEnd = 0 ∧
    (run .ackWindowExpiry (s (fun g => { g with winEnd := 5 }) 5)).gnt.winEnd = 0 ∧ (run .ackWindowExpiry (s (fun g => { g with winEnd := 5 }) 4)).gnt.winEnd = 5 ∧
    qWords 9 (ack 0 6) = [0x40B000200000000] ∧ qWords 9 (ack 0x5AFE0001 5) = [0x40B000100000000] ∧ qWords 9 (ack 0x5AFE0001 6) = [0x40B000000000000] ∧
    (run .safetyLaneFrame (s id 0)).gnt.die = 0x80000000 ∧ (run .safetyLaneFrame (s (fun g => { g with halted := true }) 0)).gnt.lane = 0 ∧
    p (run .safetyLaneTimeout (s id 100000)) = .locked ∧ p (run .safetyLaneTimeout (s id 99999)) = .on := by
  decide +kernel

/-! Witnesses and examples: the redundant pair. -/

/-- A unit of a pair with MIR.STAT `v`, whose pair key is held. -/
def unit (v : Nat) (now : Nat) (f : MirSt → MirSt) : State :=
  let t := putR Reg.MIR.STAT (w32 v) (atT now z)
  let s := linked { t with io := { t.io with unitB := v / 2 ^ 28 % 2 == 1 } }
  { s with mir := f s.mir }

/-- Chapter 13's worked example, unit B: the final frame, the line, the heartbeat, the claim; MIR.STAT, EPOCH and Q14. -/
theorem test_takeover_of_unit_B :
    let s := putR Reg.LEASE.EPOCH 0x00010007 (unit 0x5F800000 30005100000 id)
    let a := nx (exec (.tickFrameReceive ⟨4, 1, 0, 0, 7, true, [], 0⟩ none) s)
    let b := nx (exec .heartbeatLost (atT 30006100000 (nx (exec (.partnerRoleLineChange false) a))))
    let t := nx (exec .roleClaimSample (atT 30009300000 (nx (exec .partnerReleased (atT 30009100000 b)))))
    t.io.reg Reg.MIR.STAT = 0x71800100 ∧ t.io.reg Reg.LEASE.EPOCH = 0x00010008 ∧
    (qWords 14 t).contains 0x829800001000000 = true ∧ (qWords 14 t).contains 0xC28680001000008 = true := by
  decide +kernel

/-- Unit A: given up for cause 1. -/
theorem test_unit_A_gives_up :
    (nx (exec .giveUp (putR Reg.SYS.TICK_STAT 0x20000000 (unit 0x6D800000 0 id)))).io.reg Reg.MIR.STAT = 0x8D800100 := by
  decide +kernel

/-- Start-up beside a partner that is low, released, or not yet low as units A and B; a released partner; a cold take-over; the sample. -/
theorem witness_RolesFollowR543 :
    let run := fun (i : Instr) (s : State) => nx (exec i s)
    let fresh := fun (v now : Nat) => unit v now fun _ => MirSt.init
    let st := fun (t : State) => (mirState t.io, t.mir.claim.isSome)
    let cold := fun (now : Nat) => putR Reg.MIR.CFG 3 (unit 0x20000000 now id)
    let heard := fun (now : Nat) => putR Reg.MIR.CFG 3 (unit 0x24000000 now fun m => { m with hello := some ⟨[], 0, false⟩, helloState := 1 })
    let claim := fun (v now : Nat) => st (run .roleClaimSample (unit v now fun m => { m with claim := some 0, own := true }))
    (fresh 0 0).live = true ∧ paired (fresh 0 0).io = true ∧ st (run .mirStartup (fresh 0x08000000 0)) = (1, false) ∧
    st (run .mirStartup (fresh 0 4000000)) = (0, true) ∧ st (run .mirStartup (fresh 0x04000000 0)) = (0, true) ∧
    (fresh 0x14000000 0).io.unitB = true ∧ st (run .mirStartup (fresh 0x14000000 0)) = (1, false) ∧
    st (run .partnerReleased (unit 0x40000000 4000000 id)) = (2, true) ∧ st (run .partnerReleased (unit 0x40000000 3999999 id)) = (2, false) ∧
    st (run .coldTakeover (cold 1004000000)) = (1, true) ∧ st (run .coldTakeover (cold 1003999999)) = (1, false) ∧
    st (run .coldTakeover (heard 1000000000)) = (1, true) ∧ claim 0x40000000 199999 = (2, true) ∧ claim 0x58000000 200000 = (1, false) ∧
    claim 0x40000000 200000 = (3, false) ∧ claim 0x20000000 200000 = (3, false) ∧ (unit 0 0 id).mir.claim = none := by
  decide +kernel

/-- The role given up for each kind of cause; the hold; the heartbeat, the line and the lanes. -/
theorem witness_RolesFollowR543_lines :
    let run := fun (i : Instr) (s : State) => nx (exec i s)
    let st := fun (t : State) => t.io.reg Reg.MIR.STAT
    let ready := unit 0x60000000 0 fun m => { m with pState := 2, hello := some ⟨[], 0, true⟩ }
    let hold := fun (now : Nat) => unit 0x60000000 now fun m => { m with own := true }
    (unit 0x60000000 0 id).giveUpCause = 0 ∧ (putR Reg.LEASE.STAT 0x10 (unit 0x60000000 0 id)).giveUpCause = 4 ∧
    st (run .giveUp (putR Reg.LEASE.STAT 0x10 (unit 0x60000000 0 id))) = 0x80000400 ∧
    st (run .dualActive (unit 0x78000000 1000000 id)) = 0x98000700 ∧ st (run .dualActive (unit 0x78000000 999999 id)) = 0x78000000 ∧
    st (run (.handover (.core 0)) ready) = 0x80000800 ∧ (run (.handover (.core 0)) (unit 0x60000000 0 id)).io.logs.length = 1 ∧
    st (run .roleHoldTimeout (hold 1000000)) = 0x80000000 ∧ st (run .roleHoldTimeout (hold 999999)) = 0x60000000 ∧
    st (run .heartbeatLost (unit 0x64000000 1000000 id)) = 0x60000000 ∧ st (run .heartbeatLost (unit 0x64000000 999999 id)) = 0x64000000 ∧
    st (run .mirHbInEdge (unit 0x60000000 7 id)) = 0x64000000 ∧ st (run (.partnerRoleLineChange true) (unit 0x60000000 7 id)) = 0x68000000 ∧
    st (run (.mirrorLaneChange 1 true) (unit 0x60000000 7 id)) = 0x60800000 ∧ qWords 14 (run (.mirrorLaneChange 1 true) (unit 0x60000000 7 id)) = [0x42BC00000000000] ∧
    qWords 14 (run (.mirrorLaneChange 0 false) (unit 0x61000000 7 id)) = [0xC2B000000000000] := by
  decide +kernel

/-- A mirrored state of nothing, and a frame in sequence. -/
def body0 : MirBody := ⟨z.alloc, [], 0, 9, [], [], [], [], [], 0, []⟩
def hdr : MirHdr := ⟨3, 0, 0, 5, 9, true, [], 0⟩

/-- Frames in SYNC, STANDBY and ACTIVE: in sequence, after a gap, too old, with a bad tag; HELLO that agrees and not; images. -/
theorem witness_MirrorFrames :
    let run := fun (i : Instr) (s : State) => nx (exec i s)
    let st := fun (t : State) => mirState t.io
    let seq := fun (v q r : Nat) => unit v 0 fun m => { m with rxSeq := some q, image := true, run := r, hello := some ⟨z.confMeas, 0, true⟩ }
    let tick := fun (s : State) => run (.tickFrameReceive hdr (some body0)) s
    let old := fun (now : Nat) => atT now (seq 0x40000000 4 0)
    let img : MirImage := ⟨body0, [], 77, [], [5]⟩
    pairKey (unit 0x40000000 0 id).io = true ∧ (mirFrame hdr ((unit 0x40000000 0 id).mir, (unit 0x40000000 0 id).io)).2 = true ∧
    (run (.imageReq { hdr with tagOk := false }) (unit 0x40000000 0 id)).io.reg Reg.MIR.TAG_FAIL_CNT = 1 ∧
    (tick (seq 0x40000000 4 0)).mir.rxSeq = some 5 ∧ st (tick (seq 0x40000000 3 0)) = 1 ∧ (tick (seq 0x20000000 3 0)).mir.run = 0 ∧
    st (tick (seq 0x20000000 4 7)) = 2 ∧ st (tick (seq 0x20000000 4 6)) = 1 ∧ st (tick (old 749999)) = 2 ∧ st (tick (old 750000)) = 1 ∧
    (sesOf (run (.checkpointFrame hdr 255 { Sess.init with gate := 3 }) (unit 0x40000000 0 id)).sess 255).gate = 3 ∧
    (run (.imageFrame hdr img) (unit 0x20000000 0 id)).mir.image = true ∧ (run (.imageFrame hdr img) (unit 0x20000000 0 id)).mtr.ledger = 77 ∧
    (run (.imageFrame hdr img) (unit 0x40000000 0 id)).mtr.tids = [5] ∧ Tbl.get (run (.imageReq hdr) (unit 0x60000000 0 id)).mir.seq 0 4 = 1 ∧
    (run (.helloFrame hdr ⟨[], 1, true⟩) (unit 0x60000000 0 id)).mir.helloState = 3 ∧ mVer z.alloc.model = 0 ∧
    st (run (.helloFrame hdr ⟨[], 1, true⟩) (unit 0x40000000 0 id)) = 1 ∧
    (run .helloSend (unit 0x60000000 1000000000 id)).mir.helloAt = 1000000000 ∧ (run .helloSend (unit 0x60000000 999999999 id)).mir.helloAt = 0 := by
  decide +kernel

/-! Witnesses and examples: queues, memories, error logs. -/

/-- Queue `q` is `x`. -/
def putQ (q : Nat) (x : Queue) (s : State) : State := { s with io := { s.io with queues := [(q, x)] } }

/-- A complete packet of `n` body words with its length word. -/
def pkt (prio n : Nat) : QPkt := ⟨some 0, some n, (List.range n).map fun i => qWord (i == 0) (i + 1 == n) prio i, true, 0⟩

/-- Chapter 14's worked example: what core 0 reads, the mark, the rewind, and the rewind that is refused. -/
theorem test_overtaken_mark :
    let p3 : QPkt := { pkt 0xC 1 with body := [BitVec.ofNat 64 0x9CB404B010000000] }
    let bank := ({ Queue.init with fill := [pkt 8 1, pkt 8 6, p3] } : Queue).swap
    let rd := fun (t : State × List Nat) => let u := nx (exec (.queueDrain (.core 0) 6 false) t.1); (u, t.2 ++ [u.io.bus, ((Tbl.get u.io.stage none (State.qReg 6 0x18)).getD 0).toNat])
    let times := fun (n : Nat) (s : State) => ((List.range n).foldl (fun t _ => rd t) (s, [])).1
    let s0 := putQ 6 { bank with fill := [pkt 4 2] } z
    let s1 := nx (exec (.queueMark (.core 0) 6) (times 2 s0))
    let s2 := nx (exec (.queueRewind (.core 0) 6) (times 6 s1))
    let t := nx (exec (.queueRewind (.core 0) 6) (times 9 s2))
    let q := t.io.queue 6
    let log := Tbl.get t.io.logs ErrLog.init (Block.que.logKey 0)
    (rd (rd (s0, []))).2 = [1, 0xAC010000, 0x10000000, 0x9CB404B0] ∧ (s1.io.queue 6).mark.isSome = true ∧
    (rd (s2, [])).2 = (rd (s1, [])).2 ∧ (q.stat, q.flags, t.io.flag 0x40020080 22) = (0x3000, 8, true) ∧
    (log.stat, log.recs.map fun e => (List.range 3).map e.word) = (1, [[0x10040108, 0x400202A0, 0]]) := by
  decide +kernel

/-- A queue in each condition of a write of a first, a middle and a last word. -/
theorem witness_QueueCommands_fill :
    let first := BitVec.ofNat 64 (2 ^ 61)
    let mid : Word64 := 0
    let last := BitVec.ofNat 64 (2 ^ 60)
    let writing : QPkt := ⟨none, none, [qWord true false 0 0], false, 0⟩
    let lenless : QPkt := ⟨some 5, none, [qWord true true 0 0], true, 0⟩
    let full := fun (p : QPkt) => ({ Queue.init with fill := [{ p with body := List.replicate (2048 - b2n p.slot.isSome) mid }], drain := [[mid]] } : Queue)
    let go := fun (x : Queue) (w : Word64) => (nx (exec (.queueFill (.core 3) 14 w) (putQ 14 x z))).io.queue 14
    let open_ : Queue := { Queue.init with fill := [writing] }
    let dis : Queue := { Queue.init with discard := true }
    mayWrite (.core 3) (State.qReg 14 4) = true ∧ (go Queue.init first).fillWords = 1 ∧ (go open_ first).abandon = true ∧ (go open_ mid).fillWords = 2 ∧
    (go open_ last).drainWords = 2 ∧ (go Queue.init mid).fillWords = 0 ∧ (full writing).room = 0 ∧ (go (full writing) mid).fillWords = 0 ∧
    (go (full lenless) mid).discard = true ∧ (full { writing with done := true }).fill.all QPkt.complete = true ∧
    (go (full { writing with done := true }) mid).ovrCnt = 1 ∧ (go dis mid).discard = true ∧ (go dis last).discard = false ∧ (go dis first).fillWords = 1 := by
  decide +kernel

/-- Reservation, length, expiry, the drain side, the controls; and a core that does not own its register. -/
theorem witness_QueueCommands :
    let go := fun (i : Instr) (x : Queue) => nx (exec i (putQ 14 x (atT 1000 z)))
    let q := fun (i : Instr) (x : Queue) => (go i x).io.queue 14
    let res : QPkt := ⟨some 2047, none, [qWord true true 0 0], true, 0⟩
    let has : Queue := { Queue.init with drain := [[5, 6], [7]] }
    let half : Queue := { Queue.init with cur := [6], drain := [[7]], mark := some [[5, 6], [7]] }
    let late := fun (us : Nat) => (nx (exec (.packetAbandon 14) (putR (State.qReg 14 0x28) (w32 us) (putQ 14 { Queue.init with fill := [res] } (atT 1000 z))))).io.queue 14
    mayWrite (.core 3) (State.qReg 14 0xC) = true ∧ mayRead (.core 3) (State.qReg 14 0x14) = true ∧ (go (.queueReserve (.core 3) 14) Queue.init).io.bus = 2147483648 ∧
    (go (.queueReserve (.core 3) 14) { Queue.init with fill := [{ res with body := List.replicate 2047 0 }] }).io.bus = 0 ∧
    (q (.queueLength (.core 3) 14 0x07FF0001) { Queue.init with fill := [res] }).drainWords = 2 ∧
    (q (.queueLength (.core 3) 14 0x07FF0000) { Queue.init with fill := [res] }).fillWords = 2 ∧ (late 1).abandon = true ∧ (late 2).abandon = false ∧
    (go (.queueDrain (.core 3) 14 false) half).io.bus = 6 ∧ (go (.queueDrain (.core 3) 14 false) has).io.bus = 5 ∧ (go (.queueDrain (.core 3) 14 false) Queue.init).io.bus = 0 ∧
    (q (.queueDrain (.core 3) 14 true) has).poisonCnt = 1 ∧ (q (.queueFlush (.core 3) 14) half).empty = true ∧ (q (.queueMark (.core 3) 14) has).mark = some [[5, 6], [7]] ∧
    (q (.queueMark (.core 3) 14) half).mark = half.mark ∧ (q (.queueRewind (.core 3) 14) half).drain = [[5, 6], [7]] ∧ (q (.queueRewind (.core 3) 14) has).cur = [] ∧
    mayWrite .host (State.qReg 14 0x20) = false ∧ mayWrite .host (State.qReg 14 4) = false ∧ mayWrite .host (State.qReg 14 0x10) = false ∧
    (go (.queueFlush .host 14) half).io.logs.length = 1 := by
  decide +kernel

/-- Bank registers, ports and Mitten: free banks, a split, a gang, a closed bank; both ports on one word. -/
theorem witness_ScratchpadCommands :
    let run := fun (i : Instr) (s : State) => nx (exec i s)
    let cfg := fun (b : Nat) (v : Nat) => putR (Reg.SPM.BANK_CFG b) (w32 v) z
    let free4 := putR (Reg.SPM.BANK_CFG 30) 0 (putR (Reg.SPM.BANK_CFG 29) 0 (putR (Reg.SPM.BANK_CFG 28) 0 (cfg 31 0)))
    let reg := fun (b : Nat) (s : State) => s.io.reg (Reg.SPM.BANK_CFG b)
    let mit := fun (next : Nat) => let s := putR Reg.SPM.MIT_CFG 0x80000010 z; { s with mem := { s.mem with mitNext := next } }
    inGang z.io 31 = false ∧ reg 31 (run (.bankOwnerWrite (.core 0) 31 0x140) (cfg 31 0)) = 0x80000140 ∧
    reg 31 (run (.bankHandoverDone 31) (cfg 31 0x80000140)) = 0x140 ∧ reg 31 (run (.bankHandoverDone 31) (cfg 31 0x140)) = 0x140 ∧
    reg 28 (run (.bankModeWrite (.core 0) 28 0x20000000) free4) = 0x20000000 ∧ reg 31 (run (.bankModeWrite (.core 0) 31 0x20000000) free4) = 0 ∧
    reg 31 (run (.bankModeWrite (.core 0) 31 0x10000100) (cfg 31 0x100)) = 0x100 ∧ (run (.mittenRegion none) (mit 65535)).mem.mitNext = 0 ∧
    (run (.mittenRegion none) (mit 65535)).io.reg Reg.SPM.MIT_PASS_CNT = 1 ∧ (run (.mittenRegion (some 7)) (mit 0)).io.flag 0x40030080 2 = true ∧
    (run (.mittenRegion none) (putR Reg.SPM.MIT_CFG 0 z)).mem.mitNext = 0 ∧ (atT 5 z).mem.mitAt = 0 := by
  decide +kernel

theorem witness_ScratchpadCommands_ports :
    let a := fun (w : Bool) (addr size ecc : Nat) => (⟨0, .core 0, w, addr, size, 0x1122334455667788, ecc⟩ : SpAcc)
    let b := fun (addr : Nat) => (⟨3, .core 0, true, addr, 2, 0xAABB, 0⟩ : SpAcc)
    let s := putR (Reg.SPM.BANK_CFG 31) 0x340 z
    let m := fun (t : State) => t.mem.spm
    let run := fun (x : Option SpAcc) (y : Option SpAcc) => nx (exec (.scratchpadAccess x y) s)
    (spmOk s.io (a true 0xFFFFF8 8 0), spmOk s.io (b 0xFFFFFE), spmOk (putR (Reg.SPM.BANK_CFG 31) 0 z).io (a true 0xFFFFF8 8 0)) = (true, true, false) ∧
    m (run (some (a true 0xFFFFF9 2 0)) none) = [(0xFFFFF9, 0x88), (0xFFFFFA, 0x77)] ∧ (run (some (a false 0xFFFFF8 8 0)) none).io.bus = 0 ∧
    m (nx (exec (.scratchpadAccess (some (a true 0xFFFFF8 8 0)) none) (putR (Reg.SPM.BANK_CFG 31) 0 z))) = [] ∧ m (run (some (a true 0xFFFFF8 4 2)) none) = [] ∧
    m (run (some (a true 0xFFFFFF 1 0)) (some (b 0xFFFFFE))) = [(0xFFFFFE, 0xBB), (0xFFFFFF, 0x88)] ∧
    (run (some (a true 0xFFFFFF 1 0)) (some (b 0xFFFFFE))).io.reg Reg.SPM.CONFLICT_CNT = 1 ∧
    (run (some (a true 0xFFFFFD 1 0)) (some (b 0xFFFFFE))).io.reg Reg.SPM.CONFLICT_CNT = 0 ∧
    (run (some (a false 0xFFFFFE 2 0)) (some (b 0xFFFFFE))).io.bus = 0xAABB := by
  decide +kernel

/-- A log that holds seven and eight records, its classes open and closed; DRAM at its ends; the scrubber. -/
theorem witness_DramAndErrorLogs :
    let e := fun (c : Nat) => (⟨c, 0, 0, 0, 0, 0, 0⟩ : ErrRec)
    let l := fun (n : Nat) => { ErrLog.init with recs := List.replicate n (e 1), openCls := 4 }
    let run := fun (i : Instr) (s : State) => nx (exec i s)
    let logged : State := { z with io := { z.io with logs := [(Block.que.logKey 0, l 8)] } }
    let log := fun (t : State) => Tbl.get t.io.logs ErrLog.init (Block.que.logKey 0)
    let bad := { z with mem := { z.mem with dramBad := dramWords 0x7FFFFFF8 8 } }
    let rd := fun (w : Who) (ecc : Nat) (s : State) => run (.dramAccess w false 0x7FFFFFF8 8 0 ecc) s
    let scr := putR Reg.DRC.SCRUB_CFG 0x80000000 { z with mem := { z.mem with scrubNext := 0x1FFFFFF } }
    escalating 3 = true ∧ escalating 1 = false ∧ (l 7).isOpen 3 = true ∧ (l 7).isOpen 4 = false ∧ ((l 7).record (e 3)).2 = true ∧
    ((l 8).record (e 1)).1.ovf = true ∧ ((l 7).record (e 2)).1.recs.length = 8 ∧ (({ l 7 with recs := [e 2] } : ErrLog).record (e 2)).1.recs.length = 1 ∧
    blockAt 0x400200A4 = some (.que, 0, 0xA4) ∧ (log (run (.errPop (.core 0) 0x400200A4 1) logged)).recs.length = 7 ∧
    (log (run (.errAck (.core 0) 0x400200A8 4) logged)).openCls = 0 ∧ (rd (.core 0) 0 z).io.bus = 0 ∧
    (run (.dramAccess (.core 0) true 0x7FFFFFFF 1 9 0) z).mem.dram = [(0x7FFFFFFF, 9)] ∧ (run (.dramAccess (.core 0) true 0x67FFFFFF 1 9 0) z).mem.dram = [] ∧
    (rd .host 0 z).io.logs.length = 1 ∧ (rd (.core 0) 0 bad).io.evts.length = 1 ∧ (rd .dma 2 z).io.reg Reg.DRC.UE_CNT = 1 ∧
    (run (.dramScrub 2 7) scr).mem.dramBad = [0xFFFFFFF] ∧ (run (.dramScrub 2 7) scr).mem.scrubNext = 0 ∧ (run (.dramScrub 2 7) (putR Reg.DRC.SCRUB_CFG 0 z)).mem.dramBad = [] := by
  decide +kernel

/-! Witnesses and examples: load switches and regulators. -/

/-- Channel `n` is `x` and takes its default, 100 %, while the General is away. -/
def sw (n : Nat) (x : Chan) (now : Nat) : State :=
  let s := putR (Reg.LSW.CH_DEF n) 10000 (atT now z)
  { s with pow := { s.pow with chan := [(n, x)], loaded := true, down := true } }

/-- A channel that is ON since time 0. -/
def onCh : Chan := { Chan.init with st := .on, duty := 10000, out := .steady, retry := 6 }

/-- Chapter 15's worked example, channel 5: the seventh trip, and the refused clear of TH_LATCH at 161 °C. -/
theorem test_seized_pump :
    let io := (putR (Reg.LSW.CH_CFG 5) 0x190732C0 (putR (Reg.LSW.CH_PWM 5) 0x00283500 (putR (Reg.LSW.CH_TRIP_CNT 5) 6 (sw 5 onCh 12630000000)))).io
    let p := (sw 5 onCh 0).pow
    let r := overcurrent 5 ⟨0, 0, 0, 9500⟩ p io
    let c := latchWrite (.core 0) 5 0x20000000 (p.putChan 5 { onCh with st := .latched, th := true, tj := 16100 }) io
    let log := Tbl.get c.2.logs ErrLog.init (Block.lsw.logKey 0)
    (chanOf r.1 5).statWord = 0xD0700000 ∧ r.2.reg (Reg.LSW.CH_TRIP_CNT 5) = 7 ∧ chanMap r.1 Chan.held = 0x20 ∧ r.2.reg Reg.LSW.EVT_STAT = 3 ∧
    (log.recs.map fun e => (List.range 2).map e.word) = [[0x10040100, 0x40800254]] := by
  decide +kernel

/-- The worked example of AUX: phase 2 lost while VREF rises, VREF turned at 25 400 mV, and its end. -/
theorem test_phase_lost_while_slewing :
    let x : Rail := { Rail.init with st := .slewing, v0 := 24000000000, t0 := 100000000000, rate := 10, target := 26000000000 }
    let at_ := fun (ms : Nat) (p : PowSt) (io : Io) => ({ z with pow := p, io := { io with clk := { io.clk with now := ms * 1000000 } } } : State)
    let s := putR Reg.COT.AUX_CTL 0x80000000 z
    let a := at_ 100080 (s.pow.putRail 0 x) s.io
    let b := phaseDrop 0 [⟨2, 75000, 31700, 8, false⟩] a.pow a.io
    let c := at_ 100140 b.1 b.2.1
    let d := vsetWrite (.core 0) 0 25000 c.pow c.io
    let e := at_ 100180 d.1 d.2
    let f := slewDone 0 e.pow e.io
    (railOf a.pow 0).vref a.io.now = 24800000000 ∧ (railOf c.pow 0).vref c.io.now = 25400000000 ∧
    cotView f.1 f.2 0x40810114 = some 0x43B10000 ∧ cotView f.1 f.2 0x40810118 = some 0x20 ∧ cotView f.1 f.2 0x4081011C = some 0x61A8 ∧
    f.2.reg Reg.COT.EVT_STAT = 3 := by
  decide +kernel

/-- Channel 23 in each state with and without a duty; with PWM before and at its period start; the hold and the link. -/
theorem witness_ChannelsFollowTheirDuty :
    let st := fun (t : State) => (chanOf t.pow 23).st
    let off := { onCh with st := .off }
    let all := fun (s : State) => putR Reg.LSW.CTRL 1 s
    let none_ := fun (s : State) => putR (Reg.LSW.CH_DEF 23) 0 s
    let hold := fun (x : Chan) => sw 23 { x with hold := true } 0
    let pwm := fun (x : Chan) (now : Nat) => putR (Reg.LSW.CH_PWM 23) 0x0064FF00 (sw 23 x now)
    let start := fun (s : State) => nx (exec (.pwmPeriodStart 23) s)
    lswDuty z.acting z.pow z.io 23 = 0 ∧ lswDuty true (hold onCh).pow (hold onCh).io 23 = 10000 ∧ lswOwner true (sw 23 onCh 0).pow (sw 23 onCh 0).io 23 = 3 ∧
    st (sw 23 off 0).settle = .on ∧ st (sw 23 { off with oc := true } 0).settle = .off ∧ st (all (sw 23 onCh 0)).settle = .off ∧ st (none_ (sw 23 onCh 0)).settle = .off ∧
    st (sw 23 onCh 0).settle = .on ∧ st (sw 23 { onCh with st := .retryWait } 0).settle = .retryWait ∧ st (all (pwm onCh 0)).settle = .off ∧
    lswPeriod (pwm onCh 0).io 23 = 100 ∧ st (start (pwm off 99609)) = .on ∧ (chanOf (start (pwm onCh 99610)).pow 23).out = .pulse 25500000 100000 ∧
    (chanOf (start (pwm { onCh with period := 2 } 99610)).pow 23).period = 2 ∧ (chanOf (start (pwm onCh 99609)).pow 23).period = 1 := by
  decide +kernel

theorem witness_ChannelsFollowTheirDuty_writes :
    let s := sw 23 onCh 0
    let owned := let t := putR (Reg.LSW.CH_DUTY 23) 0 (putR (Reg.CTLE.SINK 0) 0x30000017 (putR (Reg.CTLE.CTL 0) 0x80000000 s)); { t with pow := { t.pow with down := false } }
    let duty := fun (v : Word) => (nx (exec (.dutyWrite (.core 0) 23 v) s))
    let hold := fun (now : Nat) => let t := putR Reg.LSW.HOLD 5 (sw 23 { onCh with hold := true } now); { t with pow := { t.pow with held := some 0 } }
    let up := { s with pow := { s.pow with down := false, loaded := false } }
    s.live = true ∧ (duty 10000).io.reg (Reg.LSW.CH_DUTY 23) = 10000 ∧ (duty 10001).io.logs.length = 1 ∧
    lswEngine owned.io 23 = 1 ∧ lswOwner true owned.pow owned.io 23 = 1 ∧ lswOwner false owned.pow owned.io 23 = 3 ∧
    (nx (exec (.allOff (.core 0) 1) s)).io.reg Reg.LSW.CTRL = 1 ∧ (nx (exec .holdEnd (hold 5000000))).pow.held = none ∧
    (nx (exec .holdEnd (hold 4999999))).pow.held = some 0 ∧ (nx (exec .generalLinkLoss up)).pow.held = some 0 ∧
    (nx (exec .generalLinkLoss s)).pow.held = none ∧ (nx (exec .generalLinkReturn { s with pow := { s.pow with loaded := false } })).pow.down = false ∧
    (nx (exec .generalLinkReturn up)).pow.down = false := by
  decide +kernel

/-- A channel's trips, samples, pauses, latches and the conditions that switch nothing, each at its limit. -/
theorem witness_ChannelProtection :
    let run := fun (i : Instr) (x : Chan) (now : Nat) => chanOf (nx (exec i (putR (Reg.LSW.CH_CFG 23) 0x190701C0 (putR (Reg.LSW.CH_LIM2 23) 0x01000000 (sw 23 x now))))).pow 23
    let m := fun (avg : Nat) (tj : Int) => (⟨avg, 0, 0, tj⟩ : ChMeas)
    let inr := { onCh with inrush := true }
    let wait := { onCh with st := .retryWait, pauseEnd := 5 }
    let lat := { onCh with st := .latched, th := true, tj := 15000 }
    let oc := { onCh with st := .latched, oc := true }
    (run (.lswOvercurrent 23 (m 0 17000)) onCh 1000000).th = true ∧ (run (.lswOvercurrent 23 (m 0 16999)) onCh 1000000).oc = true ∧
    (run (.lswOvercurrent 23 (m 0 0)) { onCh with retry := 0 } 1000000).pauseEnd = 11000000 ∧ (run (.lswOvercurrent 23 (m 0 0)) onCh 999999).st = .on ∧
    (run (.inrushEnd 23 false (m 0 0)) inr 1000000).inrush = false ∧ (run (.inrushEnd 23 true (m 0 0)) inr 1000000).oc = true ∧
    (run (.inrushEnd 23 true (m 0 0)) inr 999999).inrush = true ∧ (run (.retryPauseEnd 23) wait 5).st = .on ∧ (run (.retryPauseEnd 23) wait 4).st = .retryWait ∧
    (run (.retryPauseEnd 23) { wait with oc := true } 5).st = .off ∧ (run (.retryCountReset 23) onCh 1000000000).retry = 0 ∧ (run (.retryCountReset 23) onCh 999999999).retry = 6 ∧
    (run (.lswOvertemp 23 (m 0 17000)) onCh 0).th = true ∧ (run (.thWarn 23 (m 0 15000)) onCh 0).warn = true ∧ (run (.thWarn 23 (m 0 14000)) { onCh with warn := true } 0).warn = false ∧
    (run (.ocLatchClear (.core 0) 23) oc 0).st = .on ∧ (run (.thLatchClear (.core 0) 23) lat 0).st = .on ∧ (run (.thLatchClear (.core 0) 23) { lat with tj := 15001 } 0).th = true := by
  decide +kernel

theorem witness_ChannelProtection_loads :
    let run := fun (i : Instr) (x : Chan) (now : Nat) => chanOf (nx (exec i (putR (Reg.LSW.CH_CFG 23) 0x190701C0 (putR (Reg.LSW.CH_LIM2 23) 0x01000000 (putR Reg.LSW.CTRL 1 (sw 23 x now)))))).pow 23
    let uc := fun (avg : Nat) (now : Nat) => underCurrent 23 0 ⟨avg, 0, 0, 0⟩ (sw 23 onCh 0).pow (putR (Reg.LSW.CH_CFG 23) 0x190701C0 (putR (Reg.LSW.CH_LIM2 23) 0x01000000 (sw 23 onCh now))).io
    let off := { onCh with st := .off }
    (run (.openLoad 23 true 5000000 ⟨0, 0, 0, 0⟩) off 15000000).openLoad = true ∧ (run (.openLoad 23 true 5000000 ⟨0, 0, 0, 0⟩) off 14999999).openLoad = false ∧
    (chanOf (uc 255 100000000).1 23).underCur = true ∧ (chanOf (uc 256 100000000).1 23).underCur = false ∧ (chanOf (uc 255 99999999).1 23).underCur = false := by
  decide +kernel

/-- AUX (0) and CORE (1) in each state: commands, the ends of ramps, phases, currents, faults, telemetry. -/
theorem witness_RegulatorsFollowTheirCommands :
    let s := fun (en : Bool) (x : Rail) => let t := putR Reg.COT.AUX_CTL (if en then 0xC0000000 else 0x40000000) z; { t with pow := t.pow.putRail 0 x }
    let reg : Rail := { Rail.init with st := .regulating, v0 := 24000000000, target := 24000000000 }
    let run := fun (i : Instr) (s : State) => nx (exec i s)
    let r := fun (i : Instr) (s : State) => railOf (run i s).pow 0
    let st := fun (t : RgSt) => { reg with st := t }
    (r (.regEnable (.core 0) 0 0x80000000 12000) (s false Rail.init)).st = .softStart ∧ (r (.regEnable (.core 0) 0 0x80000000 12000) (s false (st .softStop))).st = .softStart ∧
    (r (.regEnable (.core 0) 0 0x80000000 12000) (s true reg)).vout = 12000 ∧ (r (.regDisable (.core 0) 0 0x40000000) (s true reg)).st = .softStop ∧
    (s true reg).io.flag (rg 0 0) 31 = true ∧ (run (.regDisable (.core 0) 1 0) z).io.logs.length = 1 ∧
    vsetOk 0 11999 = false ∧ vsetOk 0 28000 = true ∧ vsetOk 1 780 = true ∧ vsetOk 1 781 = false ∧ (r (.vsetWrite (.core 0) 0 28000) (s true reg)).st = .slewing ∧
    (r (.vsetWrite (.core 0) 0 28000) (s true (st .softStart))).target = 28000000000 ∧ (run (.vsetWrite (.core 0) 0 28001) (s true reg)).io.logs.length = 1 ∧
    (r (.softStartDone 0) (s true (st .softStart))).st = .regulating ∧ (r (.slewDone 0) (s true (st .slewing))).st = .regulating ∧
    (r (.softStopDone 0) (s false { Rail.init with st := .softStop })).st = .off ∧ (r (.slewDone 0) (s true { st .slewing with target := 1 })).st = .slewing := by
  decide +kernel

theorem witness_RegulatorsFollowTheirCommands_phases :
    let reg : Rail := { Rail.init with st := .regulating, v0 := 24000000000, target := 24000000000 }
    let s := fun (x : Rail) (now : Nat) => let t := putR Reg.COT.AUX_CTL 0xC0000000 (atT now z); { t with pow := t.pow.putRail 0 x }
    let run := fun (i : Instr) (x : Rail) => nx (exec i (s x 0))
    let r := fun (i : Instr) (x : Rail) => railOf (run i x).pow 0
    let o := fun (imon mean : Int) (cycles : Nat) (flt : Bool) => (⟨2, imon, mean, cycles, flt⟩ : PhaseObs)
    let one := { reg with dropped := (List.range 5).map fun k => (k, PhCause.stage) }
    let tel := fun (win : Nat) => nx (exec (.telemetryWindow 0 ⟨24000, 190000, 4560, 50, 48000, 24100, 191000, 4600, 51, [31700]⟩) (s { reg with win := win } 0))
    dropCause z.io 0 (o 60001 60000 8 false) = some .sense ∧ dropCause z.io 0 (o 60001 60000 7 false) = none ∧ dropCause z.io 0 (o 60000 60000 8 false) = none ∧
    dropCause z.io 0 (o (-10001) 60000 8 false) = some .sense ∧ dropCause z.io 0 (o 499 5000 64 false) = some .openPh ∧ dropCause z.io 0 (o 500 5000 64 false) = none ∧
    phasesOn (s reg 0).io 0 reg = [0, 1, 2, 3, 4, 5] ∧ (r (.phaseDrop 0 [o 0 0 0 true]) reg).dropped = [(2, .stage)] ∧ (r (.phaseDrop 0 [o 0 0 0 false]) reg).dropped = [] ∧
    phasesLeft (s one 0).io 0 { one with dropped := one.dropped ++ [(5, .stage)] } = [] ∧ (r (.currentLimit 0 16 0) reg).cl = true ∧
    (r (.currentLimit 0 15 1000000) { reg with cl := true }).cl = false ∧ (r (.currentLimit 0 15 999999) { reg with cl := true }).cl = true ∧
    phasesOn z.io 0 Rail.init = [] ∧ (run (.regOtWarn 0 12500) reg).io.flag 0x40810080 5 = true ∧ (run (.regOtWarn 0 12499) reg).io.flag 0x40810080 5 = false ∧
    (tel 0).io.reg 0x40810120 = 24000 ∧ (tel 0).io.reg 0x40810134 = 4600 ∧ (tel 1).io.reg 0x40810120 = 0 := by
  decide +kernel

/-- CORE regulates at reset, and its faults fall on each side of their limits. -/
theorem witness_RegulatorsFollowTheirCommands_faults :
    let x := railOf z.pow 1
    let lim := z.io.reg (rg 1 0x10)
    let ok := fun (c : RegCond) => (regFault 1 c z.pow z.io).2.2
    x.st = .regulating ∧ x.vref 0 = 750000000 ∧ (bits lim 23 16, bits lim 15 8, bits lim 7 0) = (10, 10, 10) ∧
    ok (.ovr 825 2000) = false ∧ ok (.ovr 826 1999) = false ∧ ok (.under 675 10000000) = false ∧ ok (.under 674 9999999) = false ∧ ok (.temp 14999) = false ∧
    ok .phases = false ∧ ok (.vin 0 1000000) = false ∧ 750000000 * 110 < 826 * 100000000 ∧ 674 * 100000000 < 750000000 * 90 := by
  decide +kernel

/-! Witnesses and examples: boot, clocks, domains. -/

/-- Each kind of reset and each domain; the commands that reset, at the instant they are due. -/
theorem witness_ResetsKeepAndClear :
    let s := { z with mem := { z.mem with spm := [(5, 6)] } }
    let dom := fun (a : Nat) => (regDesc a).map RegDesc.dom
    let cause := fun (i : Instr) (s : State) => (nx (exec i s)).io.reg Reg.SYS.RST_CAUSE
    let dog := fun (now : Nat) => putR Reg.SYS.WDT_CTL 0x80000002 (putR Reg.SYS.RST_CAUSE 0 (atT now z))
    let held := { z with boot := { z.boot with held := true } }
    (dom Reg.AON.BOOT_SEQ, dom Reg.LSW.HOLD, dom Reg.MTR.MBX_RET) = (some .ao, some .po, some .wr) ∧ blockAt Reg.MTR.MBX_RET = some (.mtr, 0, 0x118) ∧
    (State.doReset .warm .warmSw s).mem.spm = [(5, 6)] ∧ (State.doReset .por .porSw s).mem.spm = [] ∧ (State.doReset .wake .quietWake s).mem.spm = [] ∧
    z.live = true ∧ z.sepia = true ∧ cause (.swPowerOnReset .sepia) (putR Reg.SYS.RST_CAUSE 0 z) = w32 (2 ^ RstCause.porSw.bit) ∧
    cause (.warmReset .imageRej) (putR Reg.SYS.RST_CAUSE 0 z) = w32 (2 ^ RstCause.imageRej.bit) ∧ cause (.warmReset .quietWake) (putR Reg.SYS.RST_CAUSE 0 z) = 0 ∧
    cause .wdtExpiry (dog 2000000) = w32 (2 ^ RstCause.warmWdt.bit) ∧ cause .wdtExpiry (dog 1999999) = 0 ∧
    (nx (exec .pllLockLoss z)).live = false ∧ held.boot.held = true := by
  decide +kernel

/-- Supplies at their limits, the PLLs, the watchdog, and the quiet state entered, refused and left by each source. -/
theorem witness_SuppliesWatchdogQuietState :
    let good : Rails := ⟨48000, 750, 1800, 1800, 3300, 1050, 500, 0⟩
    let boot := fun (f : BootSt → BootSt) => { z with boot := f z.boot }
    let sup := fun (v : Rails) (f : BootSt → BootSt) => (nx (exec (.supplySupervisorReset v) (boot f))).boot
    let dog := fun (now : Nat) => putR Reg.SYS.WDT_CTL 0x80000002 (atT now z)
    let leased := { z with lease := { z.lease with chain := [(0, { Chain.init with hist := [⟨0, 1, 0, 0, 0⟩] })] } }
    let q := putR Reg.AON.WAKE_LO 0 (putR Reg.AON.WAKE_HI 0 (boot fun b => { b with quiet := true }))
    let src := fun (i : Instr) (s : State) => ((nx (exec i s)).io.fld Reg.AON.WAKE_SRC 1 0, (nx (exec i s)).boot.quiet)
    (sup { good with vhv := 32999 } id).super = true ∧ (sup { good with vhv := 33000 } id).super = false ∧
    (sup { good with vhv := 39000 } fun b => { b with super := true, low := [0] }).low = [0] ∧ (sup { good with vhv := 39001 } fun b => { b with super := true, low := [0] }).low = [] ∧
    (sup good fun b => { b with super := true, clearAt := 0, rtc := 10000000 }).super = false ∧ (sup good fun b => { b with super := true, clearAt := 0, rtc := 9999999 }).super = true ∧
    (nx (exec .pllLock (boot fun b => { b with held := true }))).live = true ∧ (nx (exec .pllLock (boot fun b => { b with held := true, super := true }))).live = false ∧
    (nx (exec (.wdtKick (.core 3) 0x5A5AA5A5) (dog 7))).boot.kick = 7 ∧ (nx (exec (.wdtKick (.core 3) 0) (dog 7))).io.logs.length = 1 ∧
    (nx (exec .wdtWarn (dog 1000000))).boot.warned = true ∧ (nx (exec .wdtWarn (dog 999999))).boot.warned = false ∧
    (liveNum z.lease z.now, sessNum z.sess, liveNum leased.lease leased.now) = (0, 0, 1) ∧ (nx (exec (.quietEnter (.core 0)) z)).io.reg Reg.SYS.PD_STAT = 0x205 ∧
    (nx (exec (.quietEnter (.core 0)) leased)).boot.quiet = false ∧ q.hlm.pend = false ∧ src .quietWakeRtc q = (1, false) ∧
    src .quietWakeRtc (putR Reg.AON.WAKE_LO 1 q) = (0, true) ∧ src (.quietWakePin 1000000) q = (2, false) ∧ src (.quietWakePin 999999) q = (0, true) ∧
    src (.quietWakeNow .sepia) q = (3, false) := by
  decide +kernel

/-- The first `len` bytes of an image of a header, a directory and the section TRUSTED, at 1 MiB. -/
def testFlash (seq tries len : Nat) : State :=
  let head := le 4 0x4E425947 ++ le 2 1 ++ le 2 7 ++ le 4 seq ++ le 4 320 ++ le 8 77 ++ zeros 8
  let ones := fun (n : Nat) => List.replicate n (0xFF : Byte)
  let dir := le 2 1 ++ le 2 0 ++ le 4 88 ++ ((List.range 6).flatMap fun _ => ones 2 ++ zeros 3 ++ ones 3)
  let sect := le 2 1 ++ le 2 0 ++ zeros 2 ++ le 2 0 ++ le 4 16 ++ le 4 1 ++ le 8 77 ++ ones 65 ++ zeros 7 ++ zeros 8 ++ ones 122 ++ zeros 6
  let s := if tries = 0 then z else putR Reg.AON.BOOT_SEQ (w32 seq) (putR Reg.AON.BOOT_TRY (w32 tries) z)
  { s with hlm := { s.hlm with prog := 1, owners := [(0, hash32 (ones 57))], wipeDone := true },
           mem := { s.mem with flash := (((head ++ dir ++ sect).take len).zipIdx.map fun e => (0x100000 + e.2, e.1)).filter fun e => e.2 != 0xFF } }

/-- An image that is chosen, tried a fourth time, refused for its signature, absent, found while XSPI_EXT_N is low; a chosen image that is
refused; the time of the next scan. -/
theorem witness_OnlyCheckedImagesStart :
    let s := testFlash 9 0 320
    let boot := fun (f : BootSt → BootSt) => { z with boot := f z.boot }
    let phase := fun (t : State) => t.io.fld Reg.SYS.BOOT_STAT 31 28
    let low := { s with mem := { s.mem with extN := true } }
    let x := sectAt s.mem.flash 0x100000 320 (1, 88)
    let e := { z with boot := { z.boot with chosen := true }, mem := { z.mem with flash := [(6, 0), (7, 0)] } }
    let later := fun (r : Nat) => boot fun b => { b with rescan := some 5, rtc := r }
    s.live = true ∧ (s.boot.chosen, s.boot.rescan, phase s, s.hlm.wipeDone, s.hlm.pend, s.mem.extN) = (false, none, 0, true, false, false) ∧
    trialOrder (candidates s.mem.flash s.bootBad) = [(0x100000, 9)] ∧ s.imageLen 0x100000 = 320 ∧
    (directory s.mem.flash 0x100000).map (fun d => d.find? fun e => e.1 == 1) = some (some (1, 88)) ∧
    (x.layout 320, x.id, s.imageId 0x100000, x.owner, x.svn, s.hlm.svnT, x.body.length) = (none, 77, 77, 0, 0, 0, 16) ∧
    x.pub = List.replicate 57 0xFF ∧ s.hlm.owners = [(0, hash32 (List.replicate 57 0xFF))] ∧
    directory (testFlash 9 0 32).mem.flash 0x100000 = none ∧
    candidates z.mem.flash z.bootBad = [] ∧ (nx (exec (.bootRom true) z)).boot.rescan = some 10000000000 ∧
    (low.live, (nx (exec (.bootRom true) low)).boot.chosen) = (true, false) ∧ (nx (exec (.bootRom true) (boot fun b => { b with chosen := true }))).io = z.io ∧
    (nx (exec (.bootRom true) (testFlash 9 3 32))).boot.rescan = some 10000000000 ∧ (testFlash 9 3 32).io.fld Reg.AON.BOOT_TRY 1 0 = 3 ∧
    e.live = true ∧ (State.loadImage ⟨[], 0⟩ 0 e.boot.len (e.imageSeq 0) e).2 = some ⟨1, none, none⟩ ∧ w32 (e.imageSeq 0) ≠ 0 ∧
    (nx (exec .bootRescan (later 5))).boot.rescan = none ∧ (nx (exec .bootRescan (later 4))).boot.rescan = some 5 := by
  refine ⟨?_, ?_, ?_, ?_, ?_, ?_, ?_, rfl, ?_⟩ <;> decide +kernel

/-- Each operation begins, waits for the one that runs, spares the image that runs, and ends. -/
theorem witness_FlashCommands :
    let begin := fun (i : Instr) (s : State) => (nx (exec i s)).mem.flOp.map fun o => o.op
    let code := fun (i : Instr) (s : State) => ((nx (exec i s)).io.logs.flatMap fun e => e.2.recs.map ErrRec.code)
    let running := { z with boot := { z.boot with base := 0, len := 1 } }
    let op := fun (o : Nat) => { z with mem := { z.mem with flOp := some ⟨o, 0⟩, flash := [(0, 0x0F), (5000, 1)] } }
    let off := { op 1 with mem := { (op 1).mem with extN := true } }
    let fin := fun (o : Nat) (err : Bool) => (nx (exec (.flashDone err) (op o)))
    z.live = true ∧ running.live = true ∧
    (begin (.flashRead (.core 0)) z, begin (.flashProgram (.core 0)) z, begin (.flashErase4k (.core 0)) z, begin (.flashErase64k (.core 0)) z) =
      (some 1, some 2, some 3, some 4) ∧
    (code (.flashRead (.core 0)) (op 1), code (.flashProgram (.core 0)) running, code (.flashErase4k (.core 0)) running,
      code (.flashErase64k (.core 0)) running) = ([4], [4], [4], [4]) ∧
    begin (.flashRead (.core 0)) running = some 1 ∧
    (nx (exec (.flashDone false) z)).mem.flOp = none ∧
    (fin 1 false).mem.flOp = none ∧ (fin 2 false).io.flag Reg.CFG.FL_STAT 31 = false ∧ (fin 3 false).mem.flash = [(5000, 1)] ∧ (fin 4 false).mem.flash = [] ∧
    (fin 1 true).io.flag Reg.CFG.FL_STAT 30 = true ∧ (fin 3 true).mem.flOp = none ∧ (nx (exec (.flashDone false) off)).io.flag Reg.CFG.FL_STAT 30 = true := by
  decide +kernel

/-! A whole image that starts. Its SITE_MODEL is 160 KiB, most of them zeros: what is read from those is shown by lemmas. -/

/-- `n` zero bytes from address `a` up. -/
def zrun (a : Nat) : Nat → Tbl Byte
  | 0 => []
  | n + 1 => (a, 0) :: zrun (a + 1) n

/-- Bytes from address `a` up. -/
def byteRun (a : Nat) : List Byte → Tbl Byte
  | [] => []
  | b :: r => (a, b) :: byteRun (a + 1) r

theorem get_zrun (d : Byte) : ∀ {n a k : Nat}, a ≤ k → k < a + n → Tbl.get (zrun a n) d k = 0
  | 0, _, _, h1, h2 => absurd h2 (by omega)
  | n + 1, a, k, h1, h2 => by
    unfold zrun Tbl.get
    split
    · rfl
    · exact get_zrun d (by omega) (by omega)

theorem get_byteRun (d : Byte) (t : Tbl Byte) : ∀ {l : List Byte} {a i : Nat} (h : i < l.length), Tbl.get (byteRun a l ++ t) d (a + i) = l[i]
  | [], _, _, h => absurd h (Nat.not_lt_zero _)
  | b :: r, a, 0, _ => by rw [byteRun, List.cons_append, Tbl.get, if_pos (by omega)]; rfl
  | b :: r, a, i + 1, h => by
    rw [byteRun, List.cons_append, Tbl.get, if_neg (by omega), show a + (i + 1) = a + 1 + i by omega, get_byteRun d t (l := r) (by simpa using h)]
    rfl

/-- A read within a run of bytes. -/
theorem memRead_byteRun (d : Byte) (t : Tbl Byte) (l : List Byte) : ∀ {n i : Nat}, i + n ≤ l.length → memRead (byteRun 0 l ++ t) d i n = (l.drop i).take n
  | 0, _, _ => rfl
  | n + 1, i, h => by
    have hi : i < l.length := by omega
    have hg := get_byteRun d t (a := 0) hi
    rw [Nat.zero_add] at hg
    rw [memRead, hg, memRead_byteRun d t l (by omega), List.drop_eq_getElem_cons hi, List.take_succ_cons]

theorem get_byteRun_append (d : Byte) (t : Tbl Byte) : ∀ {l : List Byte} {a k : Nat}, a + l.length ≤ k → Tbl.get (byteRun a l ++ t) d k = Tbl.get t d k
  | [], _, _, _ => rfl
  | b :: r, a, k, h => by
    simp only [List.length_cons] at h
    rw [byteRun, List.cons_append, Tbl.get, if_neg (by omega)]
    exact get_byteRun_append d t (by omega)

theorem memRead_add (m : Tbl Byte) (d : Byte) : ∀ (x a y : Nat), memRead m d a (x + y) = memRead m d a x ++ memRead m d (a + x) y
  | 0, a, y => by simp [memRead]
  | x + 1, a, y => by
    have h : x + 1 + y = x + y + 1 := by omega
    have h' : a + (x + 1) = a + 1 + x := by omega
    rw [h, h']
    simp only [memRead, List.cons_append, memRead_add m d x (a + 1) y]

theorem memRead_zeros (m : Tbl Byte) (d : Byte) : ∀ {n a : Nat}, (∀ k, a ≤ k → k < a + n → Tbl.get m d k = 0) → memRead m d a n = zeros n
  | 0, _, _ => rfl
  | n + 1, a, h => by
    rw [memRead, h a (Nat.le_refl a) (by omega), memRead_zeros m d fun k h1 h2 => h k (by omega) (by omega)]
    rfl

theorem memWrite_zeros : ∀ {n k : Nat} {t : Tbl Byte}, (∀ e ∈ t, e.1 < k) → memWrite t 0 k (zeros n) = t
  | 0, _, _, _ => rfl
  | n + 1, k, t, h => by
    have hd : Tbl.set t 0 k 0 = t := by
      rw [Tbl.set, if_pos rfl, Tbl.del, List.filter_eq_self]
      intro e he
      have := h e he
      simp only [bne_iff_ne, ne_eq]
      omega
    show memWrite (Tbl.set t 0 k 0) 0 (k + 1) (zeros n) = t
    rw [hd]
    exact memWrite_zeros fun e he => Nat.lt_succ_of_lt (h e he)

theorem memWrite_append (d : Byte) : ∀ {l r : List Byte} {t : Tbl Byte} {a : Nat}, memWrite t d a (l ++ r) = memWrite (memWrite t d a l) d (a + l.length) r
  | [], _, _, _ => rfl
  | b :: l, r, t, a => by
    rw [List.cons_append, memWrite, memWrite_append, memWrite, List.length_cons]
    congr 1; omega

/-- A section: header, payload, zeros. -/
def testSect (tag : Nat) (load : Nat) (body : List Byte) : List Byte :=
  le 2 tag ++ zeros 4 ++ le 2 0 ++ le 4 body.length ++ le 4 1 ++ le 8 77 ++ le 8 load ++ zeros 64 ++ body ++ zeros (up8 body.length - body.length + 120)

/-- The image up to the last byte of its model that is not zero: a directory of seven, the sections 1, 2, 3, 0x18, 0x19, 0x1A, the header of
SITE_MODEL and the model's first 66 bytes: version 7, one node, whose parent is 0xFFFF. -/
def imagePre : List Byte :=
  le 4 0x4E425947 ++ le 2 1 ++ le 2 7 ++ le 4 9 ++ le 4 165488 ++ le 8 77 ++ zeros 8 ++
    ([(1, 88), (2, 320), (3, 544), (0x18, 768), (0x19, 984), (0x1A, 1208), (0x10, 1432)] : List (Nat × Nat)).flatMap (fun e => le 2 e.1 ++ zeros 2 ++ le 4 e.2) ++
    testSect 1 0 (zeros 16) ++ testSect 2 0 [1] ++ testSect 3 0x168000000 [5, 6, 7] ++ testSect 0x18 0 [] ++ testSect 0x19 0 (le 4 0x1F03FF ++ zeros 4) ++
    testSect 0x1A 0 (zeros 8) ++ (testSect 0x10 0 []).take 8 ++ le 4 0x28000 ++ ((testSect 0x10 0 []).drop 12).take 84 ++
    (le 4 7 ++ [1] ++ zeros 59 ++ [0xFF, 0xFF])

def imageFlash : Tbl Byte := byteRun 0 imagePre ++ zrun 1594 163894

theorem imagePre_length : imagePre.length = 1594 := by decide +kernel

theorem imageFlash_read {i n : Nat} (h : i + n ≤ 1594) : memRead imageFlash 0xFF i n = (imagePre.drop i).take n :=
  memRead_byteRun _ _ _ (by rw [imagePre_length]; exact h)

theorem imageFlash_zeros {i n : Nat} (h1 : 1594 ≤ i) (h2 : i + n ≤ 165488) : memRead imageFlash 0xFF i n = zeros n :=
  memRead_zeros _ _ fun k hk hk' => by
    rw [imageFlash, get_byteRun_append _ _ (by rw [imagePre_length]; omega)]
    exact get_zrun _ (by omega) (by omega)

/-- The model's bytes. -/
def imageModel : List Byte := le 4 7 ++ [1] ++ zeros 59 ++ [0xFF, 0xFF] ++ zeros 163774

theorem imageModel_tbl : tblOf imageModel = [(0, 7), (4, 1), (0x40, 0xFF), (0x41, 0xFF)] := by
  have h : memWrite [] 0 0 (le 4 7 ++ [1] ++ zeros 59 ++ [0xFF, 0xFF]) = [(0, 7), (4, 1), (0x40, 0xFF), (0x41, 0xFF)] := by decide +kernel
  rw [tblOf, imageModel, memWrite_append, h]
  exact memWrite_zeros (by decide)

theorem imageModel_passes : modelFits (tblOf imageModel) = true ∧ modelCode (tblOf imageModel) = 0 := by
  rw [imageModel_tbl]
  decide +kernel

theorem imageModel_length : imageModel.length = 0x28000 := by
  have h : (zeros 163774).length = 163774 := List.length_replicate
  rw [imageModel, List.length_append, h]
  decide +kernel

/-- A section that lies before the model. -/
theorem imageSect {tag o n : Nat} (h : o + 96 + up8 n + 120 ≤ 1594) (hn : u32 ((imagePre.drop o).take 96) 8 = n)
    (ht : (((imagePre.drop (o + 96 + n)).take (up8 n - n)).all (· == 0) && ((imagePre.drop (o + 96 + up8 n + 120 - 6)).take 6).all (· == 0)) = true) :
    sectAt imageFlash 0 165488 (tag, o) =
      ⟨tag, o, (imagePre.drop o).take 96, (imagePre.drop (o + 96)).take n, o + 96 + up8 n + 120, true⟩ := by
  have hu : n ≤ up8 n := by unfold up8; omega
  unfold sectAt
  dsimp only
  rw [Nat.zero_add, imageFlash_read (by omega), hn, if_pos (by omega), imageFlash_read (by omega), imageFlash_read (by omega), Nat.zero_add,
    imageFlash_read (by omega), ht]

/-- SITE_MODEL. -/
theorem imageModelSect : sectAt imageFlash 0 165488 (0x10, 1432) = ⟨0x10, 1432, (imagePre.drop 1432).take 96, imageModel, 165488, true⟩ := by
  have hn : u32 ((imagePre.drop 1432).take 96) 8 = 0x28000 := by decide +kernel
  have h8 : up8 0x28000 = 0x28000 := by decide
  have h0 : memRead imageFlash 0xFF (0 + 1432 + 96 + 0x28000) (0x28000 - 0x28000) = [] := by rw [Nat.sub_self, memRead]
  have h66 : (imagePre.drop 1528).take 66 = le 4 7 ++ [1] ++ zeros 59 ++ [0xFF, 0xFF] := by decide +kernel
  have hb : memRead imageFlash 0xFF (0 + 1432 + 96) 0x28000 = imageModel := by
    rw [show 0 + 1432 + 96 = 1528 from rfl, show 0x28000 = 66 + 163774 from rfl, memRead_add, imageFlash_read (by omega), imageFlash_zeros (by omega) (by omega), h66, imageModel]
  have ht : memRead imageFlash 0xFF (0 + (1432 + 96 + 0x28000 + 120) - 6) 6 = zeros 6 := imageFlash_zeros (by omega) (by omega)
  unfold sectAt
  dsimp only
  rw [Nat.zero_add 1432] at *
  rw [imageFlash_read (by omega), hn, h8, if_pos (by omega), h0, hb, ht]
  rfl

def imageDir : List (Nat × Nat) := [(1, 88), (2, 320), (3, 544), (0x18, 768), (0x19, 984), (0x1A, 1208), (0x10, 1432)]

theorem image_directory : directory imageFlash 0 = some imageDir := by
  have h7 : u16 (memRead imageFlash 0xFF (0 + 6) 2) 0 = 7 := by rw [imageFlash_read (by omega)]; decide +kernel
  have he : (List.range 7).map (fun i => memRead imageFlash 0xFF (0 + 32 + 8 * i) 8) = (List.range 7).map fun i => (imagePre.drop (0 + 32 + 8 * i)).take 8 :=
    List.map_congr_left fun i hi => imageFlash_read (by have := List.mem_range.mp hi; omega)
  unfold directory
  dsimp only
  rw [h7, he]
  decide +kernel

/-- The sections of the image. -/
def imageAt (tag o n : Nat) : Sect := ⟨tag, o, (imagePre.drop o).take 96, (imagePre.drop (o + 96)).take n, o + 96 + up8 n + 120, true⟩
def imageModelAt : Sect := ⟨0x10, 1432, (imagePre.drop 1432).take 96, imageModel, 165488, true⟩
def imageSects : List Sect :=
  [imageAt 1 88 16, imageAt 2 320 1, imageAt 3 544 3, imageAt 0x18 768 0, imageAt 0x19 984 8, imageAt 0x1A 1208 8, imageModelAt]

theorem image_sects : imageDir.map (sectAt imageFlash 0 165488) = imageSects := by
  have h1 := imageSect (tag := 1) (o := 88) (n := 16) (by decide) (by decide +kernel) (by decide +kernel)
  have h2 := imageSect (tag := 2) (o := 320) (n := 1) (by decide) (by decide +kernel) (by decide +kernel)
  have h3 := imageSect (tag := 3) (o := 544) (n := 3) (by decide) (by decide +kernel) (by decide +kernel)
  have h4 := imageSect (tag := 0x18) (o := 768) (n := 0) (by decide) (by decide +kernel) (by decide +kernel)
  have h5 := imageSect (tag := 0x19) (o := 984) (n := 8) (by decide) (by decide +kernel) (by decide +kernel)
  have h6 := imageSect (tag := 0x1A) (o := 1208) (n := 8) (by decide) (by decide +kernel) (by decide +kernel)
  unfold imageDir imageSects
  simp only [List.map_cons, List.map_nil]
  rw [h1, h2, h3, h4, h5, h6, imageModelSect]
  rfl

/-- The image has been chosen; Sepia goes on, as after a quiet state; the dispensers have been placed. -/
def imageState : State :=
  { z with hlm := { z.hlm with prog := 1, owners := [(0, hash32 (zeros 57))], wipeDone := true }, mem := { z.mem with flash := imageFlash },
           mtr := { z.mtr with running := true }, alloc := { z.alloc with placed := true },
           boot := { z.boot with chosen := true, base := 0, len := 165488 } }

theorem firstRej_none : ∀ {l : List (Bool × Rej)}, (l.all fun c => c.1) = true → firstRej l = none
  | [], _ => rfl
  | c :: r, h => by
    simp only [List.all_cons, Bool.and_eq_true] at h
    have ih := firstRej_none h.2
    unfold firstRej at ih ⊢
    rw [List.find?_cons_of_neg (by simp [h.1])]
    exact ih

theorem image_fields : ∀ x ∈ imageSects, x.id = 77 ∧ x.owner = 0 ∧ x.pub = zeros 57 ∧ x.svn = 0 ∧ x.flags = 0 := by decide +kernel

theorem image_layouts : ((imageSects.map fun x => ((x.layout 165488).isNone, (⟨1, some x.dir, x.layout 165488⟩ : Rej))).all fun c => c.1) = true := by
  decide +kernel

theorem sectChecks_pass {h : HlmSt} {x : Sect} (hp : h.prog = 1) (hr : h.revoked = 0) (ho : h.owners = [(0, hash32 (zeros 57))])
    (hc : State.counter h x.dir = 0) (hx : x ∈ imageSects) : ((State.sectChecks h 77 true x).all fun c => c.1) = true := by
  obtain ⟨h1, h2, h3, h4, -⟩ := image_fields x hx
  have hg : Tbl.get h.owners [] 0 = hash32 (zeros 57) := by rw [ho]; rfl
  simp only [State.sectChecks, List.all_cons, List.all_nil, h1, h2, h3, h4, hp, hr, hg, hc]
  simp
  decide

theorem svnNote_all {s : State} : ∀ {l : List Sect}, (∀ x ∈ l, x.flags = 0) → l.foldl (fun (t : State) x => State.svnNote x t) s = s
  | [], _ => rfl
  | x :: r, h => by
    have h0 : State.svnNote x s = s := by
      rw [State.svnNote, if_neg]
      rw [h x (List.mem_cons_self ..)]
      exact fun h => absurd h.1 (by decide)
    rw [List.foldl_cons, h0]
    exact svnNote_all fun y hy => h y (List.mem_cons_of_mem _ hy)

/-- Every section of the image passes. -/
theorem image_verify {s : State} (hf : s.mem.flash = imageFlash) (hp : s.hlm.prog = 1) (hr : s.hlm.revoked = 0)
    (ho : s.hlm.owners = [(0, hash32 (zeros 57))]) (hc : ∀ t, State.counter s.hlm t = 0) :
    State.verify ⟨[], 0⟩ 0 165488 imageSects s = (s, none) := by
  have hid : s.imageId 0 = 77 := by
    rw [State.imageId, hf, imageFlash_read (by omega)]
    decide +kernel
  have hfirst : firstRej ((imageSects.map fun x => ((x.layout 165488).isNone, (⟨1, some x.dir, x.layout 165488⟩ : Rej))) ++
      [((imageSects.map Sect.dir).all tagKnown && decide ((imageSects.map Sect.dir).eraseDups.length = (imageSects.map Sect.dir).length) &&
        tagsRequired.all (imageSects.map Sect.dir).contains, (⟨1, none, none⟩ : Rej)), (!overlapping imageSects, ⟨1, none, none⟩)] ++
      (imageSects.filter fun x => x.dir != 1).flatMap fun x => State.sectChecks s.hlm 77 (!([] : List Nat).contains x.dir) x) = none := by
    refine firstRej_none ?_
    rw [List.all_append, List.all_append, image_layouts, List.all_flatMap]
    refine Bool.and_eq_true_iff.mpr ⟨by decide +kernel, List.all_eq_true.mpr fun x hx => ?_⟩
    exact sectChecks_pass hp hr ho (hc _) (List.mem_filter.mp hx).1
  unfold State.verify
  dsimp only
  rw [hid, hfirst]
  dsimp only
  rw [svnNote_all fun x hx => (image_fields x (List.mem_filter.mp hx).1).2.2.2.2]

/-- The registers of GNT read as after reset. -/
def GntReset (io : Io) : Prop := ∀ a, 0x40600000 ≤ a → a < 0x40601000 → io.reg a = z.io.reg a

theorem GntReset.set {io : Io} (h : GntReset io) {a : Nat} (w : Word) (ha : a < 0x40600000 ∨ 0x40601000 ≤ a) : GntReset (io.setReg a w) := fun b h1 h2 => by
  rw [← h b h1 h2]
  exact Io.reg_setReg_ne _ _ (by omega)

theorem gnt_at_reset : (∀ d, d < 256 → dispEn z.io d = false) ∧
    ∀ p, p < 32 → z.io.flag (Reg.GNT.OUT_CFG p) 29 = false ∧ z.io.flag (Reg.GNT.IN_CFG p) 27 = false := by
  decide +kernel

theorem GntReset.safety {io : Io} (h : GntReset io) : safetyOk io = true ∧ periodsMatch io = true := by
  have hd : ∀ d ∈ List.range 256, (!dispEn io d) = true := fun d hd => by
    have hd := List.mem_range.mp hd
    have := gnt_at_reset.1 d hd
    simp only [dispEn, Io.flag, Io.fld] at this ⊢
    rw [h _ (by unfold Reg.GNT.DISP_CFG; omega) (by unfold Reg.GNT.DISP_CFG; omega), this]
    rfl
  have ho : (List.range 32).filter (fun p => io.flag (Reg.GNT.OUT_CFG p) 29) = [] := by
    refine List.filter_eq_nil_iff.mpr fun p hp => ?_
    have hp := List.mem_range.mp hp
    have := (gnt_at_reset.2 p hp).1
    simp only [Io.flag, Io.fld] at this ⊢
    rw [h _ (by unfold Reg.GNT.OUT_CFG; omega) (by unfold Reg.GNT.OUT_CFG; omega), this]
    decide
  have hi : ∀ n ∈ List.range 32, (!io.flag (Reg.GNT.IN_CFG n) 27) = true := fun n hn => by
    have hn := List.mem_range.mp hn
    have := (gnt_at_reset.2 n hn).2
    simp only [Io.flag, Io.fld] at this ⊢
    rw [h _ (by unfold Reg.GNT.IN_CFG; omega) (by unfold Reg.GNT.IN_CFG; omega), this]
    rfl
  constructor
  · unfold safetyOk
    simp only [ho, List.map_nil, List.all_nil, Bool.and_true, Bool.and_eq_true]
    refine ⟨⟨List.all_eq_true.mpr fun d hd' => by rw [hd d hd']; rfl, by decide⟩, List.all_eq_true.mpr fun n hn => by rw [hi n hn]; rfl⟩
  · unfold periodsMatch
    exact List.all_eq_true.mpr fun d hd' => by rw [hd d hd']; rfl

theorem setMeas_GntReset {s : State} (h : GntReset s.io) (place : Nat) (b : Nat → Byte) (hp : place < 3) : GntReset (State.setMeas place b s).io := by
  have hs : ∀ (l : List Nat) (io : Io), (∀ i ∈ l, i < 8) → GntReset io → GntReset (l.foldl (fun (io : Io) i =>
      io.setReg (Reg.HLM.MEAS (8 * place + i)) (w32 (u32 ((List.range 4).map fun j => b (4 * i + j)) 0))) io) := by
    intro l
    induction l with
    | nil => exact fun io _ h => h
    | cons i r ih => exact fun io hl h => ih _ (fun j hj => hl j (List.mem_cons_of_mem _ hj)) (h.set _ (by
        have := hl i (List.mem_cons_self ..)
        unfold Reg.HLM.MEAS
        omega))
  exact hs _ _ (by decide) h

theorem loadList_nil {x : Sect} {k : Nat} (h : x.records k = .ok []) (s : State) : State.loadList x k s = (s, none) := by
  rw [State.loadList, h]
  rfl

/-- A step of the load that does not fail, and what then holds. -/
def Goes (Q : State → Prop) (x : Load) : Prop := x.2 = none ∧ Q x.1

theorem Goes.andThen {Q R : State → Prop} {x : Load} {f : State → Load} (h : Goes Q x) (hf : ∀ s, Q s → Goes R (f s)) : Goes R (x.andThen f) := by
  unfold Load.andThen
  rw [h.1]
  exact hf _ h.2

/-- What every step of this load keeps. -/
def Loads (s : State) : Prop := GntReset s.io ∧ bit (s.io.reg Reg.MIR.CFG) 0 = false ∧ s.mtr.running = true ∧ s.alloc.placed = true ∧ s.mem.flash = imageFlash

/-- The model is loaded. -/
def Modelled (s : State) : Prop := Loads s ∧ s.alloc.model = [(0, 7), (4, 1), (0x40, 0xFF), (0x41, 0xFF)]

def noRecords : Except Nat (List RRec) → Bool
  | .ok [] => true
  | _ => false

theorem noRecords_ok {e : Except Nat (List RRec)} (h : noRecords e = true) : e = .ok [] := by
  cases e with
  | error _ => cases h
  | ok l => cases l with
    | nil => rfl
    | cons _ _ => cases h

theorem setMeas_cfg {s : State} (h : bit (s.io.reg Reg.MIR.CFG) 0 = false) (place : Nat) (b : Nat → Byte) (hp : place < 3) :
    bit ((State.setMeas place b s).io.reg Reg.MIR.CFG) 0 = false := by
  have hs : ∀ (l : List Nat) (io : Io), (∀ i ∈ l, i < 8) → bit (io.reg Reg.MIR.CFG) 0 = false → bit ((l.foldl (fun (io : Io) i =>
      io.setReg (Reg.HLM.MEAS (8 * place + i)) (w32 (u32 ((List.range 4).map fun j => b (4 * i + j)) 0))) io).reg Reg.MIR.CFG) 0 = false := by
    intro l
    induction l with
    | nil => exact fun io _ h => h
    | cons i r ih => exact fun io hl h => ih _ (fun j hj => hl j (List.mem_cons_of_mem _ hj)) (by
        have := hl i (List.mem_cons_self ..)
        rw [Io.reg_setReg_ne _ _ (by unfold Reg.MIR.CFG Reg.HLM.MEAS; omega)]
        exact h)
  exact hs _ _ (by decide) h

theorem image_security {s : State} (h : Loads s) : Goes Loads (State.loadSecurity (imageAt 0x19 984 8) s) := by
  have hb : (imageAt 0x19 984 8).body.length = 8 ∧ u32 (imageAt 0x19 984 8).body 4 = 0 := by decide +kernel
  unfold State.loadSecurity
  rw [if_pos hb]
  exact ⟨rfl, h.1.set _ (by decide), (congrArg (bit · 0) (Io.reg_setReg_ne s.io _ (by decide))).trans h.2.1, h.2.2⟩

theorem image_system {s : State} (h : Loads s) : Goes Loads (State.loadSystem (imageAt 0x1A 1208 8) s) := by
  have hb : 8 ≤ (imageAt 0x1A 1208 8).body.length ∧ u32 (imageAt 0x1A 1208 8).body 4 = 0 := by decide +kernel
  have h0 : bit (w32 (u32 (imageAt 0x1A 1208 8).body 0 % 65536)) 0 = false := by decide +kernel
  have hr : noRecords ((imageAt 0x1A 1208 8).records 8) = true := by decide +kernel
  unfold State.loadSystem
  rw [if_pos hb, loadList_nil (noRecords_ok hr)]
  exact ⟨rfl, h.1.set _ (by decide), (congrArg (bit · 0) (Io.reg_setReg_self s.io _ _)).trans h0, h.2.2⟩

theorem image_safety {s : State} (h : Loads s) : Goes Loads (State.loadSafety (imageAt 0x18 768 0) s) := by
  have hr : noRecords ((imageAt 0x18 768 0).records 0) = true := by decide +kernel
  unfold State.loadSafety
  rw [loadList_nil (noRecords_ok hr)]
  exact Goes.andThen (Q := Loads) ⟨rfl, h⟩ fun t ht => ⟨by unfold Load.check; rw [ht.1.safety.1]; rfl, ht⟩

theorem loadModel_goes {x : Sect} {m : Tbl Byte} {s : State} (hl : x.body.length = 0x28000) (ht : tblOf x.body = m) (h1 : modelFits m = true)
    (h2 : modelCode m = 0) : State.loadModel x s = ({ s with alloc := { s.alloc with model := m, modelP := m } }, none) := by
  unfold State.loadModel
  dsimp only
  rw [ht, firstRej_none (by rw [hl, h1, h2]; simp)]

theorem image_model {s : State} (h : Loads s) : Goes Modelled (State.loadModel imageModelAt s) := by
  have hb : imageModelAt.body = imageModel := rfl
  have hp := imageModel_passes
  rw [imageModel_tbl] at hp
  rw [loadModel_goes (hb ▸ imageModel_length) (hb ▸ imageModel_tbl) hp.1 hp.2]
  exact ⟨rfl, ⟨h.1, h.2.1, h.2.2.1, h.2.2.2.1, h.2.2.2.2⟩, rfl⟩

theorem image_legal {s : State} (h : Modelled s) : Goes Modelled (State.loadLegal ⟨[], 0⟩ none s) := by
  unfold State.loadLegal State.startSepia
  dsimp only
  rw [if_pos h.1.2.2.1]
  exact ⟨rfl, h⟩

theorem image_session {s : State} (h : Modelled s) : Goes Modelled (State.loadSession none s) := by
  unfold State.loadSession
  exact Goes.andThen (Q := Modelled) ⟨rfl, h⟩ fun t ht => ⟨by unfold Load.check; rw [ht.1.1.safety.2]; rfl, ht⟩

theorem image_starts {s : State} (h : Modelled s) :
    let u := State.blocksStart 9 (State.loadCode (imageAt 3 544 3) [] s)
    u.io.fld Reg.SYS.BOOT_STAT 31 28 = 3 ∧ u.alloc.model = [(0, 7), (4, 1), (0x40, 0xFF), (0x41, 0xFF)] := by
  have ha : ∀ t : State, t.alloc.placed = true → State.placed t = t := fun t ht => by rw [State.placed, if_pos ht]
  have hm : ∀ (a : MirSt) (io : Io), bit (io.reg Reg.MIR.CFG) 0 = false → (mirStartup (a, io)).2 = io := fun a io hb => by
    have hp : paired io = false := hb
    unfold mirStartup
    split
    · rfl
    · dsimp only
      rw [hp]
      rfl
  unfold State.blocksStart
  dsimp only
  generalize hc : State.loadCode (imageAt 3 544 3) [] s = c
  have k : bit (c.io.reg Reg.MIR.CFG) 0 = false ∧ c.alloc.placed = true ∧ c.alloc.model = [(0, 7), (4, 1), (0x40, 0xFF), (0x41, 0xFF)] := by
    subst hc
    unfold State.loadCode
    dsimp only
    rw [Io.reg_setReg_ne _ _ (by decide), Io.reg_setReg_ne _ _ (by decide)]
    exact ⟨h.1.2.1, h.1.2.2.2.1, h.2⟩
  rw [ha _ (by exact k.2.1), ite_self]
  unfold State.settle State.onMir
  dsimp only
  rw [hm]
  · exact ⟨Io.fld_setFld_self _ (by decide) (by decide), k.2.2⟩
  · rw [Io.reg_setFld_ne _ _ _ _ (by decide), Io.reg_setReg_ne _ _ (by decide)]
    exact k.1

theorem trustedBoot_loads {s : State} (h : (s.live && s.boot.chosen && !s.mem.extN) = true) (ev : BootEv) : exec (.trustedBoot ev) s =
    .next (State.settleLoad (s.imageSeq s.boot.base) (State.loadImage ev s.boot.base s.boot.len (s.imageSeq s.boot.base) s)) := by
  show execTrustedBoot ev s = _
  rw [execTrustedBoot, onDie, State.trustedBoot, if_pos h]

/-- The image is loaded and starts: every section passes, the model is the active one, BOOT_STAT.PHASE is 3. -/
theorem witness_an_image_starts :
    imageState.live = true ∧ imageState.boot.chosen = true ∧ imageState.mem.extN = false ∧ imageState.imageSeq imageState.boot.base = 9 ∧
    ∃ u, State.loadImage ⟨[], 0⟩ imageState.boot.base imageState.boot.len 9 imageState = (u, none) ∧
      exec (.trustedBoot ⟨[], 0⟩) imageState = .next u ∧ u.io.fld Reg.SYS.BOOT_STAT 31 28 = 3 ∧ u.alloc.model = [(0, 7), (4, 1), (0x40, 0xFF), (0x41, 0xFF)] := by
  have hseq : imageState.imageSeq 0 = 9 := by
    rw [State.imageSeq, show imageState.mem.flash = imageFlash from rfl, imageFlash_read (by omega)]
    decide +kernel
  have hsz : firstRej (State.sizeChecks (imageAt 3 544 3) [] (u32 (imageAt 1 88 16).body 0) (imageAt 2 320 1).body.length) = none := by decide +kernel
  have hload : Goes (fun u => u.io.fld Reg.SYS.BOOT_STAT 31 28 = 3 ∧ u.alloc.model = [(0, 7), (4, 1), (0x40, 0xFF), (0x41, 0xFF)])
      (State.loadImage ⟨[], 0⟩ 0 165488 9 imageState) := by
    have hv := image_verify (s := { imageState with io := imageState.io.setFld Reg.SYS.BOOT_STAT 31 28 2 }) rfl rfl rfl rfl (fun t => by
      unfold State.counter; split <;> rfl)
    have h0 : Loads { imageState with io := imageState.io.setFld Reg.SYS.BOOT_STAT 31 28 2 } :=
      ⟨GntReset.set (fun _ _ _ => rfl) _ (by decide), (congrArg (bit · 0) (Io.reg_setReg_ne imageState.io _ (by decide))).trans (by decide +kernel), rfl, rfl, rfl⟩
    unfold State.loadImage
    rw [show imageState.mem.flash = imageFlash from rfl, image_directory]
    dsimp only
    rw [image_sects, hv]
    refine Goes.andThen (Q := Loads) ⟨rfl, h0⟩ fun s hs => ?_
    have f1 : imageSects.find? (fun x => x.dir == 1) = some (imageAt 1 88 16) := rfl
    have f2 : imageSects.find? (fun x => x.dir == 2) = some (imageAt 2 320 1) := rfl
    have f3 : imageSects.find? (fun x => x.dir == 3) = some (imageAt 3 544 3) := rfl
    have f4 : imageSects.find? (fun x => x.dir == 0x10) = some imageModelAt := rfl
    have f5 : imageSects.find? (fun x => x.dir == 0x18) = some (imageAt 0x18 768 0) := rfl
    have f6 : imageSects.find? (fun x => x.dir == 0x19) = some (imageAt 0x19 984 8) := rfl
    have f7 : imageSects.find? (fun x => x.dir == 0x1A) = some (imageAt 0x1A 1208 8) := rfl
    have fa : imageSects.filter (fun x => decide (0x8000 ≤ x.dir)) = [] := rfl
    have fn : ∀ t ∈ [0x11, 0x12, 0x13, 0x14, 0x15, 0x16, 0x17], imageSects.find? (fun x => x.dir == t) = none := by decide +kernel
    rw [f1, f2, f3, f4, f5, f6, f7, fa, fn 0x11 (by decide), fn 0x12 (by decide), fn 0x13 (by decide), fn 0x14 (by decide), fn 0x15 (by decide),
      fn 0x16 (by decide), fn 0x17 (by decide)]
    dsimp only
    rw [hsz]
    dsimp only
    have keep : ∀ s, Modelled s → Goes Modelled (s, none) := fun _ h => ⟨rfl, h⟩
    refine Goes.andThen (Q := Modelled) (Goes.andThen (Q := Modelled) (Goes.andThen (Q := Modelled) (Goes.andThen (Q := Modelled)
      (Goes.andThen (Q := Modelled) (Goes.andThen (Q := Modelled) (Goes.andThen (Q := Modelled) (Goes.andThen (Q := Modelled)
      (Goes.andThen (Q := Loads) (Goes.andThen (Q := Loads) (Goes.andThen (Q := Loads) (image_security ?_)
        fun t ht => image_system ht) fun t ht => image_safety ht) fun t ht => image_model ht) keep) fun t ht => image_legal ht) keep) keep) keep)
        fun t ht => image_session ht) keep) fun t ht => ⟨rfl, image_starts ht⟩
    exact ⟨setMeas_GntReset (setMeas_GntReset hs.1 1 _ (by decide)) 2 _ (by decide), setMeas_cfg (setMeas_cfg hs.2.1 1 _ (by decide)) 2 _ (by decide), hs.2.2⟩
  have hexec : exec (.trustedBoot ⟨[], 0⟩) imageState = .next (State.settleLoad 9 (State.loadImage ⟨[], 0⟩ 0 165488 9 imageState)) := by
    have h := trustedBoot_loads (s := imageState) (by decide +kernel) ⟨[], 0⟩
    rw [show imageState.boot.base = 0 from rfl, show imageState.boot.len = 165488 from rfl, hseq] at h
    exact h
  refine ⟨by decide +kernel, by decide +kernel, by decide +kernel, hseq, ?_⟩
  rw [hexec, show imageState.boot.base = 0 from rfl, show imageState.boot.len = 165488 from rfl]
  generalize State.loadImage ⟨[], 0⟩ 0 165488 9 imageState = x at hload
  obtain ⟨u, r⟩ := x
  obtain ⟨h1, h2, h3⟩ := hload
  cases h1
  exact ⟨u, rfl, rfl, h2, h3⟩

end Sys2Proof.Tests
end

section
/-! PROOFS. The grants of a renewal tick (chapter 03, R91 to R95): what one grant does to its target's chain and to the grant
counter, what a message sent leaves of the registers that grants read, and the run of grants over the targets. -/
namespace Sys2Proof.Machine

/-! What the grants of one tick read of the shared part, and that sending a grant leaves it. -/

/-- What R94 and R95 take from the shared part reads the same: the strap ball, LEASE.CFG and the targets' TGT registers. -/
structure SameGrantTerms (io io' : Io) : Prop where
  unitB : io'.unitB = io.unitB
  cfg : io'.reg Reg.LEASE.CFG = io.reg Reg.LEASE.CFG
  tgt : ∀ t, t < 1024 → io'.reg (Reg.LEASE.TGT t) = io.reg (Reg.LEASE.TGT t)

namespace SameGrantTerms

theorem refl (io : Io) : SameGrantTerms io io := ⟨rfl, rfl, fun _ _ => rfl⟩

theorem trans {io₁ io₂ io₃ : Io} (h : SameGrantTerms io₁ io₂) (h' : SameGrantTerms io₂ io₃) : SameGrantTerms io₁ io₃ :=
  ⟨h'.unitB.trans h.unitB, h'.cfg.trans h.cfg, fun t ht => (h'.tgt t ht).trans (h.tgt t ht)⟩

/-- A register other than CFG and the TGT registers may change. -/
theorem setReg (io : Io) {r : Nat} (w : Word) (hcfg : r ≠ Reg.LEASE.CFG) (htgt : r < Reg.LEASE.TGT 0 ∨ Reg.LEASE.TGT 1024 ≤ r) :
    SameGrantTerms io (io.setReg r w) where
  unitB := rfl
  cfg := Io.reg_setReg_ne io w hcfg.symm
  tgt t ht := Io.reg_setReg_ne io w (by simp only [Reg.LEASE.TGT] at htgt ⊢; omega)

theorem count (io : Io) {r : Nat} (hcfg : r ≠ Reg.LEASE.CFG) (htgt : r < Reg.LEASE.TGT 0 ∨ Reg.LEASE.TGT 1024 ≤ r) :
    SameGrantTerms io (io.count r) :=
  setReg io _ hcfg htgt

/-- A message that cannot be sent is counted in FAB's own registers (R332). -/
theorem noPath (io : Io) : SameGrantTerms io io.noPath :=
  (count io (by decide) (by decide)).trans (setReg _ _ (by decide) (by decide))

theorem sendOn (io : Io) (path num bus ty sub : Nat) (hipri : Bool) (dst : Nat) (payload : List Byte) :
    SameGrantTerms io (io.sendOn path num bus ty sub hipri dst payload) := by
  unfold Io.sendOn
  dsimp only
  split
  · exact refl io
  · refine SameGrantTerms.trans ?_ (count _ (by decide) (by decide))
    exact ⟨rfl, rfl, fun _ _ => rfl⟩

theorem send (io : Io) (ty sub : Nat) (hipri : Bool) (dst : Nat) (payload : List Byte) :
    SameGrantTerms io (io.send ty sub hipri dst payload) := by
  unfold Io.send
  split
  · split
    · split
      · exact sendOn ..
      · exact noPath io
    · exact noPath io
  · exact noPath io

end SameGrantTerms

/-! One grant. -/

/-- `ch` is the chain of target `t` after its grant on renewal tick `n` (R94, R95), the grant counter standing at `k` and the chain
having been `old`. -/
def GrantedOn (n : Nat) (io : Io) (k t : Nat) (old ch : Chain) : Prop :=
  ch.seq = (old.seq + 1) % 2 ^ 32 ∧
  ch.lid = b2n io.unitB * 2 ^ 31 + k % 2 ^ 31 ∧
  ∃ e rest, ch.hist = e :: rest ∧ e.start = (n + io.fld (Reg.LEASE.TGT t) 15 12) * 250000 ∧
    e.expiry = e.start + io.fld Reg.LEASE.CFG 7 0 * 1000000

theorem GrantedOn.of_sameGrantTerms {n k k' t : Nat} {io io' : Io} {old ch : Chain} (hio : SameGrantTerms io io') (ht : t < 1024)
    (hk : k' % 2 ^ 31 = k % 2 ^ 31) (h : GrantedOn n io' k' t old ch) : GrantedOn n io k t old ch := by
  unfold GrantedOn Io.fld at h ⊢
  rwa [hio.unitB, hio.cfg, hio.tgt t ht, hk] at h

section
variable (n : Nat) (reuse wind : Bool) (a : AllocSt) (inp : Tbl DispIn)

theorem emitGrant_grants (t : Nat) (s : LeaseSt × Io) :
    GrantedOn n s.2 s.1.count t (chainOf s.1 t) (chainOf (emitGrant n reuse wind a inp t s).1 t) := by
  unfold emitGrant chainOf
  dsimp only
  rw [Tbl.get_set_self]
  exact ⟨rfl, rfl, _, _, rfl, rfl, rfl⟩

theorem chainOf_emitGrant_ne {t u : Nat} (s : LeaseSt × Io) (h : u ≠ t) :
    chainOf (emitGrant n reuse wind a inp t s).1 u = chainOf s.1 u := by
  unfold emitGrant chainOf
  dsimp only
  exact Tbl.get_set_ne _ _ _ _ h

theorem emitGrant_count (t : Nat) (s : LeaseSt × Io) : (emitGrant n reuse wind a inp t s).1.count = (s.1.count + 1) % 2 ^ 31 := rfl

theorem emitGrant_sameGrantTerms (t : Nat) (s : LeaseSt × Io) : SameGrantTerms s.2 (emitGrant n reuse wind a inp t s).2 :=
  (SameGrantTerms.send ..).trans (SameGrantTerms.count _ (by decide) (by decide))

/-! The run of grants over a list of targets. -/

/-- The grants to the targets `ts`, one after the other (R92). Irreducible: a check of equality is not to run the grants. -/
@[irreducible] def emitGrants (ts : List Nat) (s : LeaseSt × Io) : LeaseSt × Io :=
  ts.foldl (fun s t => emitGrant n reuse wind a inp t s) s

theorem emitGrants_eq_foldl (ts : List Nat) (s : LeaseSt × Io) :
    emitGrants n reuse wind a inp ts s = ts.foldl (fun s t => emitGrant n reuse wind a inp t s) s := by
  unfold emitGrants
  rfl

theorem emitGrants_nil (s : LeaseSt × Io) : emitGrants n reuse wind a inp [] s = s := emitGrants_eq_foldl ..

theorem emitGrants_cons (t : Nat) (ts : List Nat) (s : LeaseSt × Io) :
    emitGrants n reuse wind a inp (t :: ts) s = emitGrants n reuse wind a inp ts (emitGrant n reuse wind a inp t s) := by
  simp only [emitGrants_eq_foldl, List.foldl_cons]

theorem chainOf_emitGrants_of_notMem {u : Nat} {ts : List Nat} (hu : u ∉ ts) (s : LeaseSt × Io) :
    chainOf (emitGrants n reuse wind a inp ts s).1 u = chainOf s.1 u := by
  induction ts generalizing s with
  | nil => rw [emitGrants_nil]
  | cons t ts ih =>
    have hmem : u ∉ ts := fun h => hu (List.mem_cons_of_mem t h)
    rw [emitGrants_cons]
    exact (ih hmem _).trans (chainOf_emitGrant_ne n reuse wind a inp s (List.ne_of_not_mem_cons hu))

theorem emitGrants_count (ts : List Nat) (s : LeaseSt × Io) :
    (emitGrants n reuse wind a inp ts s).1.count % 2 ^ 31 = (s.1.count + ts.length) % 2 ^ 31 := by
  induction ts generalizing s with
  | nil => rw [emitGrants_nil, List.length_nil, Nat.add_zero]
  | cons t ts ih =>
    rw [emitGrants_cons, ih, emitGrant_count, List.length_cons]
    omega

/-- The i-th of several different targets is granted with the counter `i` further on; the grants after it leave its chain. -/
theorem emitGrants_grants {ts : List Nat} (hnd : ts.Nodup) (hlt : ∀ t ∈ ts, t < 1024) (s : LeaseSt × Io) {i : Nat} (h : i < ts.length) :
    GrantedOn n s.2 (s.1.count + i) ts[i] (chainOf s.1 ts[i]) (chainOf (emitGrants n reuse wind a inp ts s).1 ts[i]) := by
  induction ts generalizing s i with
  | nil => exact absurd h (Nat.not_lt_zero i)
  | cons t ts ih =>
    obtain ⟨hnot, hnd'⟩ := List.nodup_cons.1 hnd
    rw [emitGrants_cons]
    let s' := emitGrant n reuse wind a inp t s
    cases i with
    | zero =>
      have hkeep : chainOf (emitGrants n reuse wind a inp ts s').1 t = chainOf s'.1 t :=
        chainOf_emitGrants_of_notMem n reuse wind a inp hnot s'
      have hgrant := emitGrant_grants n reuse wind a inp t s
      rw [← hkeep] at hgrant
      exact hgrant
    | succ i =>
      have hi : i < ts.length := Nat.lt_of_succ_lt_succ h
      have hne : ts[i] ≠ t := fun e => hnot (e ▸ List.getElem_mem hi)
      have hold : chainOf s'.1 ts[i] = chainOf s.1 ts[i] := chainOf_emitGrant_ne n reuse wind a inp s hne
      have hgrant := ih hnd' (fun u hu => hlt u (List.mem_cons_of_mem t hu)) s' hi
      rw [hold] at hgrant
      have hk : (s'.1.count + i) % 2 ^ 31 = (s.1.count + (i + 1)) % 2 ^ 31 := by
        rw [show s'.1.count = (s.1.count + 1) % 2 ^ 31 from emitGrant_count n reuse wind a inp t s]
        omega
      exact hgrant.of_sameGrantTerms (emitGrant_sameGrantTerms n reuse wind a inp t s)
        (hlt _ (List.mem_cons_of_mem t (List.getElem_mem hi))) hk

end

/-! The renewal tick. -/

theorem grantTargets_nodup (a : AllocSt) (io : Io) : (grantTargets a io).Nodup := List.nodup_range.filter _

theorem lt_of_mem_grantTargets {a : AllocSt} {io : Io} {t : Nat} (h : t ∈ grantTargets a io) : t < 1024 :=
  List.mem_range.1 (List.mem_filter.1 h).1

/-- A tick that may grant leaves the chains and the counter as the run of its grants leaves them. -/
theorem leaseRenew_of_mayGrant (n : Nat) (reuse : Bool) {active : Bool} (a : AllocSt) (inp : Tbl DispIn) (l : LeaseSt) {io : Io}
    (h : mayGrant active io = true) :
    let r := (leaseRenew n reuse active a inp l io).1
    let g := (emitGrants n reuse (io.flag Reg.LEASE.CTRL 1) a inp (grantTargets a io) (l, io)).1
    (∀ t, chainOf r t = chainOf g t) ∧ r.count = g.count := by
  unfold leaseRenew
  dsimp only
  rw [h, Bool.true_and, emitGrants_eq_foldl]
  cases grantTargets a io with
  | nil => exact ⟨fun _ => rfl, rfl⟩
  | cons t ts => exact ⟨fun _ => rfl, rfl⟩

/-- Settles O15: a grant's SEQ, LEASE_ID, START and EXPIRY are those of R94 and R95, and the targets of one tick are all different. -/
theorem renewalGrantsEveryTarget : Obligations.RenewalGrantsEveryTarget := by
  intro n reuse a inp l io hmay ts r
  obtain ⟨hchain, hcount⟩ := leaseRenew_of_mayGrant n reuse a inp l hmay
  refine ⟨fun i h => ?_, fun t ht => ?_, ?_⟩
  · have hgrant := emitGrants_grants n reuse (io.flag Reg.LEASE.CTRL 1) a inp (grantTargets_nodup a io)
      (fun _ => lt_of_mem_grantTargets) (l, io) h
    rw [← hchain] at hgrant
    exact hgrant
  · exact (hchain t).trans (chainOf_emitGrants_of_notMem n reuse _ a inp ht (l, io))
  · exact (congrArg (· % 2 ^ 31) hcount).trans (emitGrants_count n reuse _ a inp ts (l, io))

end Sys2Proof.Machine
end

section
/-! PROOFS. A thermal step (chapter 05, R190 to R200, R203, R211, R212): the registers that the observers and Gauntlet write in it, the
credits that one observer publishes, and the runs over the enabled observers and circuits. -/
namespace Sys2Proof.Machine

/-! Operations of the shared part that write only registers of a list. -/

namespace RegsKept

variable {l : List Nat} {io io' io'' : Io}

theorem refl : RegsKept l io io := fun _ _ => rfl

theorem trans (h : RegsKept l io io') (h' : RegsKept l io' io'') : RegsKept l io io'' := fun a ha => (h' a ha).trans (h a ha)

/-- An operation that is done only on a condition. -/
theorem ite {c : Prop} [Decidable c] (h : RegsKept l io io') : RegsKept l io (if c then io' else io) := by
  split
  · exact h
  · exact refl

/-- An engine that goes one of two ways. -/
theorem branch {σ : Type} {c : Prop} [Decidable c] {x y : σ × Io} (hx : RegsKept l io x.2) (hy : RegsKept l io y.2) :
    RegsKept l io (if c then x else y).2 := by
  split
  · exact hx
  · exact hy

/-- A fold keeps what each of its turns keeps. -/
theorem foldl {σ α : Type} {f : σ × Io → α → σ × Io} (h : ∀ s a, RegsKept l s.2 (f s a).2) (as : List α) (s : σ × Io) :
    RegsKept l s.2 (as.foldl f s).2 := by
  induction as generalizing s with
  | nil => exact refl
  | cons a as ih => exact (h s a).trans (ih (f s a))

theorem setReg {r : Nat} {w : Word} (hr : r ∈ l) : RegsKept l io (io.setReg r w) :=
  fun _ ha => Io.reg_setReg_ne io w (ne_of_mem_of_not_mem hr ha).symm

theorem count {r : Nat} (hr : r ∈ l) : RegsKept l io (io.count r) := setReg hr

theorem evt {base i : Nat} (hr : base + 0x80 ∈ l) : RegsKept l io (io.evt base i) := setReg hr

/-- A packet is written or dropped: QUE.EVT_STAT, or the queue's drop counter and the block's EVT_STAT. -/
theorem emit {d : Io.QDst} {mk : Bool → List Word64} (hq : 0x40020080 ∈ l) (hd : d.dropReg ∈ l) (he : d.base + 0x80 ∈ l) :
    RegsKept l io (io.emit d mk) := by
  unfold Io.emit Io.putPkt
  cases (io.queue d.q).putAll (mk (Tbl.get io.gaps false d.gapKey)) io.now with
  | none => exact (count (io := { io with gaps := _ }) hd).trans (evt he)
  | some q => exact fun _ ha => Io.reg_setQueue_ne io q (ne_of_mem_of_not_mem hq ha).symm

end RegsKept

/-! The registers that the observers write in a step. -/

/-- QUE.EVT_STAT, and THRM's drop counter, EVT_STAT and residue counter. -/
def observerRegs : List Nat := [0x40020080, Reg.THRM.Q3_DROP, Reg.THRM.EVT_STAT, Reg.THRM.RESIDUE_CNT]

/-- Of the registers, only those in which the observers report differ. -/
abbrev ReportsOnly (io io' : Io) : Prop := RegsKept observerRegs io io'

/-- The words of an observer's record are none of them. -/
theorem ReportsOnly.obsU {io io' : Io} (h : ReportsOnly io io') (o x : Nat) : obsU io' o x = obsU io o x := by
  have hword : bankKey (0x40130100 + x) o ∉ observerRegs := by
    simp only [observerRegs, bankKey, Reg.THRM.Q3_DROP, Reg.THRM.EVT_STAT, Reg.THRM.RESIDUE_CNT, List.mem_cons, List.not_mem_nil, or_false]
    omega
  exact congrArg BitVec.toNat (h _ hword)

theorem ReportsOnly.fallbackCred {io io' : Io} (h : ReportsOnly io io') (o : Nat) : fallbackCred io' o = fallbackCred io o := by
  unfold Machine.fallbackCred
  rw [h.obsU, h.obsU]

section
variable {t o i : Nat} {pt : Nat → Option PtIn} {x : Obs} {h : ThrmSt} {io : Io}

theorem thrmEvt_reports : ReportsOnly io (io.evt 0x40130000 i) := RegsKept.evt (by decide)

theorem q3Obs_reports {ty prio mid low : Nat} : ReportsOnly io (q3Obs io ty prio o mid low) :=
  RegsKept.emit (d := q3) (by decide) (by decide) (by decide)

/-- A Q3 record and an event of THRM. -/
theorem q3Evt_reports {ty prio mid low : Nat} : ReportsOnly io ((q3Obs io ty prio o mid low).evt 0x40130000 i) :=
  q3Obs_reports.trans thrmEvt_reports

theorem trackInput_reports {cond : Option Nat} {v : Int} : ReportsOnly io (trackInput t o i cond v x io).2 := by
  unfold trackInput
  dsimp only
  split
  · exact RegsKept.refl
  · exact q3Evt_reports
  · exact RegsKept.refl
  · exact RegsKept.branch q3Obs_reports RegsKept.refl

theorem judge_reports {cur : CurIn} : ReportsOnly io (judge t o cur pt x io).1.2 :=
  trackInput_reports.trans
    (RegsKept.foldl (fun _ _ => RegsKept.branch (RegsKept.branch RegsKept.refl trackInput_reports) RegsKept.refl) _ _)

theorem lowFlow_reports {f : Int} : ReportsOnly io (lowFlow o f x io).2 := RegsKept.ite q3Evt_reports

theorem correct_reports {tin : Int} : ReportsOnly io (correct t o tin pt x io).2 := by
  unfold correct
  split
  · exact RegsKept.refl
  · extract_lets usable m e ovr since cond y r src
    have hr : ReportsOnly io r.2 := RegsKept.branch trackInput_reports RegsKept.refl
    exact RegsKept.branch (RegsKept.branch hr hr) RegsKept.refl

theorem toFallback_reports : ReportsOnly io (toFallback o x io).2 := q3Evt_reports

theorem obsState_reports : ReportsOnly io (obsState t o x io).2 := by
  unfold obsState
  cases x.st with
  | normal => exact RegsKept.branch toFallback_reports RegsKept.refl
  | recovering => exact RegsKept.branch toFallback_reports RegsKept.refl
  | fallback => exact RegsKept.branch RegsKept.refl RegsKept.refl
  | fault => exact RegsKept.refl

theorem recoverExpiry_reports : ReportsOnly io (recoverExpiry o pt h io).2 := RegsKept.branch q3Evt_reports RegsKept.refl

theorem firstStep_reports : ReportsOnly io (firstStep t o pt x io).2 := by
  unfold firstStep
  dsimp only
  split
  · exact RegsKept.refl
  · exact q3Evt_reports

theorem flagsStep_reports : ReportsOnly io (flagsStep io o pt x).2 := (RegsKept.ite thrmEvt_reports).trans (RegsKept.ite q3Evt_reports)

/-! The credits that an observer publishes. -/

/-- Credits do not grow with the horizon, and outside NORMAL each is the fallback credit (R195). -/
def CreditsOk (io : Io) (o : Nat) (x : Obs) : Prop :=
  x.cred60 ≤ x.cred10 ∧ x.cred10 ≤ x.cred1 ∧
  (x.st ≠ .normal → x.cred1 = fallbackCred io o ∧ x.cred10 = fallbackCred io o ∧ x.cred60 = fallbackCred io o)

/-- The observers' reports leave the fallback credit. -/
theorem ReportsOnly.creditsOk_iff {io' : Io} (hr : ReportsOnly io io') : CreditsOk io' o x ↔ CreditsOk io o x := by
  unfold CreditsOk
  rw [hr.fallbackCred]

theorem fallbackCredits_ok : CreditsOk io o (fallbackCredits io o x) := ⟨Nat.le_refl _, Nat.le_refl _, fun _ => ⟨rfl, rfl, rfl⟩⟩

/-- R194 takes a longer horizon's credit as a minimum with the shorter one's. -/
theorem credits_ok {tin tamb : Int} (hx : x.st = .normal) : CreditsOk io o (credits io o tin tamb x) :=
  ⟨Nat.mul_le_mul_right _ (Nat.min_le_right ..), Nat.mul_le_mul_right _ (Nat.min_le_right ..), fun hst => absurd hx hst⟩

theorem firstStep_ok : CreditsOk io o (firstStep t o pt x io).1 := by
  unfold firstStep
  dsimp only
  split <;> exact fallbackCredits_ok

/-- The trip flags are no part of the credits. -/
theorem flagsStep_ok {io' : Io} (hx : CreditsOk io o x) : CreditsOk io o (flagsStep io' o pt x).1 := hx

end

/-! The step of one observer. -/

theorem obsOf_putObs_self (h : ThrmSt) (o : Nat) (x : Obs) : obsOf (h.putObs o x) o = x := Tbl.get_set_self ..

theorem obsOf_putObs_ne (h : ThrmSt) {o j : Nat} (x : Obs) (hj : j ≠ o) : obsOf (h.putObs o x) j = obsOf h j := Tbl.get_set_ne _ _ _ _ hj

/-- Of THRM only the observers in a list differ. -/
structure OnlyObs (l : List Nat) (h h' : ThrmSt) : Prop where
  circ : h'.circ = h.circ
  lastStep : h'.lastStep = h.lastStep
  rx : h'.rx = h.rx
  others : ∀ j, j ∉ l → obsOf h' j = obsOf h j

namespace OnlyObs

variable {l l' : List Nat} {h h' h'' : ThrmSt}

theorem refl : OnlyObs l h h := ⟨rfl, rfl, rfl, fun _ _ => rfl⟩

theorem trans (a : OnlyObs l h h') (b : OnlyObs l h' h'') : OnlyObs l h h'' :=
  ⟨b.circ.trans a.circ, b.lastStep.trans a.lastStep, b.rx.trans a.rx, fun j hj => (b.others j hj).trans (a.others j hj)⟩

theorem mono (hl : l ⊆ l') (a : OnlyObs l h h') : OnlyObs l' h h' :=
  ⟨a.circ, a.lastStep, a.rx, fun j hj => a.others j fun hm => hj (hl hm)⟩

theorem putObs {o : Nat} {x : Obs} : OnlyObs [o] h (h.putObs o x) :=
  ⟨rfl, rfl, rfl, fun _ hj => obsOf_putObs_ne h x (List.ne_of_not_mem_cons hj)⟩

end OnlyObs

theorem recoverExpiry_onlyObs {o : Nat} {pt : Nat → Option PtIn} {h : ThrmSt} {io : Io} : OnlyObs [o] h (recoverExpiry o pt h io).1 := by
  unfold recoverExpiry
  dsimp only
  split
  · exact OnlyObs.putObs
  · exact OnlyObs.refl

/-- What the steps of the observers in a list do: no other observer changes, of the registers only reports do, and each of them
publishes its credits. -/
structure ObsStepped (l : List Nat) (s s' : ThrmSt × Io) : Prop where
  only : OnlyObs l s.1 s'.1
  reports : ReportsOnly s.2 s'.2
  credits : ∀ o, o ∈ l → CreditsOk s.2 o (obsOf s'.1 o)

namespace ObsStepped

variable {l : List Nat} {s s' s'' : ThrmSt × Io} {o : Nat}

theorem trans (a : ObsStepped l s s') (b : ObsStepped l s' s'') : ObsStepped l s s'' :=
  ⟨a.only.trans b.only, a.reports.trans b.reports, fun o ho => a.reports.creditsOk_iff.1 (b.credits o ho)⟩

/-- An observer steps, then those of a list; where it is among them, its later credits count. -/
theorem cons (a : ObsStepped [o] s s') (b : ObsStepped l s' s'') : ObsStepped (o :: l) s s'' where
  only := (a.only.mono (by simp)).trans (b.only.mono (by simp))
  reports := a.reports.trans b.reports
  credits j hj := by
    by_cases hl : j ∈ l
    · exact a.reports.creditsOk_iff.1 (b.credits j hl)
    · obtain rfl : j = o := by simpa [hl] using hj
      rw [b.only.others j hl]
      exact a.credits j List.mem_cons_self

/-- A run over a list of observers, each of which steps. -/
theorem foldl {f : ThrmSt × Io → Nat → ThrmSt × Io} (hf : ∀ s o, ObsStepped [o] s (f s o)) (l : List Nat) (s : ThrmSt × Io) :
    ObsStepped l s (l.foldl f s) := by
  induction l generalizing s with
  | nil => exact ⟨OnlyObs.refl, RegsKept.refl, fun _ ho => absurd ho List.not_mem_nil⟩
  | cons o l ih => exact (hf s o).cons (ih (f s o))

/-- A step that ends by writing its observer. -/
theorem of_putObs {h : ThrmSt} {x : Obs} {io : Io} (hh : OnlyObs [o] s.1 h) (hio : ReportsOnly s.2 io) (hx : CreditsOk s.2 o x) :
    ObsStepped [o] s (h.putObs o x, io) where
  only := hh.trans OnlyObs.putObs
  reports := hio
  credits j hj := by
    obtain rfl : j = o := List.mem_singleton.1 hj
    rwa [obsOf_putObs_self]

end ObsStepped

theorem observerFault_steps {o : Nat} {h : ThrmSt} {io : Io} (hx : CreditsOk io o (obsOf h o)) :
    ObsStepped [o] (h, io) (observerFault o h io) := by
  unfold observerFault
  dsimp only
  split
  · exact ObsStepped.of_putObs OnlyObs.refl q3Evt_reports fallbackCredits_ok
  · exact ⟨OnlyObs.refl, RegsKept.refl, fun j hj => List.mem_singleton.1 hj ▸ hx⟩

/-- A failed step publishes the fallback credit, also where it is the third in a row (R192, R193). -/
theorem failedStep_steps {o : Nat} {h : ThrmSt} {io : Io} : ObsStepped [o] (h, io) (failedStep o h io) := by
  unfold failedStep
  extract_lets x io1
  have hio : ReportsOnly io io1 := fun a ha =>
    (Io.errRec_reg _ _ _ _ a).trans
      (((RegsKept.count (r := Reg.THRM.RESIDUE_CNT) (by decide)).trans thrmEvt_reports : ReportsOnly io _) a ha)
  refine (ObsStepped.of_putObs OnlyObs.refl hio fallbackCredits_ok).trans (observerFault_steps ?_)
  rw [obsOf_putObs_self]
  exact hio.creditsOk_iff.2 fallbackCredits_ok

theorem obsStep_steps {t o : Nat} {cur : CurIn} {pt : Nat → Option PtIn} {h : ThrmSt} {io : Io} :
    ObsStepped [o] (h, io) (obsStep t o cur pt h io) := by
  unfold obsStep
  extract_lets src x0 j x1 rFault first rFirst fIn low tin tamb b c d y z r
  have hj : ReportsOnly io j.1.2 := judge_reports
  split
  · exact ObsStepped.of_putObs OnlyObs.refl (hj.trans flagsStep_reports) (flagsStep_ok fallbackCredits_ok)
  split
  · exact ObsStepped.of_putObs OnlyObs.refl (hj.trans (firstStep_reports.trans flagsStep_reports))
      (flagsStep_ok (hj.creditsOk_iff.1 firstStep_ok))
  · have hd : ReportsOnly io d.2 :=
      hj.trans (lowFlow_reports.trans (correct_reports.trans (obsState_reports.trans recoverExpiry_reports)))
    have hz : CreditsOk io o z := by
      unfold z
      split
      · exact credits_ok ‹_›
      · exact fallbackCredits_ok
    exact ObsStepped.of_putObs (OnlyObs.putObs.trans recoverExpiry_onlyObs) (hd.trans flagsStep_reports) (flagsStep_ok hz)

/-! The circuits, and the step of THRM. -/

/-- Of THRM only the circuits in a list differ. -/
structure OnlyCircs (l : List Nat) (h h' : ThrmSt) : Prop where
  obs : h'.obs = h.obs
  lastStep : h'.lastStep = h.lastStep
  rx : h'.rx = h.rx
  others : ∀ k, k ∉ l → circOf h' k = circOf h k

theorem circStep_onlyCircs (c : CtleSt) (t k : Nat) (h : ThrmSt) (io : Io) : OnlyCircs [k] h (circStep c t k h io).1 := by
  have hput : ∀ y, OnlyCircs [k] h (h.putCirc k y) := fun y =>
    ⟨rfl, rfl, rfl, fun _ hj => Tbl.get_set_ne _ _ _ _ (List.ne_of_not_mem_cons hj)⟩
  unfold circStep
  extract_lets
  split <;> exact hput _

/-- A run over a list of circuits, each of which steps. -/
theorem OnlyCircs.foldl {f : ThrmSt × Io → Nat → ThrmSt × Io} (hf : ∀ s k, OnlyCircs [k] s.1 (f s k).1) (l : List Nat) (s : ThrmSt × Io) :
    OnlyCircs l s.1 (l.foldl f s).1 := by
  induction l generalizing s with
  | nil => exact ⟨rfl, rfl, rfl, fun _ _ => rfl⟩
  | cons k l ih =>
    have a := hf s k
    have b := ih (f s k)
    refine ⟨b.obs.trans a.obs, b.lastStep.trans a.lastStep, b.rx.trans a.rx, fun j hj => ?_⟩
    have hk : j ∉ [k] := by simpa using List.ne_of_not_mem_cons hj
    exact (b.others j (List.not_mem_of_not_mem_cons hj)).trans (a.others j hk)

theorem Io.reg_setPair_lo (io : Io) (a v : Nat) : (io.setPair a v).reg a = w32 v :=
  (Io.reg_setReg_ne _ _ (by omega)).trans (Io.reg_setReg_self ..)

/-- A step that is due: the enabled observers step, then the enabled circuits, and the step's time is published. -/
theorem thrmStep_of_due (c : CtleSt) (residue : List Nat) (cur : Nat → CurIn) (pt : Nat → Option PtIn) {h : ThrmSt} {io : Io}
    (hdue : h.lastStep ≤ io.now / ms) :
    let r := thrmStep true c residue cur pt h io
    (∃ s, ObsStepped (enabledObs io) ({ h with lastStep := io.now / ms + 1 }, io) s ∧ OnlyCircs (enabledCircs io) s.1 r.1) ∧
    r.2.reg Reg.THRM.PUB_TIME_LO = w32 (io.now / ms * ms) := by
  unfold thrmStep
  dsimp only
  rw [Bool.true_and, if_pos (decide_eq_true hdue)]
  refine ⟨⟨_, ObsStepped.foldl (fun s o => ?_) _ _, OnlyCircs.foldl (fun s k => circStep_onlyCircs ..) _ _⟩, Io.reg_setPair_lo ..⟩
  split
  · exact failedStep_steps
  · exact obsStep_steps

/-! Gauntlet's part of the step. -/

/-- QUE.EVT_STAT, and Gauntlet's drop counter, trip counter and EVT_STAT. -/
def guardRegs : List Nat := [0x40020080, Reg.GNT.Q9_DROP, Reg.GNT.TRIP_CNT, 0x40600080]

section
variable {p fn cause src : Nat} {i : Int} {io : Io} {t : GntSt × Io}

theorem gEvt_keeps {b : Nat} : RegsKept guardRegs io (gEvt b io) := RegsKept.evt (by decide)

theorem q9Rec_keeps {prio payload : Nat} : RegsKept guardRegs io (q9Rec prio payload io) :=
  RegsKept.emit (d := q9Dst) (by decide) (by decide) (by decide)

theorem pairGo_keeps {new : PState} : RegsKept guardRegs t.2 (pairGo p new t).2 :=
  RegsKept.branch RegsKept.refl (q9Rec_keeps.trans (RegsKept.ite gEvt_keeps))

theorem tripRec_keeps : RegsKept guardRegs io (tripRec p fn cause src i io) :=
  q9Rec_keeps.trans (gEvt_keeps.trans (RegsKept.count (by decide)))

theorem sf1End_keeps {how : Nat} : RegsKept guardRegs t.2 (sf1End p how t).2 := by
  unfold sf1End
  split
  · exact q9Rec_keeps.trans gEvt_keeps
  · exact RegsKept.refl

theorem tripPair_keeps {sf1 : Bool} : RegsKept guardRegs t.2 (tripPair fn cause src i sf1 p t).2 := by
  unfold tripPair
  extract_lets x io1 s u
  have hu : RegsKept guardRegs t.2 u.2 := tripRec_keeps.trans pairGo_keeps
  exact RegsKept.branch RegsKept.refl (RegsKept.branch (hu.trans (q9Rec_keeps.trans gEvt_keeps))
    (tripRec_keeps.trans (sf1End_keeps.trans pairGo_keeps)))

theorem gntTick_keeps {th : ThrmSt} : RegsKept guardRegs t.2 (gntTick th t).2 :=
  RegsKept.foldl (fun _ _ => RegsKept.branch tripPair_keeps RegsKept.refl) _ _

end

namespace State

/-- The coils open contactors; every engine but SESS stays. -/
theorem coils_eq (old new : State) : coils old new = { new with sess := (coils old new).sess } := by
  have hfold : ∀ {f : State → Nat → State}, (∀ s p, f s p = { s with sess := (f s p).sess }) → ∀ (l : List Nat) (s : State),
      l.foldl f s = { s with sess := (l.foldl f s).sess } := by
    intro f hf l
    induction l with
    | nil => exact fun _ => rfl
    | cons p l ih =>
      intro s
      rw [List.foldl_cons, ih, hf s p]
  unfold coils
  split
  · rfl
  · refine hfold (fun s p => ?_) _ _
    split <;> rfl

end State

/-- What a step of the running part comes to: THRM's own step, then Gauntlet on its trip flags (R211, R212). -/
theorem exec_thrmStep {residue : List Nat} {s : State} (h : Running s) :
    let r := thrmStep true s.ctle residue s.current s.point s.thrm s.io
    let g := gntTick r.1 (s.gnt, r.2)
    Ends (.thrmStep residue) s fun u => u.thrm = r.1 ∧ u.io = g.2 ∧
      u = { s with thrm := u.thrm, gnt := u.gnt, sess := u.sess, pow := u.pow, io := u.io } := by
  obtain ⟨hlive, hactive⟩ := h
  intro r g
  have hv : s.onThrm (thrmStep s.io.active s.ctle residue s.current s.point) = { s with thrm := r.1, io := r.2 } := by
    rw [hactive]
    rfl
  have hexec : exec (.thrmStep residue) s =
      .next (State.gntAct (gntTick r.1) { s with thrm := r.1, io := r.2 }).settle := by
    change execThrmStep residue s = _
    unfold execThrmStep
    rw [onLogic_live _ hlive, hv]
  refine ⟨_, hexec, ?_⟩
  unfold State.gntAct
  rw [State.coils_eq]
  exact ⟨rfl, rfl, rfl⟩

/-- Settles O22: each observer's step ends by R194, whose credits are successive minima, or by the fallback credit of R195. -/
theorem stepPublishesCredits : Obligations.StepPublishesCredits := by
  intro residue s hrun hdue
  obtain ⟨⟨r, hobs, hcirc⟩, hpub⟩ := thrmStep_of_due s.ctle residue s.current s.point (io := s.io) hdue
  obtain ⟨u, hexec, hthrm, hio, hframe⟩ := exec_thrmStep (residue := residue) hrun
  rw [← hthrm] at hcirc
  have hobsOf : ∀ o, obsOf u.thrm o = obsOf r.1 o := fun o => congrArg (Tbl.get · Obs.init o) hcirc.obs
  have hcircOf : ∀ k, circOf r.1 k = circOf s.thrm k := fun k => congrArg (Tbl.get · Circ.init k) hobs.only.circ
  refine ⟨u, hexec, hcirc.lastStep.trans hobs.only.lastStep, ?_, fun o ho => ?_, fun o ho => ?_, fun k hk => ?_,
    hcirc.rx.trans hobs.only.rx, hframe⟩
  · rw [hio]
    exact (gntTick_keeps _ (by decide)).trans hpub
  · rw [hobsOf]
    exact hobs.credits o ho
  · exact (hobsOf o).trans (hobs.only.others o ho)
  · exact (hcirc.others k hk).trans (hcircOf k)

end Sys2Proof.Machine
end

section
/-! PROOFS. A vehicle's requests (chapter 07, R292, R293, R300, R302): what SESS's steps leave of the sessions and of the shared part, the
records that they write, a request taken, a gate, an answer, a change of state, a FAULT. -/
namespace Sys2Proof.Machine

/-! What a record written to a queue leaves of the shared part. -/

namespace Io

variable {io : Io}

theorem setQueue_evts {n : Nat} {q : Queue} : (io.setQueue n q).evts = io.evts := by
  unfold setQueue
  dsimp only
  split <;> split <;> rfl

/-- An event bit that is set stays set when an event comes. -/
theorem flag_evt_of_flag {base a i j : Nat} (hj : j < 32) (h : io.flag a i = true) : (io.evt base j).flag a i = true := by
  by_cases ha : a = base + 0x80
  · subst ha
    rcases Nat.lt_trichotomy i j with hlt | rfl | hgt
    · unfold flag fld evt setFlag setFld at *
      rwa [reg_setReg_self, bits_setBits_below (Nat.le_refl j) hj (Nat.le_refl i) hlt]
    · exact flag_evt_self io hj
    · unfold flag fld evt setFlag setFld at *
      rwa [reg_setReg_self, bits_setBits_above (Nat.le_refl j) hj hgt]
  · unfold flag fld at *
    rwa [reg_evt_ne io j ha]

variable {d : QDst} {mk : Bool → List Word64}

/-- The queue takes the packet. -/
theorem emit_of_some {q : Queue} (h : (io.queue d.q).putAll (mk (Tbl.get io.gaps false d.gapKey)) io.now = some q) :
    io.emit d mk = { io.setQueue d.q q with gaps := Tbl.set (io.setQueue d.q q).gaps false d.gapKey false } := by
  unfold emit putPkt
  rw [h]
  rfl

/-- The fill bank has no room for the packet. -/
theorem emit_of_none (h : (io.queue d.q).putAll (mk (Tbl.get io.gaps false d.gapKey)) io.now = none) : io.emit d mk = io.dropPkt d := by
  unfold emit putPkt
  rw [h]
  rfl

theorem emit_evts : (io.emit d mk).evts = io.evts := by
  cases h : (io.queue d.q).putAll (mk (Tbl.get io.gaps false d.gapKey)) io.now with
  | none =>
    rw [emit_of_none h]
    rfl
  | some q =>
    rw [emit_of_some h]
    exact setQueue_evts

/-- GAP waits exactly where the packet was dropped. -/
theorem emit_gap : Tbl.get (io.emit d mk).gaps false d.gapKey =
    ((io.queue d.q).putAll (mk (Tbl.get io.gaps false d.gapKey)) io.now).isNone := by
  cases h : (io.queue d.q).putAll (mk (Tbl.get io.gaps false d.gapKey)) io.now with
  | none =>
    rw [emit_of_none h]
    exact Tbl.get_set_self io.gaps false d.gapKey true
  | some q =>
    rw [emit_of_some h]
    exact Tbl.get_set_self (io.setQueue d.q q).gaps false d.gapKey false

/-- A packet with a body of one word. -/
theorem recN_singleton (d : QDst) (gapBit prio payload : Nat) :
    io.recN d 0 gapBit prio [payload] =
      io.emit d fun g => [qLenWord prio 1, qWord false true prio (payload + b2n g * 2 ^ gapBit)] := by
  unfold recN
  rfl

end Io

/-- The clock, the queues and their GAP flags are as before, and no event of SESS has been cleared. -/
structure Calm (io io' : Io) : Prop where
  clk : io'.clk = io.clk
  queues : io'.queues = io.queues
  gaps : io'.gaps = io.gaps
  events : ∀ i, io.flag Reg.SESS.EVT_STAT i = true → io'.flag Reg.SESS.EVT_STAT i = true

namespace Calm

variable {io io' io'' : Io}

theorem refl : Calm io io := ⟨rfl, rfl, rfl, fun _ h => h⟩

theorem trans (h : Calm io io') (h' : Calm io' io'') : Calm io io'' :=
  ⟨h'.clk.trans h.clk, h'.queues.trans h.queues, h'.gaps.trans h.gaps, fun i hi => h'.events i (h.events i hi)⟩

theorem evt {base j : Nat} (hj : j < 32) : Calm io (io.evt base j) := ⟨rfl, rfl, rfl, fun _ => Io.flag_evt_of_flag hj⟩

theorem count {r : Nat} (hr : Reg.SESS.EVT_STAT ≠ r) : Calm io (io.count r) where
  clk := rfl
  queues := rfl
  gaps := rfl
  events i h := by
    unfold Io.flag Io.fld at *
    rwa [Io.reg_count_ne io hr]

theorem drive {dev : String} {num : Nat} {data : List Nat} : Calm io (io.drive dev num data) := ⟨rfl, rfl, rfl, fun _ h => h⟩

end Calm

theorem sessEvt_flag {io : Io} {i : Nat} (hi : i < 32) : (io.evt 0x40200000 i).flag Reg.SESS.EVT_STAT i = true :=
  Io.flag_evt_self io hi

/-- An event of SESS that is set stays set when a Q6 record is written or dropped. -/
theorem flag_emit_q6_of_flag {io : Io} {mk : Bool → List Word64} {i : Nat} (h : io.flag Reg.SESS.EVT_STAT i = true) :
    (io.emit q6 mk).flag Reg.SESS.EVT_STAT i = true := by
  cases hput : (io.queue q6.q).putAll (mk (Tbl.get io.gaps false q6.gapKey)) io.now with
  | none =>
    rw [Io.emit_of_none hput]
    exact Io.flag_evt_of_flag (by decide) ((Calm.count (by decide)).events i h)
  | some q =>
    rw [Io.emit_of_some hput]
    exact (congrArg (fun w => bits w i i == 1) (Io.reg_setQueue_ne io q (by decide))).trans h

/-- A Q6 record, where before it and after it no queue is written. -/
theorem wrote_of_emit {s t : State} {io : Io} {mk : Bool → List Word64} (hs : Calm s.io io) (ht : Calm (io.emit q6 mk) t.io) :
    Wrote q6 mk s t := by
  have hqueue : io.queue q6.q = s.io.queue q6.q := congrArg (Tbl.get · Queue.init q6.q) hs.queues
  have hqueue' : t.io.queue q6.q = (io.emit q6 mk).queue q6.q := congrArg (Tbl.get · Queue.init q6.q) ht.queues
  have hnow : io.now = s.now := congrArg Clk.now hs.clk
  have hdrop := ht.events 5
  unfold Wrote
  rw [hqueue', ht.gaps, Io.emit_gap, ← hqueue, ← hs.gaps, ← hnow]
  cases hput : (io.queue q6.q).putAll (mk (Tbl.get io.gaps false q6.gapKey)) io.now with
  | none =>
    rw [Io.emit_of_none hput] at hdrop ⊢
    exact ⟨rfl, hdrop (sessEvt_flag (by decide)), rfl⟩
  | some q =>
    rw [Io.emit_of_some hput]
    exact ⟨Io.queue_setQueue_self .., rfl⟩

/-! The sessions. -/

section
variable {d : Nat} {f : Sess → Sess} {t : SessSt × Io}

@[simp] theorem sesOf_sUpd_self : sesOf (sUpd d f t).1 d = f (sesOf t.1 d) := Tbl.get_set_self ..

theorem sesOf_sUpd_ne {j : Nat} (hj : j ≠ d) : sesOf (sUpd d f t).1 j = sesOf t.1 j := Tbl.get_set_ne _ _ _ _ hj

end

/-- Of SESS only dispenser `d`'s session and its message counters differ. -/
structure OnlySession (d : Nat) (h h' : SessSt) : Prop where
  rest : h' = { h with disp := h'.disp, fid := h'.fid, txn := h'.txn, cmdId := h'.cmdId }
  others : ∀ j, j ≠ d → sesOf h' j = sesOf h j

theorem OnlySession.refl {d : Nat} {h : SessSt} : OnlySession d h h := ⟨rfl, fun _ _ => rfl⟩

theorem OnlySession.trans {d : Nat} {h h' h'' : SessSt} (a : OnlySession d h h') (b : OnlySession d h' h'') : OnlySession d h h'' where
  rest := b.rest.trans (by rw [a.rest])
  others j hj := (b.others j hj).trans (a.others j hj)

theorem OnlySession.sUpd {d : Nat} {f : Sess → Sess} {t : SessSt × Io} : OnlySession d t.1 (sUpd d f t).1 :=
  ⟨rfl, fun _ => sesOf_sUpd_ne⟩

/-- On the way from `t` to `t'` the session at `d` has stayed in its state: nothing else of SESS differs, and no queue has been written. -/
structure StaysIn (d : Nat) (t t' : SessSt × Io) : Prop where
  only : OnlySession d t.1 t'.1
  calm : Calm t.2 t'.2
  st : (sesOf t'.1 d).st = (sesOf t.1 d).st
  start : (sesOf t'.1 d).start = (sesOf t.1 d).start
  energyEn : (sesOf t'.1 d).energyEn = (sesOf t.1 d).energyEn

namespace StaysIn

variable {d : Nat} {t t' t'' : SessSt × Io}

theorem trans (a : StaysIn d t t') (b : StaysIn d t' t'') : StaysIn d t t'' where
  only := a.only.trans b.only
  calm := a.calm.trans b.calm
  st := b.st.trans a.st
  start := b.start.trans a.start
  energyEn := b.energyEn.trans a.energyEn

/-- The session changes in other fields. -/
theorem sUpd {f : Sess → Sess} (h : ∀ x, (f x).st = x.st ∧ (f x).start = x.start ∧ (f x).energyEn = x.energyEn) :
    StaysIn d t (sUpd d f t) := by
  obtain ⟨hst, hstart, hen⟩ := h (sesOf t.1 d)
  rw [← sesOf_sUpd_self (d := d) (f := f)] at hst hstart hen
  exact ⟨OnlySession.sUpd, Calm.refl, hst, hstart, hen⟩

/-- Only the shared part changes. -/
theorem ofIo {io : Io} (h : Calm t.2 io) : StaysIn d t (t.1, io) := ⟨OnlySession.refl, h, rfl, rfl, rfl⟩

end StaysIn

/-! The state after a step of SESS. -/

/-- SESS and the shared part as a step of SESS leaves them. -/
def State.withSess (s : State) (t : SessSt × Io) : State := { s with sess := t.1, io := t.2 }

namespace State

variable {s : State} {t : SessSt × Io}

@[simp] theorem withSess_sess : (s.withSess t).sess = t.1 := rfl
@[simp] theorem withSess_io : (s.withSess t).io = t.2 := rfl

theorem onSess_eq_withSess {f : SessSt × Io → SessSt × Io} : s.onSess f = s.withSess (f (s.sess, s.io)) := rfl

end State

theorem OnlySession.onlySess {d : Nat} {s : State} {t : SessSt × Io} (h : OnlySession d s.sess t.1) : OnlySess d s (s.withSess t) :=
  ⟨congrArg (fun x => ({ s with sess := x, io := t.2 } : State)) h.rest, h.others⟩

/-! A request that is taken (R292). -/

/-- A decoded request is counted, and SEQ_S starts again. -/
def reqTaken (d : Nat) (t : SessSt × Io) : SessSt × Io :=
  sUpd d (fun y => { y with tmr := { y.tmr with seq := some (t.2.now + t.2.fld (Reg.SESS.TMO0 d) 15 8 * sec) } })
    (sUpd d (fun y => { y with tcp := { y.tcp with recIn := y.tcp.recIn + b2n (!y.ctx.isEmpty) } }) (t.1, t.2.count Reg.SESS.RX_MSG_CNT))

/-- A request that the running session's state allows is answered by what the row says. -/
theorem sReq_of_allowed {m : Tbl Byte} {d kind : Nat} {allowed : SState → Bool} {k : SessSt × Io → SessSt × Io} {t : SessSt × Io}
    (hlive : sLive t.2 = true) (hen : sEn t.2 d = true) (hruns : (sesOf t.1 d).st.runs = true) (hfw : (sesOf t.1 d).fwStop = false)
    (hall : allowed (sesOf t.1 d).st = true) : sReq m d kind allowed k t = k (reqTaken d t) := by
  have hidle : ((sesOf t.1 d).st == .idle) = false := by
    cases hst : (sesOf t.1 d).st with
    | idle =>
      rw [hst] at hruns
      exact absurd hruns (by decide)
    | _ => rfl
  unfold sReq reqTaken
  simp only [hlive, hen, hidle, hruns, hfw, hall, Bool.and_self, Bool.not_true, Bool.or_self, Bool.false_eq_true, if_false, if_true]

section
variable {d : Nat} {t : SessSt × Io}

theorem reqTaken_stays : StaysIn d t (reqTaken d t) := by
  have hcount : StaysIn d t (t.1, t.2.count Reg.SESS.RX_MSG_CNT) := StaysIn.ofIo (Calm.count (by decide))
  refine hcount.trans (StaysIn.trans (StaysIn.sUpd ?_) (StaysIn.sUpd ?_)) <;> exact fun _ => ⟨rfl, rfl, rfl⟩

theorem sesOf_reqTaken : ∃ tcp, sesOf (reqTaken d t).1 d = { sesOf t.1 d with
    tcp := tcp
    tmr := { (sesOf t.1 d).tmr with seq := some (t.2.now + t.2.fld (Reg.SESS.TMO0 d) 15 8 * sec) } } := by
  unfold reqTaken
  rw [sesOf_sUpd_self, sesOf_sUpd_self]
  exact ⟨_, rfl⟩

/-- The counter is none of the registers of the dispensers' windows. -/
theorem reqTaken_reg_bankKey (a i : Nat) : (reqTaken d t).2.reg (bankKey a i) = t.2.reg (bankKey a i) :=
  Io.reg_count_ne t.2 (by simp only [bankKey, Reg.SESS.RX_MSG_CNT]; omega)

theorem reqTaken_evts : (reqTaken d t).2.evts = t.2.evts := rfl

end

/-! A gate (R300). -/

/-- A gate reads the dispenser's window of registers, the report and the pre-charge target. -/
theorem gateEval_congr {io io' : Io} {d : Nat} {x x' : Sess} (hreg : ∀ a, io'.reg (bankKey a d) = io.reg (bankKey a d))
    (hev : x'.ev = x.ev) (g : Nat) (h : HeadIn) : gateEval g io' d x' h = gateEval g io d x h := by
  unfold gateEval yEnergy Io.fld
  simp only [hreg, hev]

theorem gateEval_reqTaken {d : Nat} {t : SessSt × Io} (g : Nat) (h : HeadIn) :
    gateEval g (reqTaken d t).2 d (sesOf (reqTaken d t).1 d) h = gateEval g t.2 d (sesOf t.1 d) h := by
  obtain ⟨tcp, hx⟩ := sesOf_reqTaken (d := d) (t := t)
  exact gateEval_congr (fun a => reqTaken_reg_bankKey a d) (by rw [hx]) g h

theorem headFresh_reqTaken {d : Nat} {t : SessSt × Io} : headFresh (reqTaken d t).1 (reqTaken d t).2 d = headFresh t.1 t.2 d := by
  have hreg := reqTaken_reg_bankKey (d := d) (t := t) 0x40200100 d
  unfold headFresh Io.fld
  rw [hreg]
  rfl

section
variable {g d : Nat} {t : SessSt × Io}

theorem gate_result (hfresh : headFresh t.1 t.2 d = true) : (gate g d t).2 = (gateEval g t.2 d (sesOf t.1 d) (headIn t.1 d)).2 := by
  unfold gate
  rw [if_pos hfresh]

theorem gate_stays : StaysIn d t (gate g d t).1 := by
  unfold gate
  extract_lets r t1
  have h : StaysIn d t t1 := StaysIn.sUpd fun _ => ⟨rfl, rfl, rfl⟩
  dsimp only
  split
  · exact h
  · exact h.trans (StaysIn.ofIo (Calm.evt (by decide)))

theorem sesOf_gate : ∃ w, sesOf (gate g d t).1.1 d = { sesOf t.1 d with gate := w, gateOk := (gate g d t).2 } := by
  unfold gate
  extract_lets r t1
  dsimp only
  refine ⟨satU 16 r.1 * 65536 + g * 256 + b2n (!r.2), ?_⟩
  split <;> exact sesOf_sUpd_self

theorem gate_evts : (gate g d t).1.2.evts = t.2.evts := by
  unfold gate
  extract_lets
  dsimp only
  split <;> rfl

/-- A gate that fails sets its event. -/
theorem gate_flag_of_fail (h : (gate g d t).2 = false) : (gate g d t).1.2.flag Reg.SESS.EVT_STAT 4 = true := by
  unfold gate at h ⊢
  extract_lets at h ⊢
  dsimp only at h ⊢
  rw [h]
  exact sessEvt_flag (by decide)

end

/-! An answer to the vehicle. -/

section
variable {d kind result : Nat} {vals : List Nat} {t : SessSt × Io}

theorem sResp_evts : (sResp d kind result vals t).2.evts = t.2.evts ++ [⟨"VEH_RESP", d, [(sesOf t.1 d).proto, kind, result] ++ vals⟩] := by
  unfold sResp
  dsimp only
  split <;> rfl

theorem sResp_stays : StaysIn d t (sResp d kind result vals t) := by
  unfold sResp
  extract_lets x t1
  have h : StaysIn d t t1 := by
    unfold t1
    split
    · exact StaysIn.ofIo Calm.refl
    · exact StaysIn.sUpd fun _ => ⟨rfl, rfl, rfl⟩
  exact h.trans (StaysIn.ofIo Calm.drive)

theorem sesOf_sResp : ∃ tcp, sesOf (sResp d kind result vals t).1 d = { sesOf t.1 d with tcp := tcp } := by
  unfold sResp
  dsimp only
  split
  · exact ⟨_, rfl⟩
  · exact ⟨_, sesOf_sUpd_self⟩

end

/-! A change of state (R293, R315, R316). -/

section
variable {d : Nat} {st : SState} {t : SessSt × Io}

theorem sGoto_sess : (sGoto d st t).1 =
    (sUpd d (fun x => { x with st := st, since := t.2.now, run := { x.run with resid := 0, y := 0 } }) t).1 := by
  unfold sGoto
  cases st <;> rfl

theorem sesOf_sGoto : ∃ run, sesOf (sGoto d st t).1 d = { sesOf t.1 d with st := st, since := t.2.now, run := run } := by
  rw [sGoto_sess, sesOf_sUpd_self]
  exact ⟨_, rfl⟩

theorem sGoto_only : OnlySession d t.1 (sGoto d st t).1 := sGoto_sess ▸ OnlySession.sUpd

/-- The STATE record, and then at most an event. -/
theorem sGoto_io : Calm (t.2.recN q6 0 35 (if st = .fault then 0xC else 8)
    [0xB1 * 2 ^ 48 + d * 2 ^ 40 + st.code * 2 ^ 36 + (sesOf t.1 d).st.code * 2 ^ 28 + (sesOf t.1 d).cause * 2 ^ 16]) (sGoto d st t).2 := by
  unfold sGoto
  extract_lets prev t1 t2
  have hcause : (sesOf t1.1 d).cause = (sesOf t.1 d).cause := by
    unfold t1
    rw [sesOf_sUpd_self]
  rw [← hcause]
  cases st with
  | plugged | energy | ended | fault => exact Calm.evt (by decide)
  | _ => exact Calm.refl

theorem sGoto_evts : (sGoto d st t).2.evts = t.2.evts := by
  unfold sGoto
  extract_lets _ _ t2
  have h : t2.2.evts = t.2.evts := Io.emit_evts
  cases st <;> exact h

theorem sGoto_energy_flag : (sGoto d .energy t).2.flag Reg.SESS.EVT_STAT 1 = true :=
  sessEvt_flag (by decide)

theorem sGoto_fault_flag : (sGoto d .fault t).2.flag Reg.SESS.EVT_STAT 3 = true :=
  sessEvt_flag (by decide)

/-- An event of SESS that is set stays set. -/
theorem sGoto_flag_of_flag {i : Nat} (h : t.2.flag Reg.SESS.EVT_STAT i = true) : (sGoto d st t).2.flag Reg.SESS.EVT_STAT i = true :=
  sGoto_io.events i (flag_emit_q6_of_flag h)

/-- The STATE record of a change of state, where no other record is written from `s` to `u`. -/
theorem sGoto_stateRec {s u : State} (hs : Calm s.io t.2) (hu : Calm (sGoto d st t).2 u.io) (hst : (sesOf u.sess d).st = st)
    (hcause : (sesOf u.sess d).cause = (sesOf t.1 d).cause) : StateRec d (sesOf t.1 d).st s u := by
  unfold StateRec
  dsimp only
  rw [hst, hcause]
  refine wrote_of_emit hs ?_
  rw [← Io.recN_singleton]
  exact sGoto_io.trans hu

end

/-! A request that moves the session and is then answered. -/

section
variable {d kind result : Nat} {st : SState} {vals : List Nat} {s : State} {t : SessSt × Io}

theorem sesOf_moved (hstays : StaysIn d (s.sess, s.io) t) : ∃ run tcp, sesOf (sResp d kind result vals (sGoto d st t)).1 d =
    { sesOf t.1 d with st := st, since := s.now, run := run, tcp := tcp } := by
  obtain ⟨run, hgo⟩ := sesOf_sGoto (d := d) (st := st) (t := t)
  obtain ⟨tcp, hresp⟩ := sesOf_sResp (d := d) (kind := kind) (result := result) (vals := vals) (t := sGoto d st t)
  have hnow : t.2.now = s.now := congrArg Clk.now hstays.calm.clk
  rw [hgo, hnow] at hresp
  exact ⟨run, tcp, hresp⟩

theorem moved_onlySess (hstays : StaysIn d (s.sess, s.io) t) : OnlySess d s (s.withSess (sResp d kind result vals (sGoto d st t))) :=
  ((hstays.only.trans sGoto_only).trans sResp_stays.only).onlySess

theorem moved_stateRec (hstays : StaysIn d (s.sess, s.io) t) :
    StateRec d (sesOf s.sess d).st s (s.withSess (sResp d kind result vals (sGoto d st t))) := by
  obtain ⟨run, tcp, hses⟩ := sesOf_moved (kind := kind) (result := result) (st := st) (vals := vals) hstays
  have hprev : (sesOf t.1 d).st = (sesOf s.sess d).st := hstays.st
  have hst : (sesOf (sResp d kind result vals (sGoto d st t)).1 d).st = st := by rw [hses]
  have hcause : (sesOf (sResp d kind result vals (sGoto d st t)).1 d).cause = (sesOf t.1 d).cause := by rw [hses]
  rw [← hprev]
  exact sGoto_stateRec hstays.calm sResp_stays.calm hst hcause

theorem moved_answered (hstays : StaysIn d (s.sess, s.io) t) (hevts : t.2.evts = s.io.evts) :
    Answered d kind result s (s.withSess (sResp d kind result vals (sGoto d st t))) := by
  obtain ⟨run, tcp, hses⟩ := sesOf_moved (kind := kind) (result := result) (st := st) (vals := vals) hstays
  obtain ⟨run', hgo⟩ := sesOf_sGoto (d := d) (st := st) (t := t)
  have hproto : (sesOf (sGoto d st t).1 d).proto = (sesOf (sResp d kind result vals (sGoto d st t)).1 d).proto := by rw [hgo, hses]
  refine ⟨vals, sResp_evts.trans ?_⟩
  rw [sGoto_evts, hevts, hproto]
  rfl

theorem moved_flag_of_flag {i : Nat} (h : (sGoto d st t).2.flag Reg.SESS.EVT_STAT i = true) :
    (s.withSess (sResp d kind result vals (sGoto d st t))).io.flag Reg.SESS.EVT_STAT i = true := sResp_stays.calm.events i h

end

/-! FAULT (R293, R313). -/

/-- A session with the cause of its FAULT, its timers stopped but for the 100 ms of FAULT. -/
def Sess.faulting (cause now : Nat) (x : Sess) : Sess :=
  { x with
    cause := cause, openSent := cause == 3 || cause == 0xA, released := false, fwStop := false,
    tmr := { STimers.init with fault := some (now + 100 * ms) } }

section
variable {m : Tbl Byte} {d cause detail : Nat} {t : SessSt × Io}

/-- A running session faults without a command to the head, unless the pilot was lost. -/
theorem sFault_of_runs (hruns : (sesOf t.1 d).st.runs = true) (hcause : cause ≠ 3) :
    sFault m d cause detail t = sError d cause detail (sGoto d .fault (sUpd d (Sess.faulting cause t.2.now) t)) := by
  unfold sFault
  rw [if_pos hruns, if_neg hcause]
  rfl

theorem sesOf_sFault (hruns : (sesOf t.1 d).st.runs = true) (hcause : cause ≠ 3) :
    ∃ run, sesOf (sFault m d cause detail t).1 d =
      { (sesOf t.1 d).faulting cause t.2.now with st := .fault, since := t.2.now, run := run } := by
  rw [sFault_of_runs hruns hcause]
  obtain ⟨run, hgo⟩ := sesOf_sGoto (d := d) (st := .fault) (t := sUpd d (Sess.faulting cause t.2.now) t)
  rw [sesOf_sUpd_self] at hgo
  exact ⟨run, hgo⟩

theorem sFault_only (hruns : (sesOf t.1 d).st.runs = true) (hcause : cause ≠ 3) : OnlySession d t.1 (sFault m d cause detail t).1 := by
  rw [sFault_of_runs hruns hcause]
  exact OnlySession.sUpd.trans (sGoto_only (t := sUpd d (Sess.faulting cause t.2.now) t))

theorem sError_evts : (sError d cause detail t).2.evts = t.2.evts := Io.emit_evts

theorem sError_flag_of_flag {i : Nat} (h : t.2.flag Reg.SESS.EVT_STAT i = true) :
    (sError d cause detail t).2.flag Reg.SESS.EVT_STAT i = true := flag_emit_q6_of_flag h

/-- The ERROR record of a session in FAULT. -/
theorem sError_wrote {s : State} (hst : (sesOf t.1 d).st = .fault) :
    Wrote q6 (fun g => [qLenWord 0xC 1, qWord false true 0xC
      (0xB4 * 2 ^ 48 + d * 2 ^ 40 + 11 * 2 ^ 36 + cause * 2 ^ 24 + detail % 2 ^ 24 + b2n g * 2 ^ 35)])
      (s.withSess t) (s.withSess (sError d cause detail t)) := by
  refine wrote_of_emit Calm.refl ?_
  rw [← Io.recN_singleton]
  unfold sError sRec
  rw [hst]
  exact Calm.refl

/-- The FAULT of a running session, where from `s` to it no record has been written. -/
theorem sFault_faulted {s : State} (hstays : StaysIn d (s.sess, s.io) t) (hruns : (sesOf t.1 d).st.runs = true) (hcause : cause ≠ 3) :
    Faulted d cause detail s (s.withSess (sFault m d cause detail t)) := by
  obtain ⟨run, hses⟩ := sesOf_sFault (m := m) (detail := detail) hruns hcause
  have honly := hstays.only.trans (sFault_only (m := m) (detail := detail) hruns hcause)
  have hnow : t.2.now = s.now := congrArg Clk.now hstays.calm.clk
  rw [sFault_of_runs hruns hcause] at hses honly ⊢
  have hprev : (sesOf (sUpd d (Sess.faulting cause t.2.now) t).1 d).st = (sesOf s.sess d).st := by
    rw [sesOf_sUpd_self]
    exact hstays.st
  have hcalm : Calm s.io (sUpd d (Sess.faulting cause t.2.now) t).2 := hstays.calm
  generalize sUpd d (Sess.faulting cause t.2.now) t = p at *
  obtain ⟨run', hgo⟩ := sesOf_sGoto (d := d) (st := .fault) (t := p)
  have hst : (sesOf (sGoto d .fault p).1 d).st = .fault := by rw [hgo]
  have hcause' : (sesOf (sGoto d .fault p).1 d).cause = (sesOf p.1 d).cause := by rw [hgo]
  have hstate : StateRec d (sesOf s.sess d).st s (s.withSess (sGoto d .fault p)) :=
    hprev ▸ sGoto_stateRec hcalm Calm.refl hst hcause'
  unfold Faulted
  dsimp only [State.withSess_sess, State.withSess_io]
  rw [hses, ← hnow]
  exact ⟨honly.onlySess, rfl, rfl, rfl, hstays.energyEn, hstays.start, rfl, sError_flag_of_flag sGoto_fault_flag,
    s.withSess (sGoto d .fault p), rfl, hstate, sError_wrote hst⟩

theorem sFault_evts (hruns : (sesOf t.1 d).st.runs = true) (hcause : cause ≠ 3) : (sFault m d cause detail t).2.evts = t.2.evts := by
  rw [sFault_of_runs hruns hcause]
  exact sError_evts.trans sGoto_evts

/-- An event of SESS that is set stays set. -/
theorem sFault_flag_of_flag {i : Nat} (hruns : (sesOf t.1 d).st.runs = true) (hcause : cause ≠ 3)
    (h : t.2.flag Reg.SESS.EVT_STAT i = true) : (sFault m d cause detail t).2.flag Reg.SESS.EVT_STAT i = true := by
  rw [sFault_of_runs hruns hcause]
  exact sError_flag_of_flag (sGoto_flag_of_flag h)

/-- A request that is answered and then faults the session. -/
theorem answered_faulted {s : State} {kind result : Nat} {vals : List Nat} (hstays : StaysIn d (s.sess, s.io) t)
    (hevts : t.2.evts = s.io.evts) (hruns : (sesOf t.1 d).st.runs = true) (hcause : cause ≠ 3) :
    let u := s.withSess (sFault m d cause detail (sResp d kind result vals t))
    Faulted d cause detail s u ∧ Answered d kind result s u ∧
      ∀ i, t.2.flag Reg.SESS.EVT_STAT i = true → u.io.flag Reg.SESS.EVT_STAT i = true := by
  intro u
  have hresp : StaysIn d t (sResp d kind result vals t) := sResp_stays
  have hruns' : (sesOf (sResp d kind result vals t).1 d).st.runs = true := (congrArg SState.runs hresp.st).trans hruns
  obtain ⟨tcp, hses⟩ := sesOf_sResp (d := d) (kind := kind) (result := result) (vals := vals) (t := t)
  obtain ⟨run, hfault⟩ := sesOf_sFault (m := m) (detail := detail) hruns' hcause
  have hproto : (sesOf (sFault m d cause detail (sResp d kind result vals t)).1 d).proto = (sesOf t.1 d).proto := by
    rw [hfault, hses]
    rfl
  refine ⟨sFault_faulted (hstays.trans hresp) hruns' hcause, ⟨vals, ?_⟩, fun i hi => sFault_flag_of_flag hruns' hcause
    (hresp.calm.events i hi)⟩
  dsimp only [u, State.withSess_sess, State.withSess_io]
  rw [hproto, ← hevts, sFault_evts hruns' hcause, sResp_evts]

end

/-! The energy-start request. -/

section
variable {m : Tbl Byte} {d : Nat} {t : SessSt × Io}

/-- A session whose charge loop has started, its next message due at `due`. -/
def Sess.charging (due : Nat) (x : Sess) : Sess := { x with tmr := { x.tmr with prechg := none, loop := some due } }

/-- In PRECHARGE and PAUSED gate 2 decides (R293, R302). -/
theorem energyStart_of_allowed (hlive : sLive t.2 = true) (hen : sEn t.2 d = true) (hfw : (sesOf t.1 d).fwStop = false)
    (hst : (sesOf t.1 d).st = .precharge ∨ (sesOf t.1 d).st = .paused) :
    energyStart m d t =
      let r := gate 2 d (reqTaken d t)
      if r.2 then
        sResp d 5 0 [] (sGoto d .energy (sUpd d (Sess.charging (t.2.now + t.2.fld (Reg.SESS.TMO1 d) 15 0 * ms)) r.1))
      else sFault m d 0xC 0 (sResp d 5 1 [] r.1) := by
  have hruns : (sesOf t.1 d).st.runs = true := by rcases hst with h | h <;> rw [h] <;> rfl
  exact sReq_of_allowed hlive hen hruns hfw (by rcases hst with h | h <;> rw [h] <;> rfl)

theorem gate_reqTaken_result {g : Nat} (hfresh : headFresh t.1 t.2 d = true) :
    (gate g d (reqTaken d t)).2 = (gateEval g t.2 d (sesOf t.1 d) (headIn t.1 d)).2 :=
  (gate_result (headFresh_reqTaken.trans hfresh)).trans (congrArg Prod.snd (gateEval_reqTaken g _))

theorem sesOf_gate_reqTaken {g : Nat} : ∃ w tcp, sesOf (gate g d (reqTaken d t)).1.1 d = { sesOf t.1 d with
    gate := w
    gateOk := (gate g d (reqTaken d t)).2
    tcp := tcp
    tmr := { (sesOf t.1 d).tmr with seq := some (t.2.now + t.2.fld (Reg.SESS.TMO0 d) 15 8 * sec) } } := by
  obtain ⟨tcp, hreq⟩ := sesOf_reqTaken (d := d) (t := t)
  obtain ⟨w, hgate⟩ := sesOf_gate (g := g) (d := d) (t := reqTaken d t)
  rw [hreq] at hgate
  exact ⟨w, tcp, hgate⟩

end

theorem exec_energyStartRequest {d : Nat} {s : State} (hlive : s.live = true) :
    exec (.energyStartRequest d) s = .next (s.withSess (energyStart s.alloc.model d (s.sess, s.io))) := by
  change execEnergyStartRequest d s = _
  unfold execEnergyStartRequest onSessM
  rw [onLogic_live _ hlive, State.onSess_eq_withSess]

/-- Settles O28: gate 2 decides the request, as evaluated from the fresh report; ENERGY or FAULT with cause GATE follows. -/
theorem energyStartsOnlyThroughGate2 : Obligations.EnergyStartsOnlyThroughGate2 := by
  intro d s hserves x h hst hfw hfresh
  obtain ⟨⟨hlive, hactive⟩, hctrl, hen⟩ := hserves
  have hsess : sLive s.io = true := by
    unfold sLive
    rw [hctrl, hactive]
    rfl
  have hexec := exec_energyStartRequest (d := d) hlive
  rw [energyStart_of_allowed (t := (s.sess, s.io)) hsess hen hfw hst] at hexec
  have hstays : StaysIn d (s.sess, s.io) (gate 2 d (reqTaken d (s.sess, s.io))).1 := reqTaken_stays.trans gate_stays
  have hevts : (gate 2 d (reqTaken d (s.sess, s.io))).1.2.evts = s.io.evts := gate_evts.trans reqTaken_evts
  have hevent := gate_flag_of_fail (g := 2) (d := d) (t := reqTaken d (s.sess, s.io))
  obtain ⟨w, tcp, hgate⟩ := sesOf_gate_reqTaken (g := 2) (d := d) (t := (s.sess, s.io))
  rw [← gate_reqTaken_result (g := 2) (t := (s.sess, s.io)) hfresh]
  generalize gate 2 d (reqTaken d (s.sess, s.io)) = r at *
  constructor
  · intro hpass
    rw [if_pos hpass] at hexec
    have hcharging := hstays.trans (StaysIn.sUpd (f := Sess.charging (s.io.now + s.io.fld (Reg.SESS.TMO1 d) 15 0 * ms))
      fun _ => ⟨rfl, rfl, rfl⟩)
    obtain ⟨run, tcp', hses⟩ := sesOf_moved (kind := 5) (result := 0) (st := .energy) (vals := []) hcharging
    rw [sesOf_sUpd_self, hgate, hpass] at hses
    refine ⟨_, hexec, moved_onlySess hcharging, moved_stateRec hcharging, moved_answered hcharging hevts,
      moved_flag_of_flag sGoto_energy_flag, ?_⟩
    dsimp only [State.withSess_sess]
    rw [hses]
    exact ⟨rfl, rfl⟩
  · intro hfail
    rw [if_neg (by rw [hfail]; decide)] at hexec
    have hruns : (sesOf r.1.1 d).st.runs = true := by
      rw [hstays.st]
      rcases hst with hst | hst <;> exact congrArg SState.runs hst
    obtain ⟨hfaulted, hanswered, hevents⟩ := answered_faulted (m := s.alloc.model) (detail := 0) (kind := 5) (result := 1) (vals := [])
      hstays hevts hruns (by decide : 0xC ≠ 3)
    exact ⟨_, hexec, hfaulted, hanswered, hevents 4 (hevent hfail)⟩

end Sys2Proof.Machine
end

section
/-! PROOFS. An Atkai message that fails a check (chapter 08, R324, R325): the checks in the words of the spec, the register and event bit of
each, and what counting a discard leaves of the registers. -/
namespace Sys2Proof.Machine

/-! The counter of a discard and its event bit. -/

namespace Io

/-- An event coming leaves the other event bits of its block. -/
theorem flag_evt_ne (io : Io) {base i j : Nat} (hj : j < 32) (h : i ≠ j) :
    (io.evt base j).flag (base + 0x80) i = io.flag (base + 0x80) i := by
  unfold flag fld evt setFlag setFld
  rw [reg_setReg_self]
  rcases Nat.lt_or_gt_of_ne h with hlt | hgt
  · rw [bits_setBits_below (Nat.le_refl j) hj (Nat.le_refl i) hlt]
  · rw [bits_setBits_above (Nat.le_refl j) hj hgt]

/-- The event bits of a block once an event has come: those set before, and its own. -/
theorem flag_evt_iff (io : Io) {base i j : Nat} (hj : j < 32) :
    (io.evt base j).flag (base + 0x80) i = true ↔ io.flag (base + 0x80) i = true ∨ j = i := by
  by_cases h : i = j
  · subst h
    exact iff_of_true (flag_evt_self io hj) (Or.inr rfl)
  · rw [flag_evt_ne io hj h]
    exact (or_iff_left (Ne.symm h)).symm

/-- A count leaves the bits of every other register. -/
theorem flag_count_ne (io : Io) {a c i : Nat} (h : a ≠ c) : (io.count c).flag a i = io.flag a i := by
  unfold flag fld
  rw [reg_count_ne io h]

/-- FAB counts a discard in the register `c` and sets the event bit `ev`, if the check has one. -/
def countDiscard (io : Io) (c : Nat) : Option Nat → Io
  | none => io.count c
  | some b => (io.count c).evt 0x40300000 b

variable {io : Io} {c : Nat} {ev : Option Nat}

/-- A discard counted leaves all but registers. -/
theorem countDiscard_eq : io.countDiscard c ev = { io with regs := (io.countDiscard c ev).regs } := by
  cases ev <;> rfl

theorem reg_countDiscard_ne {a : Nat} (hc : a ≠ c) (hevt : a ≠ 0x40300080) : (io.countDiscard c ev).reg a = io.reg a := by
  cases ev with
  | none => exact reg_count_ne io hc
  | some b => exact (reg_evt_ne _ b hevt).trans (reg_count_ne io hc)

theorem reg_countDiscard_self (hc : c ≠ 0x40300080) : (io.countDiscard c ev).reg c = incSat (io.reg c) := by
  cases ev with
  | none => exact reg_count_self io c
  | some b => exact (reg_evt_ne _ b hc).trans (reg_count_self io c)

theorem flag_countDiscard_iff {i : Nat} (hc : c ≠ 0x40300080) (hev : ∀ b, ev = some b → b < 32) :
    (io.countDiscard c ev).flag 0x40300080 i = true ↔ io.flag 0x40300080 i = true ∨ ev = some i := by
  cases ev with
  | none =>
    change (io.count c).flag _ _ = true ↔ _
    rw [flag_count_ne io hc.symm]
    exact (or_iff_left (Option.some_ne_none i).symm).symm
  | some b =>
    have hset := (io.count c).flag_evt_iff (base := 0x40300000) (i := i) (hev b rfl)
    rw [flag_count_ne io hc.symm] at hset
    exact hset.trans (or_congr_right Option.some_inj.symm)

end Io

/-! The checks of R324. -/

theorem unitOnly_iff {ty sub : Nat} : unitOnly ty sub = true ↔ ty ∈ [1, 6, 7, 0xB] ∨ (ty = 8 ∧ sub = 4) := by
  simp only [unitOnly, Bool.or_eq_true, Bool.and_eq_true, beq_iff_eq, List.mem_cons, List.not_mem_nil, or_false, or_assoc]

theorem AtkMsg.formatOk_iff (m : AtkMsg) : m.formatOk = true ↔
    m.version = 1 ∧ m.rsvZero = true ∧ m.flags ≤ 1 ∧ m.recvLen = 48 + m.len ∧ m.len ≤ 1404 ∧ m.payload.length = m.len ∧
      issuedType m.ty m.sub = true ∧ m.ty ∉ [1, 6, 7, 0xB] ∧ ¬ (m.ty = 8 ∧ m.sub = 4) := by
  have hunit : (!unitOnly m.ty m.sub) = true ↔ m.ty ∉ [1, 6, 7, 0xB] ∧ ¬ (m.ty = 8 ∧ m.sub = 4) := by
    rw [← not_or, ← unitOnly_iff, Bool.not_eq_true', Bool.not_eq_true]
  simp only [formatOk, Bool.and_eq_true, hunit, beq_iff_eq, decide_eq_true_eq, and_assoc]

theorem AtkMsg.dstOk_iff (m : AtkMsg) (own : Nat) (active : Bool) : m.dstOk own active = true ↔
    m.dst = own ∨ m.dst = 4 ∨ m.dst = 0xFFFF ∨ (m.dst = 3 ∧ active = true) := by
  simp only [dstOk, Bool.or_eq_true, Bool.and_eq_true, beq_iff_eq, or_assoc]

theorem AtkMsg.timeOk_iff (m : AtkMsg) (now replayMs : Nat) : m.timeOk now replayMs = true ↔
    m.time ≤ now + 1000000 ∧ now ≤ m.time + replayMs * 1000000 := by
  unfold timeOk ms
  rw [Bool.and_eq_true, decide_eq_true_iff, decide_eq_true_iff]

section
variable {io : Io} {act : Bool} {m : AtkMsg}

/-- A discard is counted beside EVT_STAT, and its event bit, if it has one, is a bit of EVT_STAT. -/
theorem atkReject_registers {c : Nat} {ev : Option Nat} (h : atkReject io act m = some (c, ev)) :
    c ≠ 0x40300080 ∧ ∀ b, ev = some b → b < 32 := by
  unfold atkReject at h
  repeat' split at h
  all_goals cases h
  all_goals exact ⟨by decide, fun b hb => by cases hb <;> decide⟩

/-- R324, R325: a message that fails a check is counted and not accepted. -/
theorem atkReceive_of_reject {c : Nat} {ev : Option Nat} (hen : io.flag Reg.FAB.CTRL 0 = true)
    (h : atkReject io act m = some (c, ev)) : atkReceive io act m = (io.countDiscard c ev, false) := by
  unfold atkReceive
  rw [if_pos hen, h]
  cases ev <;> rfl

theorem exec_atkaiDiscard_of_reject {s : State} {c : Nat} {ev : Option Nat} (hlive : s.live = true)
    (hen : s.io.flag Reg.FAB.CTRL 0 = true) (h : atkReject s.io s.io.active m = some (c, ev)) :
    exec (.atkaiDiscard m) s = .next { s with io := s.io.countDiscard c ev } := by
  change execAtkaiDiscard m s = _
  unfold execAtkaiDiscard State.receive
  rw [onLogic_live _ hlive, atkReceive_of_reject hen h]
  rfl

end

/-- R325, for the first check that fails. -/
theorem atkaiDiscard_countsOnly {m : AtkMsg} {s : State} {c : Nat} {ev : Option Nat} (hlive : s.live = true)
    (hen : s.io.flag Reg.FAB.CTRL 0 = true) (h : atkReject s.io s.io.active m = some (c, ev)) :
    Ends (.atkaiDiscard m) s fun t =>
      OnlyRegs s t ∧ RegsBut [c, 0x40300080] s t ∧ t.io.reg c = incSat (s.io.reg c) ∧
      (∀ b, b < 32 → (t.io.flag 0x40300080 b = true ↔ s.io.flag 0x40300080 b = true ∨ ev = some b)) := by
  obtain ⟨hc, hev⟩ := atkReject_registers h
  refine ⟨_, exec_atkaiDiscard_of_reject hlive hen h, ?_, ?_, Io.reg_countDiscard_self hc,
    fun b _ => Io.flag_countDiscard_iff hc hev⟩
  · exact congrArg (fun io => { s with io := io }) Io.countDiscard_eq
  · intro a ha
    exact Io.reg_countDiscard_ne (List.ne_of_not_mem_cons ha) (List.ne_of_not_mem_cons (List.not_mem_of_not_mem_cons ha))

/-- Settles O33: the order of R324's checks names the counter, and counting the discard touches that register and EVT_STAT alone. -/
theorem failedChecksChangeOnlyTheirCounter : Obligations.FailedChecksChangeOnlyTheirCounter := by
  refine ⟨fun m s c ev => atkaiDiscard_countsOnly, fun m io act => ?_⟩
  dsimp only
  rw [← m.formatOk_iff, ← m.dstOk_iff, ← m.timeOk_iff]
  simp only [Bool.not_eq_true]
  unfold atkReject
  refine ⟨fun hf => ?_, fun hf hd => ?_, fun hf hd hk => ?_, fun hf hd hk ht => ?_, fun hf hd hk ht hw => ?_,
    fun hf hd hk ht hw hq => ?_, fun hf hd hk ht hw hq => ?_⟩
  · simp only [hf, Bool.not_false, if_true]
  · simp only [hf, hd, Bool.not_true, Bool.not_false, Bool.false_eq_true, if_true, if_false]
  · simp only [hf, hd, hk, Bool.not_true, Bool.not_false, Bool.false_eq_true, if_true, if_false]
  · simp only [hf, hd, hk, ht, Bool.not_true, Bool.not_false, Bool.false_eq_true, if_true, if_false]
  · simp only [hf, hd, hk, ht, hw, Bool.not_true, Bool.not_false, Bool.false_eq_true, if_true, if_false]
  · simp only [hf, hd, hk, ht, hw, hq, Bool.not_true, Bool.not_false, Bool.false_eq_true, if_true, if_false]
  · simp only [hf, hd, hk, ht, hw, hq, Bool.not_true, Bool.false_eq_true, if_false]

end Sys2Proof.Machine
end

section
/-! PROOFS. An access that nothing grants (chapter 01, R20, R21; chapter 16, R674): what an ACCESS error writes in a log, and what a refused
write and a refused read leave of the state. -/
namespace Sys2Proof.Machine

/-! An ACCESS error in a log. -/

/-- R592, R593, R595: class ACCESS neither counts as corrected nor escalates, so R594 alone governs its record. -/
theorem ErrLog.record_of_access (l : ErrLog) {e : ErrRec} (h : e.cls = 1) : l.record e = (l.push e, false) := by
  unfold record
  rw [h]
  rfl

theorem ErrLog.push_of_room {l : ErrLog} (e : ErrRec) (h : l.recs.length < 8) : (l.push e).recs = l.recs ++ [e] := by
  rw [push, if_pos h]

theorem ErrLog.push_of_full {l : ErrLog} (e : ErrRec) (h : ¬ l.recs.length < 8) :
    (l.push e).recs = l.recs ∧ (l.push e).ovf = true ∧ (l.push e).ovfCnt = incSat l.ovfCnt := by
  rw [push, if_neg h]
  exact ⟨rfl, rfl, rfl⟩

namespace Io

/-- Of the logs, an ACCESS error pushes its record on that of its block. -/
theorem get_access_logs (io : Io) (b : Block) (n code : Nat) (who : Who) (a v : Nat) :
    Tbl.get (io.access b n code who a v).logs ErrLog.init (b.logKey n) =
      (Tbl.get io.logs ErrLog.init (b.logKey n)).push ⟨1, code, who.code, v % 256, a % 0x10000000000, 0, io.now⟩ := by
  rw [access, errRec_logs, Tbl.get_set_self, ErrLog.record_of_access _ rfl]

theorem accessAt_of_blockAt {a : Nat} {b : Block} {n o : Nat} (h : blockAt a = some (b, n, o)) (io : Io) (code : Nat) (who : Who)
    (v : Nat) : io.accessAt code who a v = io.access b n code who a v := by
  rw [accessAt, h]

end Io

/-- R591, R594: a state with the logs that an ACCESS error leaves has it logged. -/
theorem logged_of_access {b : Block} {n code : Nat} {who : Who} {a v : Nat} {s t : State}
    (h : t.io.logs = (s.io.access b n code who a v).logs) : Logged b n code who a s t := by
  unfold Logged
  rw [h, Io.get_access_logs]
  dsimp only
  split
  next hroom => exact ⟨v % 256, ErrLog.push_of_room _ hroom⟩
  next hfull => exact ErrLog.push_of_full _ hfull

/-! A refused access: discarded, or reading zero, and logged. -/

section
variable {who : Who} {a : Nat} {b : Block} {n o : Nat}

/-- The state after a write that block `b` discards. -/
def State.discardWrite (b : Block) (n : Nat) (who : Who) (a v : Nat) (s : State) : State := s.onIo fun io => io.access b n 1 who a v

/-- The state after a read that block `b` answers with zero. -/
def State.zeroRead (b : Block) (n : Nat) (who : Who) (a : Nat) (s : State) : State :=
  s.onIo fun io => { io.access b n 1 who a 0 with bus := 0 }

theorem discardWrite_logs {v : Nat} {s : State} :
    OnlyIo s (s.discardWrite b n who a v) ∧ (s.discardWrite b n who a v).io.regs = s.io.regs ∧
      (s.discardWrite b n who a v).io.queues = s.io.queues ∧ (s.discardWrite b n who a v).io.stage = s.io.stage ∧
      (s.discardWrite b n who a v).io.out = s.io.out ∧ Logged b n 1 who a s (s.discardWrite b n who a v) :=
  ⟨rfl, Io.errRec_regs .., Io.errRec_queues .., Io.errRec_stage .., Io.errRec_out .., logged_of_access rfl⟩

theorem zeroRead_logs {s : State} :
    OnlyIo s (s.zeroRead b n who a) ∧ (s.zeroRead b n who a).io.bus = 0 ∧ (s.zeroRead b n who a).io.regs = s.io.regs ∧
      (s.zeroRead b n who a).io.queues = s.io.queues ∧ Logged b n 1 who a s (s.zeroRead b n who a) :=
  ⟨rfl, rfl, Io.errRec_regs .., Io.errRec_queues .., logged_of_access rfl⟩

/-- R21, for a write. -/
theorem regWrite_of_notGranted (hblock : blockAt a = some (b, n, o)) (hdesc : (regDesc a).isSome = true)
    (hright : mayWrite who a = false) (v : Word) (s : State) : s.regWrite who a v = s.discardWrite b n who a v.toNat := by
  have hsome : (regDesc a).isNone = false := Option.isNone_eq_false_iff.mpr hdesc
  simp only [State.regWrite, hblock, hsome, hright, Io.accessAt_of_blockAt hblock, State.discardWrite, Bool.false_eq_true, if_false,
    Bool.not_false, if_true]

/-- R21, for a read. -/
theorem regRead_of_notGranted (hblock : blockAt a = some (b, n, o)) (hdesc : (regDesc a).isSome = true)
    (hright : mayRead who a = false) (ev : Nat) (s : State) : s.regRead who a ev = s.zeroRead b n who a := by
  have hsome : (regDesc a).isNone = false := Option.isNone_eq_false_iff.mpr hdesc
  simp only [State.regRead, hblock, hsome, hright, Io.accessAt_of_blockAt hblock, State.zeroRead, Bool.false_eq_true, if_false,
    Bool.not_false, if_true]

end

/-! The commands, while the part runs. -/

section
variable {s : State} (hlive : s.live = true) (who : Who) (a : Nat)
include hlive

theorem exec_registerWrite (v : Word) : exec (.registerWrite who a v) s = .next (s.regWrite who a v) := onWho_live who _ hlive

theorem exec_rcFieldRead (ev : Nat) : exec (.rcFieldRead who a ev) s = .next (s.regRead who a ev) := onWho_live who _ hlive

theorem exec_loReadLatch : exec (.loReadLatch who a) s = .next (s.regRead who a 0) := onWho_live who _ hlive

/-- R674, for a write. -/
theorem exec_unmappedWrite (hmap : mappedAt a = false) (v : Word) :
    exec (.unmappedAccess who true a v) s = .next (s.discardWrite .sys 0 who a v.toNat) := by
  refine (onWho_live who _ hlive).trans ?_
  rw [hmap]
  rfl

/-- R674, for a read. -/
theorem exec_unmappedRead (hmap : mappedAt a = false) (v : Word) :
    exec (.unmappedAccess who false a v) s = .next (s.zeroRead .sys 0 who a) := by
  refine (onWho_live who _ hlive).trans ?_
  rw [hmap]
  rfl

end

/-- Settles O6: R21's refusals end in `discardWrite` and `zeroRead` of the target block, R674's in those of SYS. -/
theorem accessesNotGrantedDoNothing : Obligations.AccessesNotGrantedDoNothing := by
  refine ⟨fun who a v s b n o hlive hblock hdesc hright => ?_, fun who a ev s b n o hlive hblock hdesc hright => ⟨?_, ?_⟩,
    fun who a v s hlive hmap => ⟨?_, ?_⟩⟩
  · have hexec := exec_registerWrite hlive who a v
    rw [regWrite_of_notGranted hblock hdesc hright] at hexec
    exact ⟨_, hexec, discardWrite_logs⟩
  · have hexec := exec_rcFieldRead hlive who a ev
    rw [regRead_of_notGranted hblock hdesc hright] at hexec
    exact ⟨_, hexec, zeroRead_logs⟩
  · have hexec := exec_loReadLatch hlive who a
    rw [regRead_of_notGranted hblock hdesc hright] at hexec
    exact ⟨_, hexec, zeroRead_logs⟩
  · obtain ⟨hio, hregs, -, -, -, hlog⟩ := discardWrite_logs (b := .sys) (n := 0) (who := who) (a := a) (v := v.toNat) (s := s)
    exact ⟨_, exec_unmappedWrite hlive who a hmap v, hio, hregs, hlog⟩
  · obtain ⟨hio, hbus, hregs, -, hlog⟩ := zeroRead_logs (b := .sys) (n := 0) (who := who) (a := a) (s := s)
    exact ⟨_, exec_unmappedRead hlive who a hmap v, hio, hregs, hbus, hlog⟩

end Sys2Proof.Machine
end
